-- ==== Sys2Proof/Word.lean ====
section
/-! DEFINITION. The word types of the two parts and their plainest arithmetic: bytes, the 32-bit registers of
BAR0 and of the Evxus window, 64-bit words, and the rounding rule "to nearest, ties to even" that many rules name. -/

namespace Sys2Proof

abbrev Byte := BitVec 8
/-- A register (00: "Registers are 32 bits wide"). -/
abbrev Word := BitVec 32
abbrev DWord := BitVec 64

/-- A list of things kept under a numeric key, in ascending key order. -/
abbrev Table (α : Type) := List (Nat × α)

/-- `a / b` rounded to nearest, ties to even (`b` positive). -/
def divRNE (a : Int) (b : Nat) : Int :=
  let q := a / (b : Int)
  let r := a % (b : Int)
  if 2 * r < b then q
  else if 2 * r > b then q + 1
  else if q % 2 = 0 then q else q + 1

/-- Clamp to an interval. -/
def clampInt (lo hi x : Int) : Int := if x < lo then lo else if hi < x then hi else x

/-- Clamp a natural number to an interval. -/
def clampNat (lo hi x : Nat) : Nat := if x < lo then lo else if hi < x then hi else x

/-- Signed saturation into a 32-bit field (R470). -/
def sat32 (x : Int) : Word :=
  if x > 0x7FFFFFFF then 0x7FFFFFFF#32
  else if x < -0x80000000 then 0x80000000#32
  else BitVec.ofInt 32 x

/-- Unsigned saturation into a 32-bit field (R470, R42). -/
def satU32 (x : Nat) : Word := if x ≥ 0xFFFFFFFF then 0xFFFFFFFF#32 else BitVec.ofNat 32 x

/-- Signed difference of two 16-bit sequence numbers, modulo 2^16 (R79). -/
def seqDiff (b a : BitVec 16) : Int := (b - a).toInt

end Sys2Proof
end

