-- ==== Sys2Proof/Syntax/Bale.lean ====
section
/-! DEFINITION. Bales (R217), DMA descriptors (R312), slot tables (R200) and engine set-ups, as commands and states
share them. -/

namespace Sys2Proof

/-- A bale: its header fields (R217) and its payload bytes in wire order (R241). HCRC is computed, not stored. -/
structure Bale where
  variant : BitVec 2
  tree : BitVec 12
  format : BitVec 4
  late : Bool
  invalid : Bool
  poison : Bool
  clamped : Bool
  dipSuspect : Bool
  down : Bool
  bale : BitVec 32
  step : BitVec 64
  contrib : BitVec 32
  source : BitVec 20
  digestFrag : BitVec 32
  invCause : Byte
  payload : List Byte
  deriving DecidableEq, Repr

/-- What a slot-table entry says (R200). -/
structure SlotEntry where
  slot : Nat
  engine : Nat
  startCyc : Nat
  endCyc : Nat
  setup : Nat
  /-- 63 means none -/
  waitTally : Nat
  waitVal : Nat
  produces : Bool
  deriving DecidableEq, Repr

/-- A slot table: its header, and its entries of 16 bytes each, most significant byte first (R200). -/
structure SlotTable where
  group : Nat
  count : Nat
  fSched : Nat
  guardLimit : Nat
  raw : List (BitVec 128)
  deriving DecidableEq, Repr

/-- What an engine set-up makes its engine do (the almanac's engine set-ups; R200, R281, R306, R311, R234). -/
inductive SetupAct where
  /-- reduce the landing of waystation record `w` into the output bales named -/
  | reduce (w : Nat) (bales : List Nat)
  /-- form the return bales named of parameter set `u` (R234) -/
  | ret (u : Nat) (bales : List Nat)
  /-- issue the DMA chain at a region 3 address under a segment (R311) -/
  | chain (addr : Nat) (seg : Nat)
  /-- arrive at a gate (R306) -/
  | gate (g : Nat)
  /-- nothing besides the hand-overs and the signal -/
  | idle
  deriving DecidableEq, Repr

/-- An engine set-up: the act, bank hand-overs at its end (bank, new owner), a signal (tally reference, delta), the accesses
it makes to the banks of its die (die SRAM address, bytes; R276), and where a DMA has put the stack data that it consumes, a
residual or parameters (bale, die SRAM address; R289). -/
structure Setup where
  act : SetupAct
  handover : List (Nat × Nat)
  signal : Option (Nat × Int)
  access : List (Nat × Nat) := []
  stackIn : List (Nat × Nat) := []
  deriving DecidableEq, Repr

/-- An SRAM line in error that an entry reads (R277): the line of the die, was the error corrected, the bale that it feeds, and
whether the line holds that bale's residual. -/
structure EccLine where
  line : Nat
  corrected : Bool
  bale : Nat
  residual : Bool
  deriving DecidableEq, Repr

/-- One elastic crossing as a stretched period meets it (R207): its number between the two dies, whichever of them sends, the die
at its other side, and the entries in hand whose data it carries: sequencer, place in the table. -/
structure CrossUse where
  id : Nat
  other : Nat
  hits : List (Nat × Nat)
  deriving DecidableEq, Repr

/-- A bale in its frame (R219, R220): the reduce die that the frame addresses, and the bytes of the bale. -/
structure BaleIn where
  die : Nat
  bytes : List Byte
  deriving DecidableEq, Repr

/-- What the table loader has read from host memory (R363): the bytes, and whether a read failed after them. -/
structure TcamRead where
  bytes : List Byte
  failed : Bool := false
  deriving DecidableEq, Repr

/-- A host access of the bank aperture (R285): a write of a value; a read, whose line may meet an error, corrected or not (R277). -/
inductive AperAcc where
  | write (v : DWord)
  | read (ecc : Option Bool)
  deriving DecidableEq, Repr

/-- What the stacks answer to an update of a bale (R288): the stack of the die whose error was not corrected, and that of each
corrected one. -/
structure StackEcc where
  ue : Option Nat := none
  ce : List Nat := []
  deriving DecidableEq, Repr

/-- Deltas of a bale that one MGMT frame brings: the rows' bytes, and what the stacks answer to the reads that they ask for (R288,
R387). -/
structure DeltaFrame where
  rows : List (Nat × List Byte)
  ecc : StackEcc := {}
  deriving DecidableEq, Repr

/-- How a drill ends (R393): has it gone well, and of a CONVOY_VERIFY the chunks that were rebuilt, each with its address in this
package's stacks. -/
structure DrillResult where
  passed : Bool
  rebuilt : List (Nat × List Byte) := []
  deriving DecidableEq, Repr

/-- How the source of a DMA burst answers (R277, R288, R313, R314): 0, or status 5 or 6 where it fails, the lines or units that it
corrected, and the line of the burst, counted from its first, whose error was not corrected. -/
structure BurstEnd where
  err : Nat
  ce : Nat
  line : Nat := 0
  deriving DecidableEq, Repr

/-- The fetch of a chain's next descriptor (R288, R311, R314): of a host chain the words, none where the fetch fails; of a scheduled one
the units of the stack that it corrected, and whether one was not correctable. -/
structure DescFetch where
  words : Option (List Word) := none
  ce : Nat := 0
  ue : Bool := false
  deriving DecidableEq, Repr

/-- What the memories answer to an entry that issues: the SRAM lines in error that it reads (R277), and of a chain that it starts how
the fetch of the first descriptor ends (R288). -/
structure IssueEcc where
  lines : List EccLine := []
  fetch : DescFetch := {}
  deriving DecidableEq, Repr

/-- A DMA descriptor (R312): its sixteen words. -/
structure Desc where
  words : List Word
  deriving DecidableEq, Repr

end Sys2Proof
end

