-- ==== Sys2Proof/Syntax/Alm.lean ====
section
/-! DEFINITION. What an almanac configures (R335 to R349), in the form in which commands and the state hold it: the
header of R336, the resources of R347, and the content of the sections. The spec gives the byte layout of the header,
the directory and the signature; the content of the other sections is given as structured data (log entry 21). -/

namespace Sys2Proof

/-- A member of a group bound at an aggregator: its node identifier, the port or tap below which it lies, whether it
is an Adejan contributor (R173, R179). -/
structure Member where
  node : BitVec 20
  port : Nat
  adj : Bool
  deriving DecidableEq, Repr

/-- A child aggregator: its node identifier, its port, and the node identifiers below it (R179, R188). -/
structure ChildAgg where
  node : BitVec 20
  port : Nat
  below : List (BitVec 20)
  deriving DecidableEq, Repr

/-- What is bound of a group at a node (R173, R179, R183). -/
structure GroupCfg where
  adjContrib : Bool := false
  members : List Member := []
  children : List ChildAgg := []
  /-- uplink port of each plane; none where the node has none (R180) -/
  uplinks : List (Option Nat) := [none, none]
  /-- ports from which a LAUNCH of the group is acted on (R183) -/
  parents : List Nat := []
  /-- the Adejan contributors of the whole group (R20, R173, R181) -/
  adjs : List (BitVec 20) := []
  deriving DecidableEq, Repr

/-- A slot table bound to a sequencer, with its engine set-ups; a return table names its parameter set and
RETURN_OFS in ns (R200, R234). -/
structure SeqTable where
  table : SlotTable := ⟨0, 0, 0, 0, []⟩
  setups : List Setup := []
  pset : Option Nat := none
  returnOfs : Nat := 0
  deriving DecidableEq, Repr

/-- A child of a waystation: node identifier, expected count, and the group members below it (R214, R222). -/
structure Child where
  node : BitVec 20
  exp : Nat
  members : List (BitVec 20)
  deriving DecidableEq, Repr

/-- One waystation binding (R213 to R229, R238, R271). -/
structure WsCfg where
  enable : Bool := false
  group : Nat := 0
  tree : BitVec 12 := 0
  variant : BitVec 2 := 0
  plane : Nat := 0
  level : Nat := 0
  top : Bool := false
  op : Nat := 0
  rkind : Nat := 0
  format : Nat := 0
  outFmt : Nat := 0
  children : List Child := []
  landDepth : Nat := 0
  /-- the engine on whose behalf landings are written, and the bank (R283) -/
  engine : Nat := 0
  bank : Nat := 0
  /-- the landing's range of lines in the bank: the first and their number (R283) -/
  lines : Nat × Nat := (0, 8192)
  wsPos : Nat := 0
  efSeg : Nat := 0xFF
  /-- BALE_BASE and BALE_COUNT: the bale indices the tree carries (R214) -/
  baleBase : Nat := 0
  baleCount : Nat := 0
  /-- UPDATE top: the parameter set (R229) -/
  pset : Option Nat := none
  /-- stochastic rounding, SATURATE, error feedback (R256, R265, R260) -/
  stoch : Bool := false
  saturate : Bool := false
  ef : Bool := false
  /-- uplink of the tree's plane; none at the top (R219) -/
  uplink : Option Nat := none
  /-- destinations of DOWN bales: ports (R219, R225); of REDUCE_SCATTER the owner's port, and of ALLTOALL the peer's port, of each
  bale index -/
  dest : List Nat := []
  owners : List (Nat × Nat) := []
  /-- the fabric address for bales that leave by a port, and the TTL of their frames (R352, R357; log entry 63) -/
  addrs : List (Nat × Nat) := []
  ttl : Nat := 255
  /-- REDUCE to a segment of an Adejan: the segment and the address of its first bale (R225) -/
  segDest : Option (Nat × Nat) := none
  deriving DecidableEq, Repr

/-- One parameter set binding (R229 to R240). -/
structure PsetCfg where
  group : Nat := 0
  tree : BitVec 12 := 0
  /-- 0 MOMENTUM_SGD, 1 ADAMW, 2 SIGN_MOMENTUM -/
  opt : Nat := 0
  momentsBf16 : Bool := false
  gFp32 : Bool := false
  outFmt : Nat := 0
  returnSeq : Nat := 0
  segP : Nat := 0xFF
  segM : Nat := 0xFF
  segV : Nat := 0xFF
  segG : Nat := 0xFF
  paramCount : Nat := 0
  totalBales : Nat := 0
  /-- the tree's first bale index -/
  baleBase : Nat := 0
  returnOfs : Nat := 0
  gradTally : Option Nat := none
  updTally : Option Nat := none
  deriving DecidableEq, Repr

/-- What the port map says of a port (R49, R88, R353, R356): lanes, MODE code, timing role code (0 none, 1 serves,
2 follows), the expected neighbour (node, port). A port of which no port map has told is of 8 lanes (DESIGN CHOICE, log entry 59: the
spec does not say which grouping is current before a hall almanac is active). -/
structure PortCfg where
  lanes : Nat := 8
  mode : Nat := 0
  role : Nat := 0
  expect : Option (Nat × Nat) := none
  deriving DecidableEq, Repr

/-- One area of a convoy's rebuild map (R384, R388): the position whose sets it takes when that is lost, the position of the host,
the host's sets that stand there, and where: the stack, the first offset in the host's rebuild reserve, the offset in the protected
area of the lost position, and the bytes. -/
structure RebuildArea where
  lost : Nat
  host : Nat
  sets : List Nat
  stack : Nat
  reserve : Nat
  orig : Nat
  bytes : Nat
  deriving DecidableEq, Repr

/-- What a hall almanac says of the hall around the package (R14, R354, R376, R379, R384). -/
structure HallCfg where
  node : Nat := 0
  rootNode : Nat := 0
  /-- the pairs the almanac names as time root (R14 wants exactly one) -/
  rootPairs : Nat := 0
  rootPair : Bool := false
  /-- this package is named primary root -/
  primaryHere : Bool := false
  /-- ROOT_TABLE: RANK and SOURCE of the eight entries (R379) -/
  rootTable : List (Nat × Nat) := []
  partner : Option (Nat × BitVec 64) := none
  /-- longest path of a timing hop chain to an END (R15) -/
  maxHops : Nat := 0
  /-- CONV: by position the node, the 700-series flag, the pair number and the variant (PKG_VARIANT) of each member (R384) -/
  convoy : List (Nat × Bool × Nat × Nat) := []
  pos : Nat := 0
  /-- the convoy of the partner: its position, the members as in CONV, the bytes of its sets (R388) -/
  partnerPos : Nat := 0
  partnerConvoy : List (Nat × Bool × Nat × Nat) := []
  partnerBytes : Nat := 0
  /-- every convoy of the hall, its members as in CONV (R384) -/
  convoys : List (List (Nat × Bool × Nat × Nat)) := []
  /-- the rebuild map of the package's convoy (R384) -/
  rebuild : List RebuildArea := []
  /-- the packages through which the two probe paths run: a leaf switch, and another spine pair (R376) -/
  probeVia : List Nat := [0, 0]
  /-- the waystations that the admission section chooses: record keys (R391) -/
  admission : List Nat := []
  deriving DecidableEq, Repr

/-- A resource that the partition table assigns (R347). Reduce dies and route dies are named by die number. -/
inductive Res where
  | engine (die e : Nat)
  | bank (die b : Nat)
  | seg (die i : Nat)
  | gate (die g : Nat)
  | seq (q : Nat)
  | tree (t : Nat)
  | group (k : Nat)
  | dest (port : Nat)
  deriving DecidableEq, Repr

/-- The circuit map of a variant of a tree: pairs of global by-pass groups (R214, R226). -/
structure CircuitMap where
  group : Nat
  tree : Nat
  variant : Nat
  pairs : List (Nat × Nat)
  deriving DecidableEq, Repr

/-- An alternate for the loss of a package (R214, R382). -/
structure Alternate where
  lost : Nat
  group : Nat
  /-- 0 MOVE, 1 FOLD, 2 NONE -/
  kind : Nat
  /-- packages the alternate names -/
  named : List Nat
  ws : List (Nat × WsCfg)
  tcam : List (Nat × Nat × Table (BitVec 128))
  deriving DecidableEq, Repr

/-- One item of the content of an almanac. -/
inductive AlmItem where
  | hall (h : HallCfg)
  | port (p : Nat) (c : PortCfg)
  | bind (v : Nat) (p : Option Nat)
  | refTable (t : List (Nat × Nat)) (revertive : Bool)
  | group (k : Nat) (c : GroupCfg)
  | seq (q : Nat) (t : SeqTable)
  | ws (r : Nat) (c : WsCfg)
  | pset (u : Nat) (c : PsetCfg)
  /-- JOB_SEED of the almanac's partition (R257, R259) -/
  | jobSeed (v : BitVec 64)
  /-- a resource of a partition (R347) -/
  | own (p : Nat) (r : Res)
  /-- a tally bound to a partition (R304) -/
  | tally (p t : Nat)
  | tcam (die seg : Nat) (entries : Table (BitVec 128))
  | spray (g : Nat) (members : List Nat)
  | routeSeed (v : Nat)
  | byp (g : Nat) (lanes : List Nat)
  /-- the circuit map of a tree variant (R226) -/
  | circuits (m : CircuitMap)
  | spill (a b : Nat)
  | alternate (a : Alternate)
  /-- a value of RWC fields of a register the section covers (R340) -/
  | reg (addr : Nat) (v : Word)
  /-- the variant limits a section asks for: error-feedback residuals (R18) -/
  | residual
  deriving DecidableEq, Repr

/-- An almanac as a loader reads it: its bytes (R336) and the content of its sections. -/
structure Almanac where
  bytes : List Byte
  items : List AlmItem
  deriving DecidableEq, Repr

/-- The header of an almanac (R336). -/
structure AlmHdr where
  magic : Nat
  format : Nat
  kind : Nat
  sections : Nat
  target : BitVec 64
  dieMask : BitVec 8
  part : Nat
  totalLen : Nat
  serial : Nat
  baseSerial : Nat
  detKey : BitVec 128
  shape : BitVec 256
  /-- the TYPEs of the sections that it carries, from its directory -/
  types : List Nat := []
  deriving DecidableEq, Repr

end Sys2Proof
end

