-- ==== Sys2Proof/Syntax/Bus.lean ====
section
/-! DEFINITION. What accesses of the host, calibrations of links, start-up and the PCIe link bring with them. -/

namespace Sys2Proof

/-- A read of BAR0, or of the Evxus window: its address and its size in bytes (R438, R440). -/
structure ReadAcc where
  addr : Nat
  size : Nat := 4
  deriving DecidableEq, Repr

/-- The form of a write: its size in bytes (R438), and the bits of the word or words written that a hardware update has changed in
this same cycle of the register clock; the update is the command before it (R12, log entry 11). -/
structure WriteAcc where
  size : Nat := 4
  hw : DWord := 0
  deriving DecidableEq, Repr

/-- What a calibration on a keel lane brings (R59, R61, R149): the end of the own one, with the outgoing delay by reflection and the
incoming one that the far end reported for each round, 2^-16 ns; or the far end asks for a reflection, or needs it no more. -/
inductive CalEnd where
  | rounds (l : List (Int × Int))
  | farAsks (on : Bool)
  deriving DecidableEq, Repr

/-- What the end of a start-up stage brings (R433, R434): the stacks that failed training, at stage 5; the version of the firmware
image that now runs, where another was staged (R465), and the rate, width and FLIT that the PCIe link trained to (R436, PCIE_LINK
of R453), at stage 4. -/
structure StageData where
  untrained : Nat := 0
  fw : Option Nat := none
  link : Word := 0
  deriving DecidableEq, Repr

/-- A reset of the PCIe function (R446): 0 a function-level reset, 1 a hot reset, 2 the link going down; and what the link has
trained to after it, as PCIE_LINK shows it, 0 while it stays down (R453). -/
structure FlrCause where
  cause : Nat
  link : Word := 0
  deriving DecidableEq, Repr

end Sys2Proof
end

