-- ==== Sys2Proof/Syntax/Time.lean ====
section
/-! DEFINITION. Data of fabric time that commands and states share: nodes, full fabric times, stamp records,
verdicts, and the raw form in which messages cross a link. -/

namespace Sys2Proof

/-- The two timing nodes of the model: the keel of the Adejan package, and the Evxus block (R137). -/
inductive Node where
  | keel
  | evxus
  deriving DecidableEq, Repr

/-- Full fabric time: seconds, nanoseconds and a 32-bit fraction of a nanosecond (R26, R28). -/
structure FabTime where
  sec  : BitVec 48
  ns   : BitVec 30
  frac : BitVec 32
  deriving DecidableEq, Repr

/-- A stamp record (R33): an FT64 value and its status word. -/
structure Stamp where
  ft     : BitVec 64
  unc    : BitVec 24
  unsure : Bool
  valid  : Bool
  deriving DecidableEq, Repr

/-- The order verdict and its 2-bit code (R46, R47). -/
inductive Verdict where
  | void
  | before
  | after
  | indistinct
  deriving DecidableEq, Repr

/-- The bytes of a message as they arrive on a link, first byte first (R52). -/
abbrev Raw := List Byte

end Sys2Proof
end

