-- ==== Sys2Proof/Syntax/Mirror.lean ====
section
/-! DEFINITION. What one twin mirrors to the other (R377). -/

namespace Sys2Proof

/-- A mirrored item of control state (R377). -/
inductive Mirror where
  /-- a group's record: step, POLICY, MUSTER_TIMEOUT, LAUNCH_LEAD, BCAST_MIN as the registers hold them, counts of the two planes,
  EARLIEST, LATEST, and the four values with which the muster in progress began -/
  | group (k step policy timeout lead bcast : Nat) (arrA arrB : Nat) (earliest latest : BitVec 64)
      (began : Nat × Nat × Nat × Nat)
  /-- a LAUNCH the primary root decided -/
  | launch (k step : Nat) (t cut : BitVec 64) (degraded floor forced : Bool) (epoch : Word)
  /-- ICAL_SEQ, ICAL_SUM, unsent pull remainder, the last APPLY time -/
  | ical (seq : BitVec 16) (sum : BitVec 32) (remain : Int) (last : Option FabTime)
  /-- a partition's active serial -/
  | serial (part serial : Nat)
  /-- a commit WAITING: partition, COMMIT_AT, GROUP -/
  | waiting (part at_ group : Nat)
  /-- CONV_STEP, a set's acknowledged bales, rebuilt bytes -/
  | convoy (step set acked rebuilt : Nat)
  /-- risk score, and the expulsion records -/
  | score (score : Nat) (records : List FabTime)
  /-- ROLE_EPOCH, and the rehearsal schedule: when the next drill falls due, the code last run, the plane whose package the last
  SOLO_DRILL stopped -/
  | role (epoch : Word) (next : FabTime) (last : Nat) (solo : Option Nat)
  /-- step digest and count of a mirrored waystation (R391) -/
  | digest (dx w step : Nat) (d : BitVec 64) (count : Nat)
  /-- what a newcomer reports of its comparison: matches in a row, steps compared, misses, and CONV_STAT STATE of its convoy (R390,
  R391) -/
  | admission (matched compared missed conv : Nat)
  /-- the convoy record of the position that a newcomer takes, as its lost package mirrored it: CONV_STEP, a set's acknowledged bales,
  rebuilt bytes (R377) -/
  | position (step set acked rebuilt : Nat)
  /-- a bale captured in a dip, for its re-forming: die, tree, bale, step, digest, and the bytes of its lines (R415) -/
  | capture (die tree bale step : Nat) (digest : BitVec 64) (lines : List Byte)
  /-- a bale that lands at a waystation that the admission section chooses (R391) -/
  | landing (dx w : Nat) (b : Bale)
  deriving DecidableEq, Repr

end Sys2Proof
end

