-- ==== Sys2Proof/Syntax.lean ====
section
/-! DEFINITION. The commands of the block, one constructor per row of the opcode table, with what each is given from
outside: the address and value of an access, the message that came, the place of an edge within a clock cycle
(`phase`, in 2^-16 ns), what a device measured or returned. Ports, taps, pins and records go by number. -/

namespace Sys2Proof

inductive Instr where
  /-- REGISTER_WRITE (R9) -/
  | registerWrite (addr : Nat) (acc : WriteAcc) (v : DWord)
  /-- RC_COUNTER_READ (R9) -/
  | rcCounterRead (r : ReadAcc)
  /-- LOW_WORD_READ (R440) -/
  | lowWordRead (r : ReadAcc)
  /-- FT128_WORD0_READ (R31) -/
  | ft128Word0Read (r : ReadAcc)
  /-- EXPERT_UNLOCK (R441) -/
  | expertUnlock (addr : Nat) (v : Word)
  /-- TIME_EPOCH_SET (R37); the value written to word 0 -/
  | timeEpochSet (v : Word)
  /-- EPOCH_LOAD (R37); whether a pulse edge of the selected reference has just come -/
  | epochLoad (pulse : Bool)
  /-- EPOCH_NOPPS (R37) -/
  | epochNopps
  /-- UNSURE_STEP_WINDOW_END (R44) -/
  | unsureStepWindowEnd (n : Node)
  /-- UNSURE_DIP_WINDOW_END (R44) -/
  | unsureDipWindowEnd (n : Node)
  /-- TIME_UNC_UPDATE (R42) -/
  | timeUncUpdate (n : Node)
  /-- INTERCAL_APPLY (R29) -/
  | intercalApply (n : Node)
  /-- SYNC_SEND (R62); the PMA barrel position at the stamp -/
  | syncSend (n : Node) (p : Nat) (barrel : Nat)
  /-- SYNC_RECEIVE (R62) -/
  | syncReceive (n : Node) (p : Nat) (barrel : Nat) (m : Raw)
  /-- REQ_SEND (R62) -/
  | reqSend (n : Node) (p : Nat) (barrel : Nat)
  /-- REQ_RECEIVE (R62) -/
  | reqReceive (n : Node) (p : Nat) (barrel : Nat) (m : Raw)
  /-- RESP_SEND (R62) -/
  | respSend (n : Node) (p : Nat)
  /-- RESP_RECEIVE (R63) -/
  | respReceive (n : Node) (p : Nat) (m : Raw)
  /-- EXCHANGE_TIMEOUT (R62) -/
  | exchangeTimeout (n : Node) (p : Nat)
  /-- SYNC_MISSING (R62) -/
  | syncMissing (n : Node) (p : Nat)
  /-- DELAY_GATE_RESET (R64) -/
  | delayGateReset (n : Node) (p : Nat)
  /-- LOSS_OF_ACTIVITY (R65) -/
  | lossOfActivity (n : Node) (p : Nat)
  /-- ACQ_SLOW (R70) -/
  | acqSlow (n : Node)
  /-- SETTLE_SLOW (R70) -/
  | settleSlow (n : Node)
  /-- SERVO_RESTART (R70) -/
  | servoRestart (n : Node)
  /-- SERVO_MODE_OPEN (R72) -/
  | servoModeOpen (n : Node)
  /-- SERVO_MODE_CLOSED (R73) -/
  | servoModeClosed (n : Node)
  /-- TIME_ADDEND (R27) -/
  | timeAddend (n : Node) (v : DWord)
  /-- SLEW (R72) -/
  | slew (n : Node) (v : Word)
  /-- SLEW_SPENT (R72) -/
  | slewSpent (n : Node)
  /-- SERVO_MEAS_POP (R87) -/
  | servoMeasPop (n : Node)
  /-- JUMP_ALLOW (R75) -/
  | jumpAllow (n : Node)
  /-- JUMP_DEFER_RELEASE (R156) -/
  | jumpDeferRelease (n : Node)
  /-- PULL_REQ (R77) -/
  | pullReq (v : DWord)
  /-- INTERCALATE_ANNOUNCE (R78) -/
  | intercalateAnnounce
  /-- INTERCALATE_RECEIVE (R79) -/
  | intercalateReceive (n : Node) (p : Nat) (m : Raw)
  /-- INTERCAL_LATE_UNC_END (R80) -/
  | intercalLateUncEnd (n : Node)
  /-- LINK_UP (R59) -/
  | linkUp (n : Node) (p : Nat)
  /-- ASYM_CAL_DONE (R59); what the rounds measured -/
  | asymCalDone (n : Node) (p : Nat) (r : CalEnd)
  /-- LINK_DOWN (R60) -/
  | linkDown (n : Node) (p : Nat)
  /-- ASYM_WRITE (R60) -/
  | asymWrite (n : Node) (p : Nat) (v : Word)
  /-- CAL_START (R61) -/
  | calStart (n : Node) (p : Nat)
  /-- PTP_EVENT_TX (R84) -/
  | ptpEventTx (e : Nat) (phase : Nat) (msgId : Byte) (m : Raw)
  /-- PTP_EVENT_RX (R85) -/
  | ptpEventRx (e : Nat) (phase : Nat) (m : Raw)
  /-- PTP_ANNOUNCE_RX (R83) -/
  | ptpAnnounceRx (e : Nat) (m : Raw)
  /-- PTP_TXQ_FIND (R85) -/
  | ptpTxqFind (e : Nat) (v : Word)
  /-- TXQ_STALE (R85) -/
  | txqStale (e : Nat)
  /-- PPS_PULSE (R98) -/
  | ppsPulse (pin : Nat) (phase : Nat)
  /-- PIN_PHASE_MEASURE (R93) -/
  | pinPhaseMeasure (pin : Nat) (phase : Nat)
  /-- PPS_WINDOW_EMPTY (R98) -/
  | ppsWindowEmpty (pin : Nat)
  /-- FREQ_GAP_LOSS (R98) -/
  | freqGapLoss (pin : Nat)
  /-- FREQ_ACTIVITY_RESTORED (R98) -/
  | freqActivityRestored (pin : Nat)
  /-- MONITOR_UPDATE (R104); the level of OVEN_WARM; the frequency of each of the four pins, measured over its 10 s, 0.001 ppb -/
  | monitorUpdate (n : Node) (oven : Bool) (freqs : List (Option Int))
  /-- TABLE_APPLY (R105) -/
  | tableApply (v : Word)
  /-- SEL_FORCE (R108) -/
  | selForce (v : Word)
  /-- PIN_MODE_WRITE (R90) -/
  | pinModeWrite (pin : Nat) (v : Word)
  /-- WARM_FORCE (R109) -/
  | warmForce (v : Word)
  /-- OVEN_WARM_LOSS (R110) -/
  | ovenWarmLoss
  /-- HOLD_AGED (R113) -/
  | holdAged (n : Node)
  /-- OUTPUT_EDGE (R116) -/
  | outputEdge (o : Nat)
  /-- OUT_CONFIG_APPLY (R117) -/
  | outConfigApply (o : Nat)
  /-- TIC_START (R134) -/
  | ticStart (t : Nat)
  /-- TIC_CALIBRATION_DONE (R123); the counts of both delay lines -/
  | ticCalibrationDone (t : Nat) (k1s : Nat) (k2s : Nat) (k1e : Nat) (k2e : Nat)
  /-- TIC_START_EVENT (R129) -/
  | ticStartEvent (t : Nat) (tap : Nat)
  /-- TIC_STOP_EVENT (R129) -/
  | ticStopEvent (t : Nat) (tap : Nat)
  /-- TIC_WINDOW_CLOSE (R129) -/
  | ticWindowClose (t : Nat)
  /-- TIC_TIMEOUT (R131) -/
  | ticTimeout (t : Nat)
  /-- TIC_ABORT (R131) -/
  | ticAbort (t : Nat)
  /-- TIC_LATCH (R135) -/
  | ticLatch (t : Nat)
  /-- TIC_PERIODIC_RECAL (R123) -/
  | ticPeriodicRecal (t : Nat)
  /-- LAUNCH_TAP_FIRE (R128) -/
  | launchTapFire (k : Nat)
  /-- FT_SEC (R128) -/
  | ftSec
  /-- EV_RST_N (R154) -/
  | evRstN
  /-- EV_READY (R154) -/
  | evReady
  /-- SOFT_RST (R154) -/
  | softRst
  /-- PAGE_COMMIT (R155) -/
  | pageCommit
  /-- PAGE_COMMIT_APPLY (R155) -/
  | pageCommitApply
  /-- EV_UNLOCK (R164) -/
  | evUnlock (v : Word)
  /-- HCLK_LOSS (R142) -/
  | hclkLoss
  /-- HCLK_PRESENT (R142); the period measured, 2^-16 ns -/
  | hclkPresent (period : Nat)
  /-- EV_LAUNCH_RECEIVE (R185) -/
  | evLaunchReceive (p : Nat) (m : Raw)
  /-- LAUNCH_LINE_ASSERT (R144) -/
  | launchLineAssert (l : Nat) (phase : Nat)
  /-- LAUNCH_PULSE_END (R144) -/
  | launchPulseEnd (l : Nat)
  /-- LAUNCH_CLR (R144) -/
  | launchClr (v : Word)
  /-- EVENT_EDGE (R145) -/
  | eventEdge (i : Nat) (falling : Bool) (phase : Nat)
  /-- ARRIVE (R146) -/
  | arrive (v : Word)
  /-- EVT_POP (R168) -/
  | evtPop
  /-- WAKE_AT (R150) -/
  | wakeAt (v : Word)
  /-- WAKE_TIMER (R150) -/
  | wakeTimer
  /-- TAP_TX_SOF (R147) -/
  | tapTxSof (p : Nat) (barrel : Nat) (m : Raw)
  /-- TAP_RX_SOF (R147) -/
  | tapRxSof (p : Nat) (barrel : Nat) (m : Raw)
  /-- TAP_ORPHAN (R147) -/
  | tapOrphan (p : Nat)
  /-- TAP_LAT_WRITE (R149) -/
  | tapLatWrite (p : Nat) (which : Nat) (v : Word)
  /-- REFCLK_LOSS (R153) -/
  | refclkLoss
  /-- EV_PLL_RELOCK (R153) -/
  | evPllRelock
  /-- ARRIVE_RECEIVE (R178) -/
  | arriveReceive (n : Node) (p : Nat) (barrel : Nat) (m : Raw)
  /-- AGG_PERIOD (R180) -/
  | aggPeriod (n : Node) (k : Nat)
  /-- ADJ_ARRIVE (R20) -/
  | adjArrive (k : Nat)
  /-- LAUNCH_DECIDE (R181) -/
  | launchDecide (k : Nat)
  /-- MUSTER_TIMEOUT (R187) -/
  | musterTimeout (k : Nat)
  /-- FORCE_DEGRADE (R190) -/
  | forceDegrade (k : Nat)
  /-- TWIN_LAUNCH_ACK (R183) -/
  | twinLaunchAck (k : Nat) (step : Nat)
  /-- LAUNCH_UNACK_TIMEOUT (R183) -/
  | launchUnackTimeout (k : Nat)
  /-- AGG_LAUNCH_RECEIVE (R183) -/
  | aggLaunchReceive (n : Node) (p : Nat) (m : Raw)
  /-- FINAL_WAIT_END (R188) -/
  | finalWaitEnd (n : Node) (k : Nat)
  /-- LAUNCH_REPEAT (R184) -/
  | launchRepeat (n : Node) (k : Nat)
  /-- STRAG_REQ (R193) -/
  | stragReq (v : Word)
  /-- STRAG_LIST_DONE (R193); what the other aggregators report of members not counted: plane, node, last step counted, Adejan contributor; whether the PCIe writes completed -/
  | stragListDone (reports : List (Nat × BitVec 20 × Nat × Bool)) (ok : Bool)
  /-- SLOT_PULSE (R195) -/
  | slotPulse (q : Nat)
  /-- ENTRY_ISSUE (R201); the SRAM lines in error that it reads -/
  | entryIssue (q : Nat) (e : Nat) (ecc : IssueEcc)
  /-- ENTRY_COMPLETE (R203) -/
  | entryComplete (q : Nat) (e : Nat)
  /-- CLOCK_STRETCH (R202); the die whose period is stretched, and its crossings that carry data then: those it sends over, those
  it receives over, and those whose other side stretches in the same period -/
  | clockStretch (die : Nat) (sent received both : List CrossUse)
  /-- BALE_INGRESS (R220); the port, and the bale in its frame -/
  | baleIngress (p : Nat) (m : BaleIn)
  /-- UPD_BALE_APPLY (R230); the errors that the stacks met -/
  | updBaleApply (u : Nat) (bale : Nat) (ecc : StackEcc)
  /-- UPD_RESUME (R237) -/
  | updResume (u : Nat)
  /-- CIRCUIT_SET (R226) -/
  | circuitSet (k : Nat)
  /-- CIRCUIT_FAIL (R368) -/
  | circuitFail (g : Nat)
  /-- CIRCUIT_RELEASE (R226) -/
  | circuitRelease (k : Nat)
  /-- BANK_OWNER_WRITE (R281) -/
  | bankOwnerWrite (die : Nat) (b : Nat) (v : Word)
  /-- CLEAR_REQ (R284) -/
  | clearReq (die : Nat) (v : Word)
  /-- BANK_CLEAR_DONE (R284) -/
  | bankClearDone (die : Nat) (b : Nat)
  /-- BANK_APERTURE_ACCESS (R285) -/
  | bankApertureAccess (die : Nat) (off : Nat) (size : Nat) (acc : AperAcc)
  /-- STACK_PATROL_SCRUB (R288) -/
  | stackPatrolScrub (stack : Nat) (ce : Nat) (ues : List Nat)
  /-- PARTITION_SCRUB_DONE (R293) -/
  | partitionScrubDone (die : Nat) (first : Nat)
  /-- TALLY_SIGNAL (R297) -/
  | tallySignal (die : Nat) (v : Word)
  /-- TALLY_SET (R297) -/
  | tallySet (die : Nat) (v : Word)
  /-- TALLY_CLEAR_ERR (R297) -/
  | tallyClearErr (die : Nat) (v : Word)
  /-- TALLY_CLEAR (R302) -/
  | tallyClear (die : Nat) (v : Word)
  /-- SIGNAL_ARRIVAL (R298) -/
  | signalArrival (src : Nat) (ref : Nat)
  /-- TALLY_CLEAR_ACK (R302) -/
  | tallyClearAck (ref : Nat)
  /-- GATE_ARRIVE (R307) -/
  | gateArrive (die : Nat) (g : Nat) (e : Nat)
  /-- GATE_CANCEL (R308) -/
  | gateCancel (die : Nat) (g : Nat)
  /-- DUMP_REQ (R310) -/
  | dumpReq (die : Nat) (v : Word)
  /-- TALLY_DUMP_DONE (R310); the bytes that a failed PCIe write left written, none where all writes completed -/
  | tallyDumpDone (die : Nat) (failed : Option Nat)
  /-- DMA_START (R311); the descriptor fetched; none where the fetch failed -/
  | dmaStart (die : Nat) (e : Nat) (desc : Option (List Word))
  /-- DMA_BURST (R313); what a bus read returned, and how the source answers -/
  | dmaBurst (die : Nat) (e : Nat) (data : List Byte) (ends : BurstEnd)
  /-- DMA_DESC_DONE (R313); how the fetch of the next descriptor ends -/
  | dmaDescDone (die : Nat) (e : Nat) (next : DescFetch)
  /-- DMA_PREEMPT (R315) -/
  | dmaPreempt (die : Nat) (e : Nat)
  /-- DMA_PREEMPT_STOP (R315) -/
  | dmaPreemptStop (die : Nat) (e : Nat)
  /-- DMA_RESTART (R316); the descriptor fetched at DMA_CUR; none where the fetch failed -/
  | dmaRestart (die : Nat) (e : Nat) (desc : Option (List Word))
  /-- LOAD (R340) -/
  | load (v : Word)
  /-- CACHE_LOAD (R349) -/
  | cacheLoad (v : Word)
  /-- DISCARD (R342) -/
  | discard (v : Word)
  /-- TEARDOWN (R348) -/
  | teardown (v : Word)
  /-- CACHE_DROP (R349) -/
  | cacheDrop (v : Word)
  /-- LOADER_DEQUEUE (R341) -/
  | loaderDequeue
  /-- ALM_LOAD_DONE (R340); what the PCIe reads returned; none where they failed -/
  | almLoadDone (got : Option Almanac)
  /-- ALM_COMMIT (R343) -/
  | almCommit (v : Word)
  /-- PREPARE_VOTES_DONE (R343) -/
  | prepareVotesDone (part : Nat)
  /-- COMMIT_ACTIVATE (R344) -/
  | commitActivate (part : Nat) (acks : BitVec 8)
  /-- ACTIVATE_TIMEOUT (R345) -/
  | activateTimeout (part : Nat)
  /-- COMMIT_CANCEL (R346) -/
  | commitCancel (v : Word)
  /-- ALM_KEY_PROG (R338) -/
  | almKeyProg (v : Word)
  /-- ALM_REVOKE (R338) -/
  | almRevoke (v : Word)
  /-- HELLO_SEND (R355) -/
  | helloSend (n : Node) (p : Nat)
  /-- HELLO_RECEIVE (R355) -/
  | helloReceive (n : Node) (p : Nat) (m : Raw)
  /-- NEIGHBOUR_LOST (R355) -/
  | neighbourLost (n : Node) (p : Nat)
  /-- FRAME_INGRESS (R361); whether a SCHED frame finds no buffer -/
  | frameIngress (p : Nat) (noBuffer : Bool) (m : Raw)
  /-- LEARN_POP (R365) -/
  | learnPop (die : Nat)
  /-- TCAM_LOCK (R362) -/
  | tcamLock (die : Nat) (v : DWord)
  /-- TCAM_UNLOCK (R362) -/
  | tcamUnlock (die : Nat) (v : DWord)
  /-- TCAM_ABANDON (R362) -/
  | tcamAbandon (die : Nat) (v : DWord)
  /-- TCAM_REQ (R363) -/
  | tcamReq (die : Nat) (v : Word)
  /-- TCAM_LOAD_DONE (R363) -/
  | tcamLoadDone (die : Nat) (got : TcamRead)
  /-- SPILL_ON (R369) -/
  | spillOn (p : Nat) (cls : Nat)
  /-- SPILL_OFF (R369) -/
  | spillOff (p : Nat) (cls : Nat)
  /-- SPILL_REPORT (R369) -/
  | spillReport (p : Nat) (m : Raw)
  /-- HEARTBEAT_SEND (R375) -/
  | heartbeatSend
  /-- HEARTBEAT_RECEIVE (R375); what the heartbeat carries; `mark` 1 shows an expulsion, 2 a WARM reset, 3 a hold -/
  | heartbeatReceive (mode : Nat) (primary : Bool) (epoch : Word) (chip : BitVec 64) (is700 : Bool) (mark : Nat)
  /-- HB_TIMEOUT (R376) -/
  | hbTimeout
  /-- PROBE_SEND (R376) -/
  | probeSend
  /-- PROBE_ANSWER (R376) -/
  | probeAnswer (path : Nat)
  /-- PROBE_WAIT (R376) -/
  | probeWait
  /-- MIRROR_UPDATE (R377) -/
  | mirrorUpdate (i : Mirror)
  /-- ROOT_TAKEOVER (R379) -/
  | rootTakeover
  /-- SOLO_NOTICE_RECEIVE (R382); the lost package, group and step of each affected group; whether the alternates retire instead -/
  | soloNoticeReceive (lost : Nat) (alts : List (Nat × Nat)) (retire : Bool)
  /-- CONVOY_LOSS_RECEIVE (R388) -/
  | convoyLossReceive (pos : Nat) (total : Nat)
  /-- PARITY_DELTA (R387) -/
  | parityDelta (src : Nat) (set : Nat) (bale : Nat) (frame : Nat) (frames : Nat) (delta : DeltaFrame)
  /-- PARITY_ACK (R387) -/
  | parityAck (holder : Nat) (set : Nat) (bale : Nat)
  /-- REBUILD_DONE (R388); bytes rebuilt in all, and what this package has rebuilt into its own reserve: address, bytes -/
  | rebuildDone (bytes : Nat) (data : List (Nat × List Byte))
  /-- ADMIT (R390); the newcomer's DET_KEY -/
  | admitStart (key : BitVec 128)
  /-- ADMIT_COMPAT (R392); the newcomer's DET_KEY -/
  | admitCompat (key : BitVec 128)
  /-- DEMOTE_PARTNER (R374) -/
  | demotePartner
  /-- CANCEL_ADMIT (R390) -/
  | cancelAdmit
  /-- REH_NOW (R394) -/
  | rehNow (drill : Nat)
  /-- ADMIT_TRACK_REACHED (R391) -/
  | admitTrackReached
  /-- RESTORE_DONE (R391); bytes restored, and at the newcomer what was copied: address, bytes -/
  | restoreDone (bytes : Nat) (data : List (Nat × List Byte))
  /-- COMPAT_BIST_DONE (R392) -/
  | compatBistDone (pass : Bool)
  /-- COMPAT_STREAM_DONE (R392); at the newcomer, what was streamed: address, bytes -/
  | compatStreamDone (data : List (Nat × List Byte))
  /-- REH_DUE (R393) -/
  | rehDue
  /-- DRILL_END (R393) -/
  | drillEnd (result : DrillResult)
  /-- REH_STARVED (R394) -/
  | rehStarved
  /-- CLASS_WINDOW_CLOSE (R398) -/
  | classWindowClose (die : Nat) (block : Nat) (inst : Nat) (cls : Nat) (data0 : Nat)
  /-- SCORE_DECAY (R404) -/
  | scoreDecay
  /-- BUDGET_LAPSE (R406) -/
  | budgetLapse
  /-- EXPEL_NOW (R406) -/
  | expelNow
  /-- CLEAR_EXPELLED (R407) -/
  | clearExpelled
  /-- SCORE_CLEAR (R419) -/
  | scoreClear
  /-- SW_EVENT (R396) -/
  | swEvent (v : Word)
  /-- LOG_EXPORT (R403) -/
  | logExport
  /-- LOG_EXPORT_DONE (R403); the bytes written before a PCIe write that failed, if one did -/
  | logExportDone (failed : Option Nat)
  /-- LOG_CLEAR (R403) -/
  | logClear
  /-- SUPPLY_DIP_DETECT (R413) -/
  | supplyDipDetect (die : Nat) (mv : Nat)
  /-- DIP_END (R413) -/
  | dipEnd (die : Nat)
  /-- DIP_VERIFY_RESULT (R415) -/
  | dipVerifyResult (die : Nat) (tree : Nat) (bale : Nat) (step : Nat) (d : BitVec 64)
  /-- DIP_VERIFY_TIMEOUT (R415) -/
  | dipVerifyTimeout (die : Nat) (tree : Nat) (bale : Nat) (step : Nat)
  /-- HEALTH_SEND (R416) -/
  | healthSend (n : Node) (p : Nat)
  /-- HEALTH_RECEIVE (R416) -/
  | healthReceive (n : Node) (p : Nat) (m : Raw)
  /-- KREF_LOSS (R422) -/
  | krefLoss (die : Nat)
  /-- KREF_RELOCK (R422) -/
  | krefRelock (die : Nat)
  /-- OSC_LOSS (R423) -/
  | oscLoss
  /-- OSC_RETURN (R423) -/
  | oscReturn
  /-- FSTEP_CHANGE_START (R426); no DMA, UPD or ERS engine of the die has been busy for 10 ms -/
  | fstepChangeStart (die : Nat) (idle : Bool)
  /-- FSTEP_CHANGE_DONE (R426) -/
  | fstepChangeDone (die : Nat)
  /-- PWR_CAP (R427) -/
  | pwrCap (v : Word)
  /-- COND_FENCE (R412) -/
  | condFence (b : Nat) (v : Word)
  /-- OVER_CAP (R427) -/
  | overCap (w : Nat)
  /-- TJ_MEASURE (R428); junction temperature in 0.1 °C, VCORE in mV, die and package power in 0.1 W as means over 1 ms, busy share of the reduce lanes in per cent -/
  | tjMeasure (die : Nat) (tj : Int) (mv : Nat) (dieW : Nat) (pkgW : Nat) (load : Nat)
  /-- SUPPLY_RESET_EXCURSION (R429) -/
  | supplyResetExcursion (die : Nat)
  /-- PKG_RST_N (R430) -/
  | pkgRstN
  /-- COLD_RESET (R431) -/
  | coldReset (v : Word)
  /-- WARM_RESET (R431) -/
  | warmReset (v : Word)
  /-- PARTITION_RESET (R431) -/
  | partitionReset (part : Nat)
  /-- ENGINE_RESET (R431) -/
  | engineReset (die : Nat) (e : Nat)
  /-- RESET_DONE (R432) -/
  | resetDone
  /-- SSC_OFF (R421) -/
  | sscOff (v : Word)
  /-- POWER_GOOD (R433) -/
  | powerGood
  /-- STARTUP_STAGE_END (R433); the fault code of R434 or 0; what the stage brought -/
  | startupStageEnd (fault : Nat) (d : StageData)
  /-- VAUX_LOW (R457) -/
  | vauxLow (low : Bool)
  /-- IRQ_ACK (R448) -/
  | irqAck (v : Word)
  /-- MSIX_MESSAGE (R448) -/
  | msixMessage (vec : Nat)
  /-- SNAP (R449) -/
  | snap (v : Word)
  /-- SNAP_LATCH (R449) -/
  | snapLatch (die : Nat)
  /-- SNAP_DIE_TIMEOUT (R451) -/
  | snapDieTimeout (die : Nat)
  /-- PCIE_FLR (R446) -/
  | pcieFlr (c : FlrCause)
  /-- BROWNOUT_RELEASE (R429) -/
  | brownoutRelease (die : Nat)
  /-- CIRCUIT_SET_COMPLETE (R226) -/
  | circuitSetComplete (g : Nat)
  /-- LAUNCH_T_REACHED (R194) -/
  | launchTReached (n : Node) (k : Nat)
  deriving DecidableEq, Repr

end Sys2Proof
end

