-- ==== Sys2Proof/Config.lean ====
section
/-! DEFINITION. What the spec leaves open: free values without a body, which nothing in Lean can evaluate. Each is
named in the assumption log. -/

namespace Sys2Proof.Config

/-- A free natural number; the meanings apply it to the counter `State.free`, which they advance (log entry 4). -/
opaque freeNat : Nat → Nat

/-- Cycles of ev_refclk that pass in one cycle of the keel's timing clock, by count of such cycles (log entry 5). -/
opaque evTicks : Nat → Nat

/-- Cycles of the route-die clock in a cycle of the keel's timing clock: the spec gives no rate of it (R239). -/
opaque routeTicks : Nat → Nat

/-- Does an ECDSA P-384 signature over these bytes verify: key, r and s, message (R338; log entry 22)? -/
opaque sigVerifies : List Byte → List Byte → List Byte → Bool

/-- SHA-384 (R338; log entry 22). -/
opaque sha384 : List Byte → BitVec 384

/-- The hash that breaks ties of a spray choice, of SRC, DST, FLOW and the routing seed (R366; log entry 23). -/
opaque sprayHash : Nat → Nat → Nat → Nat → Nat

/-- Are there credits to send a frame of a class at a port now, by the meanings' free count (R358; log entry 63)? -/
opaque creditOk : Nat → Nat → Nat → Bool

/-- The credit limit of a BULK class at a port, in bytes (R369; log entry 63). -/
opaque creditLimit : Nat → Nat → Nat

/-- What CAL_CODES shows of a mean code that its 16 bits cannot hold (R136; log entry 24). -/
opaque calCode : Nat → Nat

/-- What a stamp of an edge port takes from a non-zero EDGE_ASYM, 2^-16 ns: of a transmission or a reception, by value
(R84; log entry 25). -/
opaque edgeAsym : Bool → Int → Int

/-- The digest D of a bale that a package re-forms from the lines its twin captured in a dip: by tree, bale, step and the bytes, whose
layout the spec does not print (R415; log entry 67). -/
opaque reform : Nat → Nat → Nat → List (BitVec 8) → BitVec 64

/-- Where in a cycle of the timing clock an edge of a tap's txclk or rxclk falls, 2^-16 ns, which the row does not tell: of a
transmission or a reception, by tap and cycle; the meanings take it modulo one cycle (R148; log entry 16). -/
opaque tapPhase : Bool → Nat → Nat → Nat

end Sys2Proof.Config
end

