-- ==== Sys2Proof/Machine/Addr.lean ====
section
/-! DEFINITION. The addresses of the registers that meanings name, by the spec's names (R86 to R453); a register with
copies takes its numbers, the die first (route dies count from 0 for die 1, reduce dies from 0 for die 5). Names of the
Evxus window begin with E_. -/

namespace Sys2Proof.Machine.A

/-- R452 -/ abbrev PKG_ID : Nat := 0x0
/-- R452 -/ abbrev PKG_VERSION : Nat := 0x4
/-- R452 -/ abbrev PKG_VARIANT : Nat := 0x8
/-- R452 -/ abbrev CHIP_ID : Nat := 0x10
/-- R452 -/ abbrev FW_VERSION : Nat := 0x18
/-- R452 -/ abbrev HALL_NODE : Nat := 0x1c
/-- R452 -/ abbrev SNAP_CTRL : Nat := 0x40
/-- R452 -/ abbrev SNAP_STAT : Nat := 0x44
/-- R452 -/ abbrev SNAP_LEAD : Nat := 0x48
/-- R452 -/ abbrev SNAP_DIES : Nat := 0x4c
/-- R452 -/ abbrev SNAP_TIME : Nat := 0x50
/-- R452 -/ abbrev SNAP_STAMP (i : Nat) : Nat := 0x60 + 0xc * i
/-- R333 -/ abbrev DET_KEY : Nat := 0x100
/-- R333 -/ abbrev NDET_COUNT : Nat := 0x110
/-- R333 -/ abbrev NDET_DEG : Nat := 0x118
/-- R333 -/ abbrev NDET_BUBBLE : Nat := 0x120
/-- R333 -/ abbrev NDET_LIMIT : Nat := 0x128
/-- R333 -/ abbrev NDET_SPRAY : Nat := 0x130
/-- R333 -/ abbrev DET_STAT : Nat := 0x138
/-- R452 -/ abbrev ALM_COMMIT_alias : Nat := 0x140
/-- R452 -/ abbrev PART_ACTIVE : Nat := 0x180
/-- R452 -/ abbrev PART_ABORT : Nat := 0x188
/-- R441 -/ abbrev EXPERT_UNLOCK_PKG : Nat := 0x7fc
/-- R453 -/ abbrev HOST_STAT : Nat := 0x10000
/-- R453 -/ abbrev TICKET_NEXT : Nat := 0x10004
/-- R453 -/ abbrev TICKET_SERIAL : Nat := 0x10008
/-- R453 -/ abbrev TICKETS_OPEN : Nat := 0x1000c
/-- R453 -/ abbrev TICKET_EXHAUST : Nat := 0x10010
/-- R453 -/ abbrev ACC_ERR : Nat := 0x10014
/-- R453 -/ abbrev ACC_ERR_ADDR : Nat := 0x10018
/-- R453 -/ abbrev EXPERT_DENIED : Nat := 0x1001c
/-- R453 -/ abbrev PCIE_LINK : Nat := 0x10020
/-- R453 -/ abbrev PCIE_CERR : Nat := 0x10024
/-- R453 -/ abbrev PCIE_UERR : Nat := 0x10028
/-- R453 -/ abbrev HOST_IRQ_EN : Nat := 0x10030
/-- R453 -/ abbrev IRQ_VEC_MAP : Nat := 0x10040
/-- R453 -/ abbrev IRQ_LEVEL : Nat := 0x10048
/-- R453 -/ abbrev IRQ_ACK : Nat := 0x1004c
/-- R453 -/ abbrev IRQ_HOLDOFF : Nat := 0x10050
/-- R441 -/ abbrev EXPERT_UNLOCK_HOST : Nat := 0x107fc
/-- R453 -/ abbrev MSIX_ADDR (i : Nat) : Nat := 0x14000 + 0x10 * i
/-- R453 -/ abbrev MSIX_ADDR_HI (i : Nat) : Nat := 0x14004 + 0x10 * i
/-- R453 -/ abbrev MSIX_DATA (i : Nat) : Nat := 0x14008 + 0x10 * i
/-- R453 -/ abbrev MSIX_CTRL (i : Nat) : Nat := 0x1400c + 0x10 * i
/-- R453 -/ abbrev MSI_X_pending_bits : Nat := 0x15000
/-- R453 -/ abbrev OPSTAT (i : Nat) : Nat := 0x18000 + 0x8 * i
/-- R418 -/ abbrev ERR_STAT : Nat := 0x20000
/-- R418 -/ abbrev ERR_IRQ_SUM : Nat := 0x20004
/-- R418 -/ abbrev ERR_IRQ_EN : Nat := 0x20008
/-- R418 -/ abbrev WIN_FULL : Nat := 0x2000c
/-- R418 -/ abbrev LOG_EXPORT_ADDR : Nat := 0x20010
/-- R418 -/ abbrev LOG_CTRL : Nat := 0x20018
/-- R418 -/ abbrev LOG_TICKET : Nat := 0x2001c
/-- R418 -/ abbrev LOG_RD_SEL : Nat := 0x20020
/-- R418 -/ abbrev LOG_RD_DATA : Nat := 0x20024
/-- R418 -/ abbrev LOG_FILL (i : Nat) : Nat := 0x20100 + 0x20 * i
/-- R418 -/ abbrev LOG_OVF (i : Nat) : Nat := 0x20104 + 0x20 * i
/-- R418 -/ abbrev LOG_ROLL (i : Nat) : Nat := 0x20108 + 0x20 * i
/-- R418 -/ abbrev LOG_COAL (i : Nat) : Nat := 0x2010c + 0x20 * i
/-- R441 -/ abbrev EXPERT_UNLOCK_ERR : Nat := 0x207fc
/-- R418 -/ abbrev CLS_CFG (c : Nat) : Nat := 0x21000 + 0x10 * c
/-- R418 -/ abbrev CLS_WEIGHT (c : Nat) : Nat := 0x21004 + 0x10 * c
/-- R418 -/ abbrev CLS_EVENTS (c : Nat) : Nat := 0x21008 + 0x10 * c
/-- R418 -/ abbrev CLS_LASTING (c : Nat) : Nat := 0x2100c + 0x10 * c
/-- R419 -/ abbrev HLTH_STAT : Nat := 0x30000
/-- R419 -/ abbrev HLTH_HIST : Nat := 0x30004
/-- R419 -/ abbrev HLTH_IRQ_EN : Nat := 0x30008
/-- R419 -/ abbrev HLTH_CMD : Nat := 0x3000c
/-- R419 -/ abbrev WATCH_LEVEL : Nat := 0x30010
/-- R419 -/ abbrev EXPEL_LEVEL : Nat := 0x30014
/-- R419 -/ abbrev DECAY : Nat := 0x30018
/-- R419 -/ abbrev EXPEL_BUDGET : Nat := 0x3001c
/-- R419 -/ abbrev BUDGET_HOURS : Nat := 0x30020
/-- R419 -/ abbrev BUDGET_USED : Nat := 0x30024
/-- R419 -/ abbrev BUDGET_RENEW : Nat := 0x30028
/-- R419 -/ abbrev PARTNER_SCORE : Nat := 0x30030
/-- R419 -/ abbrev SW_EVENT : Nat := 0x30034
/-- R419 -/ abbrev DIP_CTRL : Nat := 0x30040
/-- R419 -/ abbrev DIP_VERIFY_LIMIT : Nat := 0x30044
/-- R419 -/ abbrev DIP_SUSPECT_CNT : Nat := 0x30048
/-- R419 -/ abbrev DIP_CLEARED : Nat := 0x3004c
/-- R419 -/ abbrev DIP_MISMATCH : Nat := 0x30050
/-- R419 -/ abbrev DIP_UNVER : Nat := 0x30054
/-- R419 -/ abbrev CUR_BIN : Nat := 0x30058
/-- R419 -/ abbrev COND_CNT (i : Nat) : Nat := 0x30060 + 0x4 * i
/-- R419 -/ abbrev COND_FENCE (i : Nat) : Nat := 0x300e0 + 0x4 * i
/-- R441 -/ abbrev EXPERT_UNLOCK_HLTH : Nat := 0x307fc
/-- R419 -/ abbrev NBR_HEALTH (i : Nat) : Nat := 0x31000 + 0x8 * i
/-- R419 -/ abbrev NBR_HEALTH_UNC (i : Nat) : Nat := 0x31004 + 0x8 * i
/-- R395 -/ abbrev TWIN_STAT : Nat := 0x40000
/-- R395 -/ abbrev TWIN_HIST : Nat := 0x40004
/-- R395 -/ abbrev TWIN_IRQ_EN : Nat := 0x40008
/-- R395 -/ abbrev TWIN_CMD : Nat := 0x4000c
/-- R395 -/ abbrev TWIN_TICKET : Nat := 0x40010
/-- R395 -/ abbrev ROLE_EPOCH : Nat := 0x40014
/-- R395 -/ abbrev HB_TIMEOUT : Nat := 0x40018
/-- R395 -/ abbrev PROBE_WAIT : Nat := 0x4001c
/-- R395 -/ abbrev PARTNER_NODE : Nat := 0x40020
/-- R395 -/ abbrev TWIN_LANES : Nat := 0x40024
/-- R395 -/ abbrev S_ALT : Nat := 0x40028
/-- R395 -/ abbrev ADMIT_STEPS : Nat := 0x40030
/-- R395 -/ abbrev ADMIT_MATCH : Nat := 0x40034
/-- R395 -/ abbrev ADMIT_MISS : Nat := 0x40038
/-- R395 -/ abbrev ADMIT_RESTORED : Nat := 0x40040
/-- R395 -/ abbrev CONV_STAT : Nat := 0x40100
/-- R395 -/ abbrev REBUILD_RATE : Nat := 0x40104
/-- R395 -/ abbrev CONV_STEP : Nat := 0x40108
/-- R395 -/ abbrev REBUILD_DONE : Nat := 0x40110
/-- R395 -/ abbrev REBUILD_TOTAL : Nat := 0x40118
/-- R395 -/ abbrev CONV_MEMBER (i : Nat) : Nat := 0x40120 + 0x4 * i
/-- R395 -/ abbrev DELTA_PEND : Nat := 0x40140
/-- R395 -/ abbrev REH_CTRL : Nat := 0x40200
/-- R395 -/ abbrev REH_STEPS : Nat := 0x40204
/-- R395 -/ abbrev REH_NEXT : Nat := 0x40208
/-- R395 -/ abbrev REH_LAST : Nat := 0x40210
/-- R395 -/ abbrev REH_COUNT : Nat := 0x40214
/-- R395 -/ abbrev REH_DEFER : Nat := 0x40218
/-- R441 -/ abbrev EXPERT_UNLOCK_TWIN : Nat := 0x407fc
/-- R86 -/ abbrev TIME_NOW : Nat := 0x100000
/-- R86 -/ abbrev TIME_ADDEND : Nat := 0x100010
/-- R86 -/ abbrev TIME_STATUS : Nat := 0x100018
/-- R86 -/ abbrev TIME_UNC : Nat := 0x10001c
/-- R86 -/ abbrev TIME_EPOCH_SET : Nat := 0x100020
/-- R86 -/ abbrev TIME_EPOCH_STATUS : Nat := 0x100030
/-- R86 -/ abbrev TIME_EPOCH_PE : Nat := 0x100038
/-- R86 -/ abbrev POWER_ELAPSED : Nat := 0x100040
/-- R86 -/ abbrev JUMP_LIMIT : Nat := 0x100048
/-- R86 -/ abbrev JUMP_CTRL : Nat := 0x10004c
/-- R86 -/ abbrev JUMP_OFFSET : Nat := 0x100050
/-- R86 -/ abbrev ICAL_SEQ : Nat := 0x100058
/-- R86 -/ abbrev ICAL_SUM : Nat := 0x10005c
/-- R86 -/ abbrev INTERCAL_DROP : Nat := 0x100060
/-- R86 -/ abbrev INTERCAL_LATE : Nat := 0x100064
/-- R86 -/ abbrev INTERCAL_MISSED : Nat := 0x100068
/-- R86 -/ abbrev PULL_CTRL : Nat := 0x100070
/-- R86 -/ abbrev PULL_REQ : Nat := 0x100074
/-- R86 -/ abbrev PULL_REMAIN : Nat := 0x100078
/-- R441 -/ abbrev EXPERT_UNLOCK_TIME : Nat := 0x1007fc
/-- R87 -/ abbrev SERVO_CTRL : Nat := 0x110000
/-- R87 -/ abbrev SERVO_STATUS : Nat := 0x110004
/-- R87 -/ abbrev OFFSET_FILT : Nat := 0x110008
/-- R87 -/ abbrev DELAY_MEAN : Nat := 0x11000c
/-- R87 -/ abbrev SERVO_UNC : Nat := 0x110010
/-- R87 -/ abbrev PATH_UNC : Nat := 0x110014
/-- R87 -/ abbrev SW_SERVO_UNC : Nat := 0x110018
/-- R87 -/ abbrev SLEW : Nat := 0x11001c
/-- R87 -/ abbrev ACQ_THRESH : Nat := 0x110020
/-- R87 -/ abbrev ACQ_DWELL : Nat := 0x110024
/-- R87 -/ abbrev TRACK_THRESH : Nat := 0x110028
/-- R87 -/ abbrev TRACK_DWELL : Nat := 0x11002c
/-- R87 -/ abbrev TRACK_EXIT : Nat := 0x110030
/-- R87 -/ abbrev DELAY_GATE : Nat := 0x110034
/-- R87 -/ abbrev MEAS_STAT : Nat := 0x110060
/-- R87 -/ abbrev MEAS_OVF : Nat := 0x110068
/-- R87 -/ abbrev SERVO_MEAS : Nat := 0x110080
/-- R441 -/ abbrev EXPERT_UNLOCK_SERVO : Nat := 0x1107fc
/-- R87 -/ abbrev KP_ACQ : Nat := 0x110840
/-- R87 -/ abbrev KI_ACQ : Nat := 0x110844
/-- R87 -/ abbrev KP_SET : Nat := 0x110848
/-- R87 -/ abbrev KI_SET : Nat := 0x11084c
/-- R87 -/ abbrev KP_TRK : Nat := 0x110850
/-- R87 -/ abbrev KI_TRK : Nat := 0x110854
/-- R120 -/ abbrev REF_CTRL : Nat := 0x120000
/-- R120 -/ abbrev REF_STATUS : Nat := 0x120004
/-- R120 -/ abbrev REF_HIST : Nat := 0x120008
/-- R120 -/ abbrev REF_IRQ_EN : Nat := 0x12000c
/-- R120 -/ abbrev REF_HOLD_TIME : Nat := 0x120010
/-- R120 -/ abbrev WTR : Nat := 0x120014
/-- R120 -/ abbrev DISPUTE_LIMIT : Nat := 0x120018
/-- R120 -/ abbrev ACCEPT_LIMIT : Nat := 0x12001c
/-- R120 -/ abbrev REJECT_LIMIT : Nat := 0x120020
/-- R120 -/ abbrev DRIFT_LIMIT : Nat := 0x120024
/-- R120 -/ abbrev DRIFT_TIME : Nat := 0x120028
/-- R120 -/ abbrev REQUAL_TIME : Nat := 0x12002c
/-- R120 -/ abbrev HOLD_FERR : Nat := 0x120030
/-- R120 -/ abbrev HOLD_AGING : Nat := 0x120034
/-- R120 -/ abbrev HOLD_AVG : Nat := 0x120038
/-- R120 -/ abbrev FREQ_SLOPE : Nat := 0x12003c
/-- R120 -/ abbrev PULL_MAX : Nat := 0x120040
/-- R120 -/ abbrev REF_TABLE (i : Nat) : Nat := 0x120100 + 0x4 * i
/-- R120 -/ abbrev SRC_STAT (i : Nat) : Nat := 0x120200 + 0x20 * i
/-- R120 -/ abbrev SRC_CFG (i : Nat) : Nat := 0x120204 + 0x20 * i
/-- R120 -/ abbrev PIN_PHASE_OFS___SRC_PATH_UNC (i : Nat) : Nat := 0x120208 + 0x20 * i
/-- R120 -/ abbrev SRC_FREQ (i : Nat) : Nat := 0x12020c + 0x20 * i
/-- R120 -/ abbrev SRC_DRIFT (i : Nat) : Nat := 0x120210 + 0x20 * i
/-- R120 -/ abbrev SRC_PHASE (i : Nat) : Nat := 0x120214 + 0x20 * i
/-- R120 -/ abbrev SRC_MISS (i : Nat) : Nat := 0x120218 + 0x20 * i
/-- R120 -/ abbrev SRC_STRAY (i : Nat) : Nat := 0x12021c + 0x20 * i
/-- R120 -/ abbrev V_SRC_STAT (i : Nat) : Nat := 0x120300 + 0x20 * i
/-- R120 -/ abbrev V_SRC_CFG (i : Nat) : Nat := 0x120304 + 0x20 * i
/-- R120 -/ abbrev V_SRC_PATH_UNC (i : Nat) : Nat := 0x120308 + 0x20 * i
/-- R120 -/ abbrev V_SRC_FREQ (i : Nat) : Nat := 0x12030c + 0x20 * i
/-- R120 -/ abbrev V_SRC_DRIFT (i : Nat) : Nat := 0x120310 + 0x20 * i
/-- R120 -/ abbrev V_SRC_PHASE (i : Nat) : Nat := 0x120314 + 0x20 * i
/-- R120 -/ abbrev V_SRC_MISS (i : Nat) : Nat := 0x120318 + 0x20 * i
/-- R120 -/ abbrev V_SRC_STRAY (i : Nat) : Nat := 0x12031c + 0x20 * i
/-- R441 -/ abbrev EXPERT_UNLOCK_REF : Nat := 0x1207fc
/-- R120 -/ abbrev REF_EXPERT : Nat := 0x120800
/-- R121 -/ abbrev OUT_CTRL (i : Nat) : Nat := 0x130000 + 0x40 * i
/-- R121 -/ abbrev OUT_STATUS (i : Nat) : Nat := 0x130004 + 0x40 * i
/-- R121 -/ abbrev OUT_OFFSET (i : Nat) : Nat := 0x130008 + 0x40 * i
/-- R121 -/ abbrev OUT_WIDTH (i : Nat) : Nat := 0x130010 + 0x40 * i
/-- R121 -/ abbrev OUT_PERIOD (i : Nat) : Nat := 0x130014 + 0x40 * i
/-- R121 -/ abbrev OUT_SKIP (i : Nat) : Nat := 0x130018 + 0x40 * i
/-- R121 -/ abbrev OUT_LAST (i : Nat) : Nat := 0x130020 + 0x40 * i
/-- R441 -/ abbrev EXPERT_UNLOCK_PPS : Nat := 0x1307fc
/-- R136 -/ abbrev TAP_LEAD : Nat := 0x140000
/-- R136 -/ abbrev LMON_GROUP : Nat := 0x140004
/-- R136 -/ abbrev SKEW (i : Nat) : Nat := 0x140040 + 0x4 * i
/-- R136 -/ abbrev TIC_CTRL (i : Nat) : Nat := 0x140100 + 0x100 * i
/-- R136 -/ abbrev TIC_STATUS (i : Nat) : Nat := 0x140104 + 0x100 * i
/-- R136 -/ abbrev TIC_SRC (i : Nat) : Nat := 0x140108 + 0x100 * i
/-- R136 -/ abbrev TIC_N (i : Nat) : Nat := 0x14010c + 0x100 * i
/-- R136 -/ abbrev WIN_OPEN (i : Nat) : Nat := 0x140110 + 0x100 * i
/-- R136 -/ abbrev WIN_CLOSE (i : Nat) : Nat := 0x140118 + 0x100 * i
/-- R136 -/ abbrev START_OFS (i : Nat) : Nat := 0x140120 + 0x100 * i
/-- R136 -/ abbrev STOP_OFS (i : Nat) : Nat := 0x140124 + 0x100 * i
/-- R136 -/ abbrev TIC_TICKET (i : Nat) : Nat := 0x140128 + 0x100 * i
/-- R136 -/ abbrev TIC_COUNT (i : Nat) : Nat := 0x14012c + 0x100 * i
/-- R136 -/ abbrev RES_MEAN (i : Nat) : Nat := 0x140130 + 0x100 * i
/-- R136 -/ abbrev RES_SD (i : Nat) : Nat := 0x140138 + 0x100 * i
/-- R136 -/ abbrev RES_MIN (i : Nat) : Nat := 0x140140 + 0x100 * i
/-- R136 -/ abbrev RES_MAX (i : Nat) : Nat := 0x140148 + 0x100 * i
/-- R136 -/ abbrev CAL_CODES (i : Nat) : Nat := 0x140150 + 0x100 * i
/-- R136 -/ abbrev CAL_GAIN (i : Nat) : Nat := 0x140154 + 0x100 * i
/-- R136 -/ abbrev CAL_CODES_STOP (i : Nat) : Nat := 0x140158 + 0x100 * i
/-- R136 -/ abbrev CAL_GAIN_STOP (i : Nat) : Nat := 0x14015c + 0x100 * i
/-- R136 -/ abbrev VERDICT_CNT (i : Nat) : Nat := 0x140160 + 0x100 * i
/-- R136 -/ abbrev EVT_LOST (i : Nat) : Nat := 0x140170 + 0x100 * i
/-- R136 -/ abbrev START_IGN (i : Nat) : Nat := 0x140174 + 0x100 * i
/-- R136 -/ abbrev EMPTY_WIN (i : Nat) : Nat := 0x140178 + 0x100 * i
/-- R136 -/ abbrev TIC_TIMEOUT (i : Nat) : Nat := 0x14017c + 0x100 * i
/-- R136 -/ abbrev LAST_START (i : Nat) : Nat := 0x140180 + 0x100 * i
/-- R136 -/ abbrev LAST_STOP (i : Nat) : Nat := 0x14018c + 0x100 * i
/-- R136 -/ abbrev LAST_RESULT (i : Nat) : Nat := 0x140198 + 0x100 * i
/-- R136 -/ abbrev LAST_VERDICT (i : Nat) : Nat := 0x1401a0 + 0x100 * i
/-- R441 -/ abbrev EXPERT_UNLOCK_TIC : Nat := 0x1407fc
/-- R88 -/ abbrev ETX_UNKNOWN : Nat := 0x150004
/-- R88 -/ abbrev ETX_CRC_ERR : Nat := 0x150008
/-- R88 -/ abbrev ETX_HOP_LIMIT : Nat := 0x15000c
/-- R88 -/ abbrev TX_PIPE : Nat := 0x150100
/-- R441 -/ abbrev EXPERT_UNLOCK_ETX : Nat := 0x1507fc
/-- R88 -/ abbrev PORT_TSTAT (i : Nat) : Nat := 0x151000 + 0x20 * i
/-- R88 -/ abbrev ASYM (i : Nat) : Nat := 0x151004 + 0x20 * i
/-- R88 -/ abbrev HOP_UNC (i : Nat) : Nat := 0x151008 + 0x20 * i
/-- R88 -/ abbrev LAST_OFFSET (i : Nat) : Nat := 0x15100c + 0x20 * i
/-- R88 -/ abbrev LAST_DELAY (i : Nat) : Nat := 0x151010 + 0x20 * i
/-- R88 -/ abbrev EXCH_OK (i : Nat) : Nat := 0x151014 + 0x20 * i
/-- R88 -/ abbrev EXCH_FAIL (i : Nat) : Nat := 0x151018 + 0x20 * i
/-- R88 -/ abbrev CAL_TICKET (i : Nat) : Nat := 0x15101c + 0x20 * i
/-- R89 -/ abbrev PTP_TXQ_STAT (i : Nat) : Nat := 0x160000 + 0x100 * i
/-- R89 -/ abbrev TXQ_OVF (i : Nat) : Nat := 0x160004 + 0x100 * i
/-- R89 -/ abbrev TXQ_STALE (i : Nat) : Nat := 0x160008 + 0x100 * i
/-- R89 -/ abbrev PTP_TXQ_FIND (i : Nat) : Nat := 0x16000c + 0x100 * i
/-- R89 -/ abbrev PTP_TXQ_ENTRY (i : Nat) : Nat := 0x160010 + 0x100 * i
/-- R89 -/ abbrev EDGE_TX_PIPE (i : Nat) : Nat := 0x160020 + 0x100 * i
/-- R89 -/ abbrev EDGE_RX_PIPE (i : Nat) : Nat := 0x160024 + 0x100 * i
/-- R89 -/ abbrev EDGE_ASYM (i : Nat) : Nat := 0x160028 + 0x100 * i
/-- R441 -/ abbrev EXPERT_UNLOCK_PTP : Nat := 0x1607fc
/-- R194 -/ abbrev MUSTER_IRQ_SUM : Nat := 0x200000
/-- R194 -/ abbrev STRAG_ADDR : Nat := 0x200010
/-- R194 -/ abbrev STRAG_MAX : Nat := 0x200018
/-- R194 -/ abbrev STRAG_REQ : Nat := 0x20001c
/-- R194 -/ abbrev STRAG_TICKET : Nat := 0x200020
/-- R194 -/ abbrev AGG_PERIOD : Nat := 0x200024
/-- R441 -/ abbrev EXPERT_UNLOCK_STEP : Nat := 0x2007fc
/-- R194 -/ abbrev GRP_CFG (i : Nat) : Nat := 0x201000 + 0x80 * i
/-- R194 -/ abbrev GRP_STAT (i : Nat) : Nat := 0x201004 + 0x80 * i
/-- R194 -/ abbrev STEP (i : Nat) : Nat := 0x201008 + 0x80 * i
/-- R194 -/ abbrev LAUNCH_LEAD (i : Nat) : Nat := 0x201010 + 0x80 * i
/-- R194 -/ abbrev BCAST_MIN (i : Nat) : Nat := 0x201014 + 0x80 * i
/-- R194 -/ abbrev MUSTER_TIMEOUT (i : Nat) : Nat := 0x201018 + 0x80 * i
/-- R194 -/ abbrev EXPECTED (i : Nat) : Nat := 0x20101c + 0x80 * i
/-- R194 -/ abbrev ARRIVED_A (i : Nat) : Nat := 0x201020 + 0x80 * i
/-- R194 -/ abbrev ARRIVED_B (i : Nat) : Nat := 0x201024 + 0x80 * i
/-- R194 -/ abbrev EARLIEST (i : Nat) : Nat := 0x201028 + 0x80 * i
/-- R194 -/ abbrev LATEST (i : Nat) : Nat := 0x201030 + 0x80 * i
/-- R194 -/ abbrev MUSTER_CMD (i : Nat) : Nat := 0x20103c + 0x80 * i
/-- R194 -/ abbrev LAST_T (i : Nat) : Nat := 0x201040 + 0x80 * i
/-- R194 -/ abbrev CUT (i : Nat) : Nat := 0x201048 + 0x80 * i
/-- R194 -/ abbrev DEG_CONTRIB (i : Nat) : Nat := 0x201050 + 0x80 * i
/-- R194 -/ abbrev DEGRADE_CNT (i : Nat) : Nat := 0x201054 + 0x80 * i
/-- R194 -/ abbrev STALE_ARR (i : Nat) : Nat := 0x201058 + 0x80 * i
/-- R194 -/ abbrev AHEAD_ARR (i : Nat) : Nat := 0x20105c + 0x80 * i
/-- R194 -/ abbrev LATE_ARR (i : Nat) : Nat := 0x201060 + 0x80 * i
/-- R194 -/ abbrev EXCL_DROP (i : Nat) : Nat := 0x201064 + 0x80 * i
/-- R194 -/ abbrev LATE_END (i : Nat) : Nat := 0x201068 + 0x80 * i
/-- R194 -/ abbrev SUBST_CNT (i : Nat) : Nat := 0x20106c + 0x80 * i
/-- R194 -/ abbrev FOREIGN_ARR (i : Nat) : Nat := 0x201070 + 0x80 * i
/-- R212 -/ abbrev SCH_STAT : Nat := 0x210000
/-- R212 -/ abbrev NDET_SLOT : Nat := 0x210004
/-- R212 -/ abbrev STRETCH_COUNT (i : Nat) : Nat := 0x210010 + 0x10 * i
/-- R212 -/ abbrev BUBBLE_COUNT (i : Nat) : Nat := 0x210014 + 0x10 * i
/-- R212 -/ abbrev CREDIT_STALL (i : Nat) : Nat := 0x210018 + 0x10 * i
/-- R212 -/ abbrev DIE_FSTEP (i : Nat) : Nat := 0x21001c + 0x10 * i
/-- R441 -/ abbrev EXPERT_UNLOCK_SCH : Nat := 0x2107fc
/-- R212 -/ abbrev SEQ_CFG (i : Nat) : Nat := 0x211000 + 0x80 * i
/-- R212 -/ abbrev SEQ_STAT (i : Nat) : Nat := 0x211004 + 0x80 * i
/-- R212 -/ abbrev SEQ_STEP (i : Nat) : Nat := 0x211008 + 0x80 * i
/-- R212 -/ abbrev SEQ_T (i : Nat) : Nat := 0x211010 + 0x80 * i
/-- R212 -/ abbrev SLOT_IDX (i : Nat) : Nat := 0x211018 + 0x80 * i
/-- R212 -/ abbrev SLOT_COUNT (i : Nat) : Nat := 0x21101c + 0x80 * i
/-- R212 -/ abbrev SLOT_SHIFT (i : Nat) : Nat := 0x211020 + 0x80 * i
/-- R212 -/ abbrev LAST_SHIFT (i : Nat) : Nat := 0x211024 + 0x80 * i
/-- R212 -/ abbrev SLOT_LATE (i : Nat) : Nat := 0x211028 + 0x80 * i
/-- R212 -/ abbrev GUARD_CNT (i : Nat) : Nat := 0x21102c + 0x80 * i
/-- R212 -/ abbrev LATE_DROP (i : Nat) : Nat := 0x211030 + 0x80 * i
/-- R212 -/ abbrev MIN_SLACK (i : Nat) : Nat := 0x211034 + 0x80 * i
/-- R212 -/ abbrev CYC_LAST (i : Nat) : Nat := 0x211038 + 0x80 * i
/-- R212 -/ abbrev STRETCH_SLOT (i : Nat) : Nat := 0x21103c + 0x80 * i
/-- R351 -/ abbrev ALM_STAT : Nat := 0x300000
/-- R351 -/ abbrev ALM_CTRL : Nat := 0x300004
/-- R351 -/ abbrev ALM_SRC : Nat := 0x300008
/-- R351 -/ abbrev ALM_LEN : Nat := 0x300010
/-- R351 -/ abbrev ALM_REQ : Nat := 0x300014
/-- R351 -/ abbrev ALM_TICKET : Nat := 0x300018
/-- R351 -/ abbrev ALM_SHAPE_IN : Nat := 0x300020
/-- R351 -/ abbrev ALM_COMMIT : Nat := 0x300040
/-- R351 -/ abbrev COMMIT_STAT : Nat := 0x300044
/-- R351 -/ abbrev COMMIT_AT : Nat := 0x300048
/-- R351 -/ abbrev COMMIT_TICKET : Nat := 0x300050
/-- R351 -/ abbrev STAGE_SERIAL : Nat := 0x300058
/-- R351 -/ abbrev STAGE_INFO : Nat := 0x300060
/-- R351 -/ abbrev FENCE_DROP : Nat := 0x300064
/-- R441 -/ abbrev EXPERT_UNLOCK_ALM : Nat := 0x3007fc
/-- R351 -/ abbrev ALM_KEY_PROG : Nat := 0x300800
/-- R351 -/ abbrev ALM_REVOKE : Nat := 0x300804
/-- R351 -/ abbrev ALM_KEYS : Nat := 0x300808
/-- R351 -/ abbrev ALM_KEY_HASH : Nat := 0x300840
/-- R351 -/ abbrev PART_SERIAL (i : Nat) : Nat := 0x301000 + 0x20 * i
/-- R351 -/ abbrev PART_SERIAL_HI (i : Nat) : Nat := 0x301004 + 0x20 * i
/-- R351 -/ abbrev PART_INFO (i : Nat) : Nat := 0x301008 + 0x20 * i
/-- R351 -/ abbrev PART_SHAPE (i : Nat) : Nat := 0x301010 + 0x20 * i
/-- R351 -/ abbrev PART_SHAPE1 (i : Nat) : Nat := 0x301014 + 0x20 * i
/-- R351 -/ abbrev CACHE_REC (i : Nat) : Nat := 0x302000 + 0x40 * i
/-- R435 -/ abbrev CLK_STAT : Nat := 0x400000
/-- R435 -/ abbrev STARTUP : Nat := 0x400004
/-- R435 -/ abbrev RST_CMD : Nat := 0x400008
/-- R435 -/ abbrev RST_STAT : Nat := 0x40000c
/-- R435 -/ abbrev PWR_CAP : Nat := 0x400010
/-- R435 -/ abbrev PKG_POWER : Nat := 0x400014
/-- R435 -/ abbrev PKG_POWER_PEAK : Nat := 0x400018
/-- R435 -/ abbrev CLK_IRQ_EN : Nat := 0x40001c
/-- R435 -/ abbrev DIE_CLK_STAT (i : Nat) : Nat := 0x400200 + 0x20 * i
/-- R435 -/ abbrev VCORE_MV (i : Nat) : Nat := 0x400204 + 0x20 * i
/-- R435 -/ abbrev VCORE_MIN (i : Nat) : Nat := 0x400208 + 0x20 * i
/-- R435 -/ abbrev TJ (i : Nat) : Nat := 0x40020c + 0x20 * i
/-- R435 -/ abbrev TJ_MAX (i : Nat) : Nat := 0x400210 + 0x20 * i
/-- R435 -/ abbrev DIE_POWER (i : Nat) : Nat := 0x400214 + 0x20 * i
/-- R435 -/ abbrev LOR_CNT (i : Nat) : Nat := 0x400218 + 0x20 * i
/-- R435 -/ abbrev FSTEP_CHG (i : Nat) : Nat := 0x40021c + 0x20 * i
/-- R441 -/ abbrev EXPERT_UNLOCK_CLK : Nat := 0x4007fc
/-- R435 -/ abbrev PKG_RST : Nat := 0x400800
/-- R435 -/ abbrev SSC_CTRL : Nat := 0x400804
/-- R370 -/ abbrev RTE_STAT (i : Nat) : Nat := 0x1400000 + 0x400000 * i
/-- R370 -/ abbrev MISS_DROP (i : Nat) : Nat := 0x1400004 + 0x400000 * i
/-- R370 -/ abbrev FENCE_DROP_R370 (i : Nat) : Nat := 0x1400008 + 0x400000 * i
/-- R370 -/ abbrev FCS_ERR (i : Nat) : Nat := 0x140000c + 0x400000 * i
/-- R370 -/ abbrev CT_STOMP (i : Nat) : Nat := 0x1400010 + 0x400000 * i
/-- R370 -/ abbrev SPLIT_DROP (i : Nat) : Nat := 0x1400014 + 0x400000 * i
/-- R370 -/ abbrev SCHED_DROP (i : Nat) : Nat := 0x1400018 + 0x400000 * i
/-- R370 -/ abbrev ENDPT_DROP (i : Nat) : Nat := 0x140001c + 0x400000 * i
/-- R370 -/ abbrev TTL_DROP (i : Nat) : Nat := 0x1400020 + 0x400000 * i
/-- R370 -/ abbrev SPRAY_DROP (i : Nat) : Nat := 0x1400024 + 0x400000 * i
/-- R370 -/ abbrev HELLO_PERIOD (i : Nat) : Nat := 0x1400028 + 0x400000 * i
/-- R370 -/ abbrev HDR_ERR (i : Nat) : Nat := 0x140002c + 0x400000 * i
/-- R370 -/ abbrev LEARN_HOLD (i : Nat) : Nat := 0x1400040 + 0x400000 * i
/-- R370 -/ abbrev LEARN_FILL (i : Nat) : Nat := 0x1400044 + 0x400000 * i
/-- R370 -/ abbrev LEARN_OVF (i : Nat) : Nat := 0x1400048 + 0x400000 * i
/-- R370 -/ abbrev LEARN_DUP (i : Nat) : Nat := 0x140004c + 0x400000 * i
/-- R370 -/ abbrev LEARN_POP (i : Nat) : Nat := 0x1400050 + 0x400000 * i
/-- R441 -/ abbrev EXPERT_UNLOCK_RTE (i : Nat) : Nat := 0x14007fc + 0x400000 * i
/-- R370 -/ abbrev NEIGH_STAT (d i : Nat) : Nat := 0x1401000 + 0x400000 * d + 0x20 * i
/-- R370 -/ abbrev NEIGH_NODE (d i : Nat) : Nat := 0x1401004 + 0x400000 * d + 0x20 * i
/-- R370 -/ abbrev NEIGH_CHIP (d i : Nat) : Nat := 0x1401008 + 0x400000 * d + 0x20 * i
/-- R370 -/ abbrev NEIGH_INFO (d i : Nat) : Nat := 0x1401010 + 0x400000 * d + 0x20 * i
/-- R370 -/ abbrev EXPECT (d i : Nat) : Nat := 0x1401014 + 0x400000 * d + 0x20 * i
/-- R370 -/ abbrev HELLO_RX (d i : Nat) : Nat := 0x1401018 + 0x400000 * d + 0x20 * i
/-- R370 -/ abbrev NEIGH_SERIAL (d i : Nat) : Nat := 0x140101c + 0x400000 * d + 0x20 * i
/-- R371 -/ abbrev TCAM_STAT (i : Nat) : Nat := 0x1500000 + 0x400000 * i
/-- R371 -/ abbrev TCAM_LOCK (i : Nat) : Nat := 0x1500008 + 0x400000 * i
/-- R371 -/ abbrev TCAM_UNLOCK (i : Nat) : Nat := 0x1500010 + 0x400000 * i
/-- R371 -/ abbrev TCAM_ABANDON (i : Nat) : Nat := 0x1500018 + 0x400000 * i
/-- R371 -/ abbrev TCAM_SRC (i : Nat) : Nat := 0x1500020 + 0x400000 * i
/-- R371 -/ abbrev TCAM_IDX (i : Nat) : Nat := 0x1500028 + 0x400000 * i
/-- R371 -/ abbrev TCAM_CNT (i : Nat) : Nat := 0x150002c + 0x400000 * i
/-- R371 -/ abbrev TCAM_REQ (i : Nat) : Nat := 0x1500030 + 0x400000 * i
/-- R371 -/ abbrev TCAM_TICKET (i : Nat) : Nat := 0x1500034 + 0x400000 * i
/-- R371 -/ abbrev SWAP_ERR (i : Nat) : Nat := 0x1500038 + 0x400000 * i
/-- R371 -/ abbrev TCAM_RD_IDX (i : Nat) : Nat := 0x1500040 + 0x400000 * i
/-- R371 -/ abbrev TCAM_RD_DATA (i : Nat) : Nat := 0x1500044 + 0x400000 * i
/-- R371 -/ abbrev TCAM_USED (i : Nat) : Nat := 0x1500054 + 0x400000 * i
/-- R441 -/ abbrev EXPERT_UNLOCK_TCAM (i : Nat) : Nat := 0x15007fc + 0x400000 * i
/-- R372 -/ abbrev BULK_WEIGHT (i : Nat) : Nat := 0x1600000 + 0x400000 * i
/-- R372 -/ abbrev SPILL_HOLD (i : Nat) : Nat := 0x1600004 + 0x400000 * i
/-- R441 -/ abbrev EXPERT_UNLOCK_SWC (i : Nat) : Nat := 0x16007fc + 0x400000 * i
/-- R372 -/ abbrev PORT_CFG (d i : Nat) : Nat := 0x1601000 + 0x400000 * d + 0x10 * i
/-- R372 -/ abbrev SPILL_STAT (d i : Nat) : Nat := 0x1601004 + 0x400000 * d + 0x10 * i
/-- R372 -/ abbrev QUEUED (d i : Nat) : Nat := 0x1601008 + 0x400000 * d + 0x10 * i
/-- R239 -/ abbrev SCHED_BYTES (d i : Nat) : Nat := 0x1604000 + 0x400000 * d + 0x40 * i
/-- R239 -/ abbrev BULK_BYTES (d i : Nat) : Nat := 0x1604008 + 0x400000 * d + 0x40 * i
/-- R239 -/ abbrev BP_CYC (d i : Nat) : Nat := 0x1604010 + 0x400000 * d + 0x40 * i
/-- R239 -/ abbrev SPILL_BYTES (d i : Nat) : Nat := 0x1604018 + 0x400000 * d + 0x40 * i
/-- R239 -/ abbrev LATE_IN (d i : Nat) : Nat := 0x1604020 + 0x400000 * d + 0x40 * i
/-- R239 -/ abbrev PEAK_PCT (d i : Nat) : Nat := 0x1604024 + 0x400000 * d + 0x40 * i
/-- R239 -/ abbrev LVL_PORTS (d i : Nat) : Nat := 0x1604028 + 0x400000 * d + 0x40 * i
/-- R372 -/ abbrev BYP_LANES (d i : Nat) : Nat := 0x1606000 + 0x400000 * d + 0x20 * i
/-- R372 -/ abbrev BYP_STAT (d i : Nat) : Nat := 0x1606008 + 0x400000 * d + 0x20 * i
/-- R372 -/ abbrev BYP_PEER (d i : Nat) : Nat := 0x160600c + 0x400000 * d + 0x20 * i
/-- R372 -/ abbrev SPRAY_MEMB (d i : Nat) : Nat := 0x1608000 + 0x400000 * d + 0x20 * i
/-- R238 -/ abbrev RED_STAT (i : Nat) : Nat := 0x2400000 + 0x400000 * i
/-- R238 -/ abbrev HDR_ERR_R238 (i : Nat) : Nat := 0x2400004 + 0x400000 * i
/-- R238 -/ abbrev STRAY_BALE (i : Nat) : Nat := 0x2400008 + 0x400000 * i
/-- R238 -/ abbrev WS_CFG (d i : Nat) : Nat := 0x2400100 + 0x400000 * d + 0x40 * i
/-- R238 -/ abbrev WS_STAT (d i : Nat) : Nat := 0x2400104 + 0x400000 * d + 0x40 * i
/-- R238 -/ abbrev EXP_CONTRIB (d i : Nat) : Nat := 0x2400108 + 0x400000 * d + 0x40 * i
/-- R238 -/ abbrev CHILDREN (d i : Nat) : Nat := 0x240010c + 0x400000 * d + 0x40 * i
/-- R238 -/ abbrev BALE_IN (d i : Nat) : Nat := 0x2400110 + 0x400000 * d + 0x40 * i
/-- R238 -/ abbrev BALE_OUT (d i : Nat) : Nat := 0x2400114 + 0x400000 * d + 0x40 * i
/-- R238 -/ abbrev BALE_INV (d i : Nat) : Nat := 0x2400118 + 0x400000 * d + 0x40 * i
/-- R238 -/ abbrev DUP_BALE (d i : Nat) : Nat := 0x240011c + 0x400000 * d + 0x40 * i
/-- R238 -/ abbrev LAND_PEAK (d i : Nat) : Nat := 0x2400120 + 0x400000 * d + 0x40 * i
/-- R238 -/ abbrev LAND_DEPTH (d i : Nat) : Nat := 0x2400124 + 0x400000 * d + 0x40 * i
/-- R238 -/ abbrev WS_STEP (d i : Nat) : Nat := 0x2400128 + 0x400000 * d + 0x40 * i
/-- R441 -/ abbrev EXPERT_UNLOCK_RED (i : Nat) : Nat := 0x24007fc + 0x400000 * i
/-- R270 -/ abbrev QNT_ARITH (i : Nat) : Nat := 0x2420000 + 0x400000 * i
/-- R270 -/ abbrev QNT_INV_SUM (i : Nat) : Nat := 0x2420004 + 0x400000 * i
/-- R270 -/ abbrev EF_CLEARED (i : Nat) : Nat := 0x2420008 + 0x400000 * i
/-- R271 -/ abbrev ARITH_CFG (d i : Nat) : Nat := 0x2420100 + 0x400000 * d + 0x40 * i
/-- R271 -/ abbrev QERR_LIMIT (d i : Nat) : Nat := 0x2420104 + 0x400000 * d + 0x40 * i
/-- R271 -/ abbrev JOB_SEED (d i : Nat) : Nat := 0x2420108 + 0x400000 * d + 0x40 * i
/-- R271 -/ abbrev EF_AREA (d i : Nat) : Nat := 0x2420110 + 0x400000 * d + 0x40 * i
/-- R271 -/ abbrev WS_POS (d i : Nat) : Nat := 0x2420114 + 0x400000 * d + 0x40 * i
/-- R271 -/ abbrev UNDER_DROP (d i : Nat) : Nat := 0x2420118 + 0x400000 * d + 0x40 * i
/-- R271 -/ abbrev SAT_ELEM (d i : Nat) : Nat := 0x242011c + 0x400000 * d + 0x40 * i
/-- R271 -/ abbrev NF_POISON (d i : Nat) : Nat := 0x2420120 + 0x400000 * d + 0x40 * i
/-- R271 -/ abbrev NF_SAT (d i : Nat) : Nat := 0x2420124 + 0x400000 * d + 0x40 * i
/-- R271 -/ abbrev SCALE_CLAMP (d i : Nat) : Nat := 0x2420128 + 0x400000 * d + 0x40 * i
/-- R271 -/ abbrev SCALE_UNDER (d i : Nat) : Nat := 0x242012c + 0x400000 * d + 0x40 * i
/-- R271 -/ abbrev QERR_CNT (d i : Nat) : Nat := 0x2420130 + 0x400000 * d + 0x40 * i
/-- R271 -/ abbrev CNT_MISMATCH (d i : Nat) : Nat := 0x2420134 + 0x400000 * d + 0x40 * i
/-- R271 -/ abbrev INV_BALE (d i : Nat) : Nat := 0x2420138 + 0x400000 * d + 0x40 * i
/-- R271 -/ abbrev ARITH_STAT (d i : Nat) : Nat := 0x242013c + 0x400000 * d + 0x40 * i
/-- R240 -/ abbrev UPD_SKIP (i : Nat) : Nat := 0x2440000 + 0x400000 * i
/-- R240 -/ abbrev UPD_SKIP_BALE (i : Nat) : Nat := 0x2440004 + 0x400000 * i
/-- R441 -/ abbrev EXPERT_UNLOCK_UPD (i : Nat) : Nat := 0x24407fc + 0x400000 * i
/-- R240 -/ abbrev PSET_CFG (d i : Nat) : Nat := 0x2441000 + 0x400000 * d + 0x80 * i
/-- R240 -/ abbrev PSET_STAT (d i : Nat) : Nat := 0x2441004 + 0x400000 * d + 0x80 * i
/-- R240 -/ abbrev LR (d i : Nat) : Nat := 0x2441008 + 0x400000 * d + 0x80 * i
/-- R240 -/ abbrev BETA1 (d i : Nat) : Nat := 0x244100c + 0x400000 * d + 0x80 * i
/-- R240 -/ abbrev BETA2 (d i : Nat) : Nat := 0x2441010 + 0x400000 * d + 0x80 * i
/-- R240 -/ abbrev EPS (d i : Nat) : Nat := 0x2441014 + 0x400000 * d + 0x80 * i
/-- R240 -/ abbrev WD (d i : Nat) : Nat := 0x2441018 + 0x400000 * d + 0x80 * i
/-- R240 -/ abbrev GSCALE (d i : Nat) : Nat := 0x244101c + 0x400000 * d + 0x80 * i
/-- R240 -/ abbrev B1T (d i : Nat) : Nat := 0x2441020 + 0x400000 * d + 0x80 * i
/-- R240 -/ abbrev B2T (d i : Nat) : Nat := 0x2441024 + 0x400000 * d + 0x80 * i
/-- R240 -/ abbrev PARAM_COUNT (d i : Nat) : Nat := 0x2441028 + 0x400000 * d + 0x80 * i
/-- R240 -/ abbrev DONE_BALES (d i : Nat) : Nat := 0x2441030 + 0x400000 * d + 0x80 * i
/-- R240 -/ abbrev TOTAL_BALES (d i : Nat) : Nat := 0x2441034 + 0x400000 * d + 0x80 * i
/-- R240 -/ abbrev UPD_STEP (d i : Nat) : Nat := 0x2441038 + 0x400000 * d + 0x80 * i
/-- R240 -/ abbrev RETURN_OFS (d i : Nat) : Nat := 0x2441040 + 0x400000 * d + 0x80 * i
/-- R240 -/ abbrev PSET_SEGS (d i : Nat) : Nat := 0x2441044 + 0x400000 * d + 0x80 * i
/-- R240 -/ abbrev TORN_BALE (d i : Nat) : Nat := 0x2441048 + 0x400000 * d + 0x80 * i
/-- R240 -/ abbrev UPD_CMD (d i : Nat) : Nat := 0x244104c + 0x400000 * d + 0x80 * i
/-- R334 -/ abbrev DIG_CTRL (i : Nat) : Nat := 0x2460000 + 0x400000 * i
/-- R334 -/ abbrev DIG_LOG_HEAD (i : Nat) : Nat := 0x2460004 + 0x400000 * i
/-- R334 -/ abbrev DIG_LOG_WRAP (i : Nat) : Nat := 0x2460008 + 0x400000 * i
/-- R334 -/ abbrev DIG_LOG_SKIP (i : Nat) : Nat := 0x246000c + 0x400000 * i
/-- R334 -/ abbrev WS_DIGEST (d i : Nat) : Nat := 0x2460100 + 0x400000 * d + 0x20 * i
/-- R334 -/ abbrev DIG_STEP (d i : Nat) : Nat := 0x2460108 + 0x400000 * d + 0x20 * i
/-- R334 -/ abbrev LAST_BALE_DIG (d i : Nat) : Nat := 0x2460110 + 0x400000 * d + 0x20 * i
/-- R334 -/ abbrev DIG_STAT (d i : Nat) : Nat := 0x2460118 + 0x400000 * d + 0x20 * i
/-- R294 -/ abbrev BANK_STAT (i : Nat) : Nat := 0x2480000 + 0x400000 * i
/-- R294 -/ abbrev APER_BANK (i : Nat) : Nat := 0x2480004 + 0x400000 * i
/-- R294 -/ abbrev SRAM_CE (i : Nat) : Nat := 0x2480008 + 0x400000 * i
/-- R294 -/ abbrev SRAM_UE (i : Nat) : Nat := 0x248000c + 0x400000 * i
/-- R294 -/ abbrev OWN_REFUSED (i : Nat) : Nat := 0x2480010 + 0x400000 * i
/-- R294 -/ abbrev ACC_REFUSED (i : Nat) : Nat := 0x2480014 + 0x400000 * i
/-- R294 -/ abbrev LAST_REFUSAL (i : Nat) : Nat := 0x2480018 + 0x400000 * i
/-- R294 -/ abbrev SPARE_TOTAL (i : Nat) : Nat := 0x248001c + 0x400000 * i
/-- R294 -/ abbrev CLEAR_REQ (i : Nat) : Nat := 0x2480020 + 0x400000 * i
/-- R294 -/ abbrev ENG_MAP (d i : Nat) : Nat := 0x2480400 + 0x400000 * d + 0x4 * i
/-- R441 -/ abbrev EXPERT_UNLOCK_BANK (i : Nat) : Nat := 0x24807fc + 0x400000 * i
/-- R294 -/ abbrev BANK_OWNER (d i : Nat) : Nat := 0x2481000 + 0x400000 * d + 0x10 * i
/-- R294 -/ abbrev BANK_INFO (d i : Nat) : Nat := 0x2481004 + 0x400000 * d + 0x10 * i
/-- R294 -/ abbrev BANK_UE_LINE (d i : Nat) : Nat := 0x2481008 + 0x400000 * d + 0x10 * i
/-- R295 -/ abbrev SEG_STAT (i : Nat) : Nat := 0x24a0000 + 0x400000 * i
/-- R295 -/ abbrev SEG_VIOL_CNT (i : Nat) : Nat := 0x24a0004 + 0x400000 * i
/-- R295 -/ abbrev VIOL_ADDR (i : Nat) : Nat := 0x24a0008 + 0x400000 * i
/-- R295 -/ abbrev VIOL_INFO (i : Nat) : Nat := 0x24a0010 + 0x400000 * i
/-- R295 -/ abbrev STK_STAT (d i : Nat) : Nat := 0x24a0100 + 0x400000 * d + 0x20 * i
/-- R295 -/ abbrev STK_CE (d i : Nat) : Nat := 0x24a0104 + 0x400000 * d + 0x20 * i
/-- R295 -/ abbrev STK_UE (d i : Nat) : Nat := 0x24a0108 + 0x400000 * d + 0x20 * i
/-- R295 -/ abbrev SCRUB_PASS (d i : Nat) : Nat := 0x24a010c + 0x400000 * d + 0x20 * i
/-- R295 -/ abbrev STK_BASE (d i : Nat) : Nat := 0x24a0110 + 0x400000 * d + 0x20 * i
/-- R295 -/ abbrev STK_SIZE (d i : Nat) : Nat := 0x24a0118 + 0x400000 * d + 0x20 * i
/-- R441 -/ abbrev EXPERT_UNLOCK_SEG (i : Nat) : Nat := 0x24a07fc + 0x400000 * i
/-- R295 -/ abbrev SEG_BASE (d i : Nat) : Nat := 0x24a1000 + 0x400000 * d + 0x20 * i
/-- R295 -/ abbrev SEG_LIMIT (d i : Nat) : Nat := 0x24a1008 + 0x400000 * d + 0x20 * i
/-- R295 -/ abbrev SEG_CFG (d i : Nat) : Nat := 0x24a1010 + 0x400000 * d + 0x20 * i
/-- R295 -/ abbrev SEG_STATE (d i : Nat) : Nat := 0x24a1014 + 0x400000 * d + 0x20 * i
/-- R295 -/ abbrev SEG_VIOL (d i : Nat) : Nat := 0x24a1018 + 0x400000 * d + 0x20 * i
/-- R318 -/ abbrev TALLY_STAT (i : Nat) : Nat := 0x24c0000 + 0x400000 * i
/-- R318 -/ abbrev TALLY_CMD_VAL (i : Nat) : Nat := 0x24c0004 + 0x400000 * i
/-- R318 -/ abbrev TALLY_CMD (i : Nat) : Nat := 0x24c0008 + 0x400000 * i
/-- R318 -/ abbrev STALE_SIG (i : Nat) : Nat := 0x24c000c + 0x400000 * i
/-- R318 -/ abbrev TALLY_UNDER (i : Nat) : Nat := 0x24c0010 + 0x400000 * i
/-- R318 -/ abbrev TALLY_OVER (i : Nat) : Nat := 0x24c0014 + 0x400000 * i
/-- R318 -/ abbrev ORPHAN_CNT (i : Nat) : Nat := 0x24c0018 + 0x400000 * i
/-- R318 -/ abbrev XPART_SIG (i : Nat) : Nat := 0x24c001c + 0x400000 * i
/-- R318 -/ abbrev LAST_ERR (i : Nat) : Nat := 0x24c0020 + 0x400000 * i
/-- R318 -/ abbrev DUMP_ADDR (i : Nat) : Nat := 0x24c0028 + 0x400000 * i
/-- R318 -/ abbrev DUMP_REQ (i : Nat) : Nat := 0x24c0030 + 0x400000 * i
/-- R318 -/ abbrev DUMP_TICKET (i : Nat) : Nat := 0x24c0034 + 0x400000 * i
/-- R318 -/ abbrev WAIT_STAT (d i : Nat) : Nat := 0x24c0400 + 0x400000 * d + 0x4 * i
/-- R441 -/ abbrev EXPERT_UNLOCK_TALLY (i : Nat) : Nat := 0x24c07fc + 0x400000 * i
/-- R318 -/ abbrev TALLY_VAL (d i : Nat) : Nat := 0x24c1000 + 0x400000 * d + 0x8 * i
/-- R318 -/ abbrev TALLY_WAIT (d i : Nat) : Nat := 0x24c1004 + 0x400000 * d + 0x8 * i
/-- R319 -/ abbrev GATE_SUM (i : Nat) : Nat := 0x24d0000 + 0x400000 * i
/-- R319 -/ abbrev GATE_NM (i : Nat) : Nat := 0x24d0004 + 0x400000 * i
/-- R319 -/ abbrev GATE_MASK (d i : Nat) : Nat := 0x24d0100 + 0x400000 * d + 0x40 * i
/-- R319 -/ abbrev GATE_ARRIVED (d i : Nat) : Nat := 0x24d0110 + 0x400000 * d + 0x40 * i
/-- R319 -/ abbrev GATE_CFG (d i : Nat) : Nat := 0x24d0120 + 0x400000 * d + 0x40 * i
/-- R319 -/ abbrev GATE_STAT (d i : Nat) : Nat := 0x24d0124 + 0x400000 * d + 0x40 * i
/-- R319 -/ abbrev GATE_OPENS (d i : Nat) : Nat := 0x24d0128 + 0x400000 * d + 0x40 * i
/-- R319 -/ abbrev GATE_CMD (d i : Nat) : Nat := 0x24d012c + 0x400000 * d + 0x40 * i
/-- R441 -/ abbrev EXPERT_UNLOCK_GATE (i : Nat) : Nat := 0x24d07fc + 0x400000 * i
/-- R320 -/ abbrev DMA_SUM (i : Nat) : Nat := 0x24e0000 + 0x400000 * i
/-- R320 -/ abbrev DMA_CTRL (d i : Nat) : Nat := 0x24e0100 + 0x400000 * d + 0x40 * i
/-- R320 -/ abbrev DMA_STAT (d i : Nat) : Nat := 0x24e0104 + 0x400000 * d + 0x40 * i
/-- R320 -/ abbrev DMA_CHAIN (d i : Nat) : Nat := 0x24e0108 + 0x400000 * d + 0x40 * i
/-- R320 -/ abbrev DMA_CUR (d i : Nat) : Nat := 0x24e0110 + 0x400000 * d + 0x40 * i
/-- R320 -/ abbrev DMA_BYTES (d i : Nat) : Nat := 0x24e0118 + 0x400000 * d + 0x40 * i
/-- R320 -/ abbrev DMA_TICKET (d i : Nat) : Nat := 0x24e011c + 0x400000 * d + 0x40 * i
/-- R320 -/ abbrev DMA_DESC_DONE (d i : Nat) : Nat := 0x24e0120 + 0x400000 * d + 0x40 * i
/-- R320 -/ abbrev DMA_FAULT_INFO (d i : Nat) : Nat := 0x24e0124 + 0x400000 * d + 0x40 * i
/-- R320 -/ abbrev DMA_CUR_IDX (d i : Nat) : Nat := 0x24e0128 + 0x400000 * d + 0x40 * i
/-- R441 -/ abbrev EXPERT_UNLOCK_DMA (i : Nat) : Nat := 0x24e07fc + 0x400000 * i
/-- R162 -/ abbrev EV_ID : Nat := 0x4000000
/-- R162 -/ abbrev EV_VERSION : Nat := 0x4000004
/-- R162 -/ abbrev EV_BUILD : Nat := 0x4000008
/-- R162 -/ abbrev EV_CONFIG : Nat := 0x400000c
/-- R162 -/ abbrev EV_NODE : Nat := 0x4000010
/-- R162 -/ abbrev EV_ROOT : Nat := 0x4000014
/-- R162 -/ abbrev EV_TB_LAT : Nat := 0x4000018
/-- R163 -/ abbrev E_TIME_NOW : Nat := 0x4000040
/-- R163 -/ abbrev E_TIME_STATUS : Nat := 0x4000050
/-- R163 -/ abbrev E_TIME_UNC : Nat := 0x4000054
/-- R163 -/ abbrev E_POWER_ELAPSED : Nat := 0x4000058
/-- R163 -/ abbrev E_JUMP_LIMIT : Nat := 0x4000060
/-- R163 -/ abbrev E_JUMP_CTRL : Nat := 0x4000064
/-- R163 -/ abbrev E_JUMP_OFFSET : Nat := 0x4000068
/-- R163 -/ abbrev E_ICAL_SEQ : Nat := 0x4000070
/-- R163 -/ abbrev E_ICAL_SUM : Nat := 0x4000074
/-- R163 -/ abbrev E_ICAL_CNT : Nat := 0x4000078
/-- R164 -/ abbrev EV_CTRL : Nat := 0x4000080
/-- R164 -/ abbrev EV_IRQ_STAT : Nat := 0x4000084
/-- R164 -/ abbrev EV_IRQ_EN : Nat := 0x4000088
/-- R164 -/ abbrev E_WAKE_STAT : Nat := 0x400008c
/-- R164 -/ abbrev E_WAKE_AT : Nat := 0x4000090
/-- R164 -/ abbrev E_HCLK_PERIOD : Nat := 0x4000098
/-- R164 -/ abbrev EV_UNLOCK : Nat := 0x40000fc
/-- R165 -/ abbrev E_SERVO_CTRL : Nat := 0x4000100
/-- R165 -/ abbrev E_SERVO_STATUS : Nat := 0x4000104
/-- R165 -/ abbrev E_OFFSET_FILT : Nat := 0x4000108
/-- R165 -/ abbrev E_DELAY_MEAN : Nat := 0x400010c
/-- R165 -/ abbrev E_SERVO_UNC : Nat := 0x4000110
/-- R165 -/ abbrev E_PATH_UNC : Nat := 0x4000114
/-- R165 -/ abbrev E_SW_SERVO_UNC : Nat := 0x4000118
/-- R165 -/ abbrev E_SLEW : Nat := 0x400011c
/-- R165 -/ abbrev E_ACQ_THRESH : Nat := 0x4000120
/-- R165 -/ abbrev E_ACQ_DWELL : Nat := 0x4000124
/-- R165 -/ abbrev E_TRACK_THRESH : Nat := 0x4000128
/-- R165 -/ abbrev E_TRACK_DWELL : Nat := 0x400012c
/-- R165 -/ abbrev E_TRACK_EXIT : Nat := 0x4000130
/-- R165 -/ abbrev E_DELAY_GATE : Nat := 0x4000134
/-- R165 -/ abbrev E_TIME_ADDEND : Nat := 0x4000138
/-- R165 -/ abbrev E_MEAS_STAT : Nat := 0x4000160
/-- R165 -/ abbrev E_MEAS_OVF : Nat := 0x4000168
/-- R165 -/ abbrev E_SERVO_MEAS : Nat := 0x4000180
/-- R166 -/ abbrev EVU_CTRL : Nat := 0x4000200
/-- R166 -/ abbrev EVU_STATUS : Nat := 0x4000204
/-- R166 -/ abbrev EVU_HIST : Nat := 0x4000208
/-- R166 -/ abbrev EVU_IRQ_EN : Nat := 0x400020c
/-- R166 -/ abbrev E_HOLD_TIME : Nat := 0x4000210
/-- R166 -/ abbrev EVU_WTR : Nat := 0x4000214
/-- R166 -/ abbrev EVU_DISPUTE_LIMIT : Nat := 0x4000218
/-- R166 -/ abbrev EVU_ACCEPT_LIMIT : Nat := 0x400021c
/-- R166 -/ abbrev EVU_REJECT_LIMIT : Nat := 0x4000220
/-- R166 -/ abbrev EVU_DRIFT_LIMIT : Nat := 0x4000224
/-- R166 -/ abbrev EVU_DRIFT_TIME : Nat := 0x4000228
/-- R166 -/ abbrev EVU_REQUAL_TIME : Nat := 0x400022c
/-- R166 -/ abbrev EVU_HOLD_FERR : Nat := 0x4000230
/-- R166 -/ abbrev EVU_HOLD_AGING : Nat := 0x4000234
/-- R166 -/ abbrev EVU_HOLD_AVG : Nat := 0x4000238
/-- R166 -/ abbrev E_REF_TABLE (i : Nat) : Nat := 0x4000240 + 0x4 * i
/-- R166 -/ abbrev EVU_SRC_STAT (i : Nat) : Nat := 0x4000260 + 0x20 * i
/-- R166 -/ abbrev EVU_SRC_CFG (i : Nat) : Nat := 0x4000264 + 0x20 * i
/-- R166 -/ abbrev EVU_SRC_PATH_UNC (i : Nat) : Nat := 0x4000268 + 0x20 * i
/-- R166 -/ abbrev EVU_SRC_FREQ (i : Nat) : Nat := 0x400026c + 0x20 * i
/-- R166 -/ abbrev EVU_SRC_DRIFT (i : Nat) : Nat := 0x4000270 + 0x20 * i
/-- R166 -/ abbrev EVU_SRC_PHASE (i : Nat) : Nat := 0x4000274 + 0x20 * i
/-- R166 -/ abbrev EVU_SRC_MISS (i : Nat) : Nat := 0x4000278 + 0x20 * i
/-- R166 -/ abbrev EVU_SRC_STRAY (i : Nat) : Nat := 0x400027c + 0x20 * i
/-- R167 -/ abbrev E_LAUNCH_CFG (i : Nat) : Nat := 0x4000300 + 0x4 * i
/-- R167 -/ abbrev E_LAUNCH_CLR : Nat := 0x4000320
/-- R167 -/ abbrev E_LAUNCH_ARMED : Nat := 0x4000324
/-- R167 -/ abbrev E_ARRIVE : Nat := 0x4000328
/-- R167 -/ abbrev E_ARRIVE_STAT : Nat := 0x400032c
/-- R167 -/ abbrev E_LAST_STEP (i : Nat) : Nat := 0x4000340 + 0x18 * i
/-- R167 -/ abbrev E_LAST_T (i : Nat) : Nat := 0x4000348 + 0x18 * i
/-- R167 -/ abbrev E_EDGE_DT (i : Nat) : Nat := 0x4000350 + 0x18 * i
/-- R167 -/ abbrev E_LINE_STAT (i : Nat) : Nat := 0x4000354 + 0x18 * i
/-- R168 -/ abbrev E_EVT_CFG (i : Nat) : Nat := 0x4000400 + 0x4 * i
/-- R168 -/ abbrev E_EVT_FIFO_STAT : Nat := 0x4000440
/-- R168 -/ abbrev E_EVT_OVF : Nat := 0x4000444
/-- R168 -/ abbrev E_EVT_MERGED : Nat := 0x4000448
/-- R168 -/ abbrev E_EVT_POP : Nat := 0x4000450
/-- R169 -/ abbrev E_PORT_STAT (i : Nat) : Nat := 0x4000500 + 0x4 * i
/-- R170 -/ abbrev EV_ERR_STAT : Nat := 0x4000600
/-- R170 -/ abbrev E_ETX_UNKNOWN : Nat := 0x4000604
/-- R170 -/ abbrev E_ETX_CRC_ERR : Nat := 0x4000608
/-- R170 -/ abbrev E_ETX_HOP_LIMIT : Nat := 0x400060c
/-- R170 -/ abbrev E_TAP_ORPHAN : Nat := 0x4000610
/-- R170 -/ abbrev E_REG_ERR_ADDR : Nat := 0x4000614
/-- R170 -/ abbrev E_FOREIGN_ARR : Nat := 0x4000618
/-- R171 -/ abbrev EV_HOP_UNC : Nat := 0x4000800
/-- R171 -/ abbrev E_KP_ACQ : Nat := 0x4000840
/-- R171 -/ abbrev E_KI_ACQ : Nat := 0x4000844
/-- R171 -/ abbrev E_KP_SET : Nat := 0x4000848
/-- R171 -/ abbrev E_KI_SET : Nat := 0x400084c
/-- R171 -/ abbrev E_KP_TRK : Nat := 0x4000850
/-- R171 -/ abbrev E_KI_TRK : Nat := 0x4000854
/-- R171 -/ abbrev E_ASYM (i : Nat) : Nat := 0x4000900 + 0x18 * i
/-- R171 -/ abbrev E_TX_LAT (i : Nat) : Nat := 0x4000904 + 0x18 * i
/-- R171 -/ abbrev E_RX_LAT (i : Nat) : Nat := 0x4000908 + 0x18 * i
/-- R171 -/ abbrev E_UI_FS (i : Nat) : Nat := 0x400090c + 0x18 * i
/-- R171 -/ abbrev E_LAST_OFFSET (i : Nat) : Nat := 0x4000910 + 0x18 * i
/-- R171 -/ abbrev E_LAST_DELAY (i : Nat) : Nat := 0x4000914 + 0x18 * i

end Sys2Proof.Machine.A
end

