-- ==== Sys2Proof/Machine/Bits.lean ====
section
/-! DEFINITION. Bit fields of registers and messages, byte order (00: fields on the wire are sent most significant
byte first; R9), and the checks over bytes that the rules name: CRC-32 (R52, R357), CRC-16 (R217), CRC-64 (R327). -/

namespace Sys2Proof.Machine

/-- `len` bits of a number from bit `lo` up. -/
def bitsN (w lo len : Nat) : Nat := (w >>> lo) % 2 ^ len

/-- `len` bits of a word from bit `lo` up. -/
def bits (w : Word) (lo len : Nat) : Nat := bitsN w.toNat lo len

/-- A word of which `len` bits from `lo` up are 1. -/
def maskW (lo len : Nat) : Word := BitVec.ofNat 32 ((2 ^ len - 1) <<< lo)

/-- A word with a field replaced. -/
def setBits (w : Word) (lo len v : Nat) : Word :=
  (w &&& ~~~ maskW lo len) ||| BitVec.ofNat 32 ((v % 2 ^ len) <<< lo)

/-- Word `i` of a number, least significant word first. -/
def wordAt (v i : Nat) : Word := BitVec.ofNat 32 (v >>> (32 * i))

/-- A bit of a word. -/
def bit (w : Word) (i : Nat) : Bool := w.getLsbD i

/-- A Bool as a number. -/
def b2n (b : Bool) : Nat := if b then 1 else 0

/-- A two's-complement field read as an integer. -/
def sgn (len w : Nat) : Int := let v := w % 2 ^ len; if v < 2 ^ (len - 1) then v else (v : Int) - 2 ^ len

/-- An integer as a two's-complement field. -/
def enc (len : Nat) (x : Int) : Nat := (x % (2 ^ len : Int)).toNat

/-- A number in an unsigned 32-bit field, saturated (R470). -/
def satU32 (x : Int) : Word := BitVec.ofInt 32 (clampInt 0 0xFFFFFFFF x)

/-- The bytes of a number, most significant first. -/
def toBE : Nat → Nat → List Byte
  | 0, _ => []
  | k + 1, v => BitVec.ofNat 8 (v >>> (8 * k)) :: toBE k v

/-- The number that bytes spell, most significant first. -/
def ofBE (l : List Byte) : Nat := l.foldl (fun a b => a * 256 + b.toNat) 0

/-- `len` bytes from place `i`. -/
def slice (l : List Byte) (i len : Nat) : List Byte := (l.drop i).take len

/-- The number in `len` bytes from place `i`. -/
def getBE (l : List Byte) (i len : Nat) : Nat := ofBE (slice l i len)

/-- Bytes replaced from place `i`. -/
def putAt (l : List Byte) (i : Nat) (v : List Byte) : List Byte := l.take i ++ v ++ l.drop (i + v.length)

/-- The number in a little-endian list of bytes. -/
def ofLE (l : List Byte) : Nat := ofBE l.reverse

/-- The little-endian bytes of a number. -/
def toLE (k v : Nat) : List Byte := (toBE k v).reverse

/-- One byte through a reflected CRC of `w` bits. -/
def crcByteR (poly : Nat) (c : Nat) (b : Byte) : Nat :=
  (List.range 8).foldl (fun c _ => if c % 2 = 1 then (c / 2) ^^^ poly else c / 2) (c ^^^ b.toNat)

/-- CRC-32 of IEEE 802.3 (R52, R357). -/
def crc32 (l : List Byte) : Nat := (l.foldl (crcByteR 0xEDB88320) 0xFFFFFFFF) ^^^ 0xFFFFFFFF

/-- One byte through an unreflected CRC of `w` bits. -/
def crcByte (w poly : Nat) (c : Nat) (b : Byte) : Nat :=
  (List.range 8).foldl
    (fun c _ => (if c ≥ 2 ^ (w - 1) then (2 * c) ^^^ poly else 2 * c) % 2 ^ w) (c ^^^ (b.toNat <<< (w - 8)))

/-- CRC-16 of the bale and fabric headers (R217: polynomial 0x1021, initial 0xFFFF, no reflection, no final XOR). -/
def crc16 (l : List Byte) : Nat := l.foldl (crcByte 16 0x1021) 0xFFFF

/-- CRC-64/ECMA-182 (R327: initial zero, no reflection, no final XOR). -/
def crc64 (l : List Byte) : Nat := l.foldl (crcByte 64 0x42F0E1EBA9EA3693) 0

end Sys2Proof.Machine
end

