-- ==== Sys2Proof/Machine/RegMap.lean ====
section
/-! DEFINITION. The registers of BAR0 and of the Evxus window as the spec's register tables list them: for each
row its address, its repeats, which bits have which access code (R9), its reset value, and whether it is the low or
the high word of a 64-bit register (R440). The Evxus window stands at 0x0400_0000, after the 64 MiB of BAR0
(DESIGN CHOICE, log entry 3: the integrator places it). Bits no mask names are reserved and read zero (R11). -/

namespace Sys2Proof.Machine

/-- One row of a register table: `n` copies at stride `s`, each repeated `n2` times at stride `s2`; the bit masks of
the access codes of R9; the reset value; `half` is 1 for the low word and 2 for the high word of a 64-bit register. -/
structure RegRow where
  base : Nat
  n : Nat
  s : Nat
  n2 : Nat
  s2 : Nat
  rw : Nat
  rws : Nat
  rwc : Nat
  w1c : Nat
  rc : Nat
  wo : Nat
  ro : Nat
  reset : Nat
  half : Nat
  deriving DecidableEq, Repr

/-- Registers of R452: PKG_ID, PKG_VERSION, PKG_VARIANT, CHIP_ID, FW_VERSION, HALL_NODE, SNAP_CTRL, SNAP_STAT, SNAP_LEAD, SNAP_DIES, SNAP_TIME, SNAP_STAMP[d], ALM_COMMIT alias, PART_ACTIVE, PART_ABORT. -/
def regRows0 : List RegRow := [
  ⟨0x0, 1, 0x0, 1, 0x0, 0, 0, 0, 0, 0, 0, 0xffffffff, 0x4164656a, 0⟩,
  ⟨0x4, 1, 0x0, 1, 0x0, 0, 0, 0, 0, 0, 0, 0xffffff00, 0xb1040700, 0⟩,
  ⟨0x8, 1, 0x0, 1, 0x0, 0, 0, 0, 0, 0, 0, 0xff03, 0x0, 0⟩,
  ⟨0x10, 1, 0x0, 1, 0x0, 0, 0, 0, 0, 0, 0, 0xffffffff, 0x0, 1⟩,
  ⟨0x14, 1, 0x0, 1, 0x0, 0, 0, 0, 0, 0, 0, 0xffffffff, 0x0, 2⟩,
  ⟨0x18, 1, 0x0, 1, 0x0, 0, 0, 0, 0, 0, 0, 0xffffffff, 0x0, 0⟩,
  ⟨0x1c, 1, 0x0, 1, 0x0, 0, 0, 0, 0, 0, 0, 0xfffff, 0x0, 0⟩,
  ⟨0x40, 1, 0x0, 1, 0x0, 0x6, 0, 0, 0, 0, 0x80000000, 0, 0x0, 0⟩,
  ⟨0x44, 1, 0x0, 1, 0x0, 0, 0, 0, 0x4, 0, 0, 0x703, 0x0, 0⟩,
  ⟨0x48, 1, 0x0, 1, 0x0, 0xffffffff, 0, 0, 0, 0, 0, 0, 0x14, 0⟩,
  ⟨0x4c, 1, 0x0, 1, 0x0, 0, 0, 0, 0, 0, 0, 0xff, 0x0, 0⟩,
  ⟨0x50, 1, 0x0, 1, 0x0, 0, 0, 0, 0, 0, 0, 0xffff0003, 0x0, 0⟩,
  ⟨0x54, 1, 0x0, 1, 0x0, 0, 0, 0, 0, 0, 0, 0x3fffffff, 0x0, 0⟩,
  ⟨0x58, 1, 0x0, 1, 0x0, 0, 0, 0, 0, 0, 0, 0xffffffff, 0x0, 0⟩,
  ⟨0x5c, 1, 0x0, 1, 0x0, 0, 0, 0, 0, 0, 0, 0xffff, 0x0, 0⟩,
  ⟨0x60, 8, 0xc, 1, 0x0, 0, 0, 0, 0, 0, 0, 0xffffffff, 0x0, 0⟩,
  ⟨0x64, 8, 0xc, 1, 0x0, 0, 0, 0, 0, 0, 0, 0xffffffff, 0x0, 0⟩,
  ⟨0x68, 8, 0xc, 1, 0x0, 0, 0, 0, 0, 0, 0, 0xffffffff, 0x0, 0⟩,
  ⟨0x140, 1, 0x0, 1, 0x0, 0, 0, 0, 0, 0, 0xffffffff, 0, 0x0, 0⟩,
  ⟨0x180, 1, 0x0, 1, 0x0, 0, 0, 0, 0, 0, 0, 0xffffffff, 0x0, 1⟩,
  ⟨0x184, 1, 0x0, 1, 0x0, 0, 0, 0, 0, 0, 0, 0xffffffff, 0x0, 2⟩,
  ⟨0x188, 1, 0x0, 1, 0x0, 0, 0, 0, 0, 0xffffffff, 0, 0, 0x0, 1⟩,
  ⟨0x18c, 1, 0x0, 1, 0x0, 0, 0, 0, 0, 0xffffffff, 0, 0, 0x0, 2⟩]

/-- Registers of R333: DET_KEY, NDET_COUNT, NDET_DEG, NDET_BUBBLE, NDET_LIMIT, NDET_SPRAY, DET_STAT. -/
def regRows1 : List RegRow := [
  ⟨0x100, 1, 0x0, 1, 0x0, 0, 0, 0, 0, 0, 0, 0xffffffff, 0x0, 0⟩,
  ⟨0x104, 1, 0x0, 1, 0x0, 0, 0, 0, 0, 0, 0, 0xffffffff, 0x0, 0⟩,
  ⟨0x108, 1, 0x0, 1, 0x0, 0, 0, 0, 0, 0, 0, 0xffffffff, 0x0, 0⟩,
  ⟨0x10c, 1, 0x0, 1, 0x0, 0, 0, 0, 0, 0, 0, 0xffffffff, 0x0, 0⟩,
  ⟨0x110, 1, 0x0, 1, 0x0, 0, 0, 0, 0, 0, 0, 0xffffffff, 0x0, 1⟩,
  ⟨0x114, 1, 0x0, 1, 0x0, 0, 0, 0, 0, 0, 0, 0xffffffff, 0x0, 2⟩,
  ⟨0x118, 1, 0x0, 1, 0x0, 0, 0, 0, 0, 0, 0, 0xffffffff, 0x0, 1⟩,
  ⟨0x11c, 1, 0x0, 1, 0x0, 0, 0, 0, 0, 0, 0, 0xffffffff, 0x0, 2⟩,
  ⟨0x120, 1, 0x0, 1, 0x0, 0, 0, 0, 0, 0, 0, 0xffffffff, 0x0, 1⟩,
  ⟨0x124, 1, 0x0, 1, 0x0, 0, 0, 0, 0, 0, 0, 0xffffffff, 0x0, 2⟩,
  ⟨0x128, 1, 0x0, 1, 0x0, 0, 0, 0, 0, 0, 0, 0xffffffff, 0x0, 1⟩,
  ⟨0x12c, 1, 0x0, 1, 0x0, 0, 0, 0, 0, 0, 0, 0xffffffff, 0x0, 2⟩,
  ⟨0x130, 1, 0x0, 1, 0x0, 0, 0, 0, 0, 0, 0, 0xffffffff, 0x0, 1⟩,
  ⟨0x134, 1, 0x0, 1, 0x0, 0, 0, 0, 0, 0, 0, 0xffffffff, 0x0, 2⟩,
  ⟨0x138, 1, 0x0, 1, 0x0, 0, 0, 0, 0x6, 0, 0, 0x1, 0x0, 0⟩]

/-- Registers of R441: EXPERT_UNLOCK_PKG, EXPERT_UNLOCK_HOST, EXPERT_UNLOCK_ERR, EXPERT_UNLOCK_HLTH, EXPERT_UNLOCK_TWIN, EXPERT_UNLOCK_TIME, EXPERT_UNLOCK_SERVO, EXPERT_UNLOCK_REF, EXPERT_UNLOCK_PPS, EXPERT_UNLOCK_TIC, EXPERT_UNLOCK_ETX, EXPERT_UNLOCK_PTP, EXPERT_UNLOCK_STEP, EXPERT_UNLOCK_SCH, EXPERT_UNLOCK_ALM, EXPERT_UNLOCK_CLK, EXPERT_UNLOCK_RTE, EXPERT_UNLOCK_TCAM, EXPERT_UNLOCK_SWC, EXPERT_UNLOCK_RED, EXPERT_UNLOCK_UPD, EXPERT_UNLOCK_BANK, EXPERT_UNLOCK_SEG, EXPERT_UNLOCK_TALLY, EXPERT_UNLOCK_GATE, EXPERT_UNLOCK_DMA. -/
def regRows2 : List RegRow := [
  ⟨0x7fc, 1, 0x0, 1, 0x0, 0, 0, 0, 0, 0, 0xffffffff, 0x1, 0x0, 0⟩,
  ⟨0x107fc, 1, 0x0, 1, 0x0, 0, 0, 0, 0, 0, 0xffffffff, 0x1, 0x0, 0⟩,
  ⟨0x207fc, 1, 0x0, 1, 0x0, 0, 0, 0, 0, 0, 0xffffffff, 0x1, 0x0, 0⟩,
  ⟨0x307fc, 1, 0x0, 1, 0x0, 0, 0, 0, 0, 0, 0xffffffff, 0x1, 0x0, 0⟩,
  ⟨0x407fc, 1, 0x0, 1, 0x0, 0, 0, 0, 0, 0, 0xffffffff, 0x1, 0x0, 0⟩,
  ⟨0x1007fc, 1, 0x0, 1, 0x0, 0, 0, 0, 0, 0, 0xffffffff, 0x1, 0x0, 0⟩,
  ⟨0x1107fc, 1, 0x0, 1, 0x0, 0, 0, 0, 0, 0, 0xffffffff, 0x1, 0x0, 0⟩,
  ⟨0x1207fc, 1, 0x0, 1, 0x0, 0, 0, 0, 0, 0, 0xffffffff, 0x1, 0x0, 0⟩,
  ⟨0x1307fc, 1, 0x0, 1, 0x0, 0, 0, 0, 0, 0, 0xffffffff, 0x1, 0x0, 0⟩,
  ⟨0x1407fc, 1, 0x0, 1, 0x0, 0, 0, 0, 0, 0, 0xffffffff, 0x1, 0x0, 0⟩,
  ⟨0x1507fc, 1, 0x0, 1, 0x0, 0, 0, 0, 0, 0, 0xffffffff, 0x1, 0x0, 0⟩,
  ⟨0x1607fc, 1, 0x0, 1, 0x0, 0, 0, 0, 0, 0, 0xffffffff, 0x1, 0x0, 0⟩,
  ⟨0x2007fc, 1, 0x0, 1, 0x0, 0, 0, 0, 0, 0, 0xffffffff, 0x1, 0x0, 0⟩,
  ⟨0x2107fc, 1, 0x0, 1, 0x0, 0, 0, 0, 0, 0, 0xffffffff, 0x1, 0x0, 0⟩,
  ⟨0x3007fc, 1, 0x0, 1, 0x0, 0, 0, 0, 0, 0, 0xffffffff, 0x1, 0x0, 0⟩,
  ⟨0x4007fc, 1, 0x0, 1, 0x0, 0, 0, 0, 0, 0, 0xffffffff, 0x1, 0x0, 0⟩,
  ⟨0x14007fc, 4, 0x400000, 1, 0x0, 0, 0, 0, 0, 0, 0xffffffff, 0x1, 0x0, 0⟩,
  ⟨0x15007fc, 4, 0x400000, 1, 0x0, 0, 0, 0, 0, 0, 0xffffffff, 0x1, 0x0, 0⟩,
  ⟨0x16007fc, 4, 0x400000, 1, 0x0, 0, 0, 0, 0, 0, 0xffffffff, 0x1, 0x0, 0⟩,
  ⟨0x24007fc, 2, 0x400000, 1, 0x0, 0, 0, 0, 0, 0, 0xffffffff, 0x1, 0x0, 0⟩,
  ⟨0x24407fc, 2, 0x400000, 1, 0x0, 0, 0, 0, 0, 0, 0xffffffff, 0x1, 0x0, 0⟩,
  ⟨0x24607fc, 2, 0x400000, 1, 0x0, 0, 0, 0, 0, 0, 0xffffffff, 0x1, 0x0, 0⟩,
  ⟨0x24807fc, 2, 0x400000, 1, 0x0, 0, 0, 0, 0, 0, 0xffffffff, 0x1, 0x0, 0⟩,
  ⟨0x24a07fc, 2, 0x400000, 1, 0x0, 0, 0, 0, 0, 0, 0xffffffff, 0x1, 0x0, 0⟩,
  ⟨0x24c07fc, 2, 0x400000, 1, 0x0, 0, 0, 0, 0, 0, 0xffffffff, 0x1, 0x0, 0⟩,
  ⟨0x24d07fc, 2, 0x400000, 1, 0x0, 0, 0, 0, 0, 0, 0xffffffff, 0x1, 0x0, 0⟩,
  ⟨0x24e07fc, 2, 0x400000, 1, 0x0, 0, 0, 0, 0, 0, 0xffffffff, 0x1, 0x0, 0⟩]

/-- Registers of R453: HOST_STAT, TICKET_NEXT, TICKET_SERIAL, TICKETS_OPEN, TICKET_EXHAUST, ACC_ERR, ACC_ERR_ADDR, EXPERT_DENIED, PCIE_LINK, PCIE_CERR, PCIE_UERR, HOST_IRQ_EN, IRQ_VEC_MAP, IRQ_LEVEL, IRQ_ACK, IRQ_HOLDOFF, MSIX_ADDR, MSIX_ADDR_HI, MSIX_DATA, MSIX_CTRL, MSI-X pending bits, OPSTAT[t]. -/
def regRows3 : List RegRow := [
  ⟨0x10000, 1, 0x0, 1, 0x0, 0, 0, 0, 0xf, 0, 0, 0, 0x0, 0⟩,
  ⟨0x10004, 1, 0x0, 1, 0x0, 0, 0, 0, 0, 0, 0, 0x3ff, 0x0, 0⟩,
  ⟨0x10008, 1, 0x0, 1, 0x0, 0, 0, 0, 0, 0, 0, 0xffff, 0x0, 0⟩,
  ⟨0x1000c, 1, 0x0, 1, 0x0, 0, 0, 0, 0, 0, 0, 0x7ff, 0x0, 0⟩,
  ⟨0x10010, 1, 0x0, 1, 0x0, 0, 0, 0, 0, 0xffffffff, 0, 0, 0x0, 0⟩,
  ⟨0x10014, 1, 0x0, 1, 0x0, 0, 0, 0, 0, 0xffffffff, 0, 0, 0x0, 0⟩,
  ⟨0x10018, 1, 0x0, 1, 0x0, 0, 0, 0, 0, 0, 0, 0x83ffffff, 0x0, 0⟩,
  ⟨0x1001c, 1, 0x0, 1, 0x0, 0, 0, 0, 0, 0xffffffff, 0, 0, 0x0, 0⟩,
  ⟨0x10020, 1, 0x0, 1, 0x0, 0, 0, 0, 0, 0, 0, 0x13ff, 0x0, 0⟩,
  ⟨0x10024, 1, 0x0, 1, 0x0, 0, 0, 0, 0, 0xffffffff, 0, 0, 0x0, 0⟩,
  ⟨0x10028, 1, 0x0, 1, 0x0, 0, 0, 0, 0, 0xffffffff, 0, 0, 0x0, 0⟩,
  ⟨0x10030, 1, 0x0, 1, 0x0, 0xf, 0, 0, 0, 0, 0, 0, 0x0, 0⟩,
  ⟨0x10040, 1, 0x0, 1, 0x0, 0xffffffff, 0, 0, 0, 0, 0, 0, 0xa55560f, 1⟩,
  ⟨0x10044, 1, 0x0, 1, 0x0, 0xffffffff, 0, 0, 0, 0, 0, 0, 0x0, 2⟩,
  ⟨0x10048, 1, 0x0, 1, 0x0, 0, 0, 0, 0, 0, 0, 0xf, 0x0, 0⟩,
  ⟨0x1004c, 1, 0x0, 1, 0x0, 0, 0, 0, 0, 0, 0xf, 0, 0x0, 0⟩,
  ⟨0x10050, 1, 0x0, 1, 0x0, 0xffffffff, 0, 0, 0, 0, 0, 0, 0xa, 0⟩,
  ⟨0x14000, 4, 0x10, 1, 0x0, 0xffffffff, 0, 0, 0, 0, 0, 0, 0x0, 0⟩,
  ⟨0x14004, 4, 0x10, 1, 0x0, 0xffffffff, 0, 0, 0, 0, 0, 0, 0x0, 0⟩,
  ⟨0x14008, 4, 0x10, 1, 0x0, 0xffffffff, 0, 0, 0, 0, 0, 0, 0x0, 0⟩,
  ⟨0x1400c, 4, 0x10, 1, 0x0, 0x1, 0, 0, 0, 0, 0, 0, 0x1, 0⟩,
  ⟨0x15000, 1, 0x0, 1, 0x0, 0, 0, 0, 0, 0, 0, 0xffffffff, 0x0, 1⟩,
  ⟨0x15004, 1, 0x0, 1, 0x0, 0, 0, 0, 0, 0, 0, 0xffffffff, 0x0, 2⟩,
  ⟨0x18000, 1024, 0x8, 1, 0x0, 0, 0, 0, 0, 0, 0, 0xffffffff, 0x0, 1⟩,
  ⟨0x18004, 1024, 0x8, 1, 0x0, 0, 0, 0, 0, 0, 0, 0xffffffff, 0x0, 2⟩]

/-- Registers of R418: ERR_STAT, ERR_IRQ_SUM, ERR_IRQ_EN, WIN_FULL, LOG_EXPORT_ADDR, LOG_CTRL, LOG_TICKET, LOG_RD_SEL, LOG_RD_DATA, LOG_FILL, LOG_OVF, LOG_ROLL, LOG_COAL, CLS_CFG, CLS_WEIGHT, CLS_EVENTS, CLS_LASTING. -/
def regRows4 : List RegRow := [
  ⟨0x20000, 1, 0x0, 1, 0x0, 0, 0, 0, 0x3, 0, 0, 0xc, 0x0, 0⟩,
  ⟨0x20004, 1, 0x0, 1, 0x0, 0, 0, 0, 0, 0, 0, 0xffffffff, 0x0, 0⟩,
  ⟨0x20008, 1, 0x0, 1, 0x0, 0x1fffffff, 0, 0, 0, 0, 0, 0, 0x1fffffff, 0⟩,
  ⟨0x2000c, 1, 0x0, 1, 0x0, 0, 0, 0, 0, 0xffffffff, 0, 0, 0x0, 0⟩,
  ⟨0x20010, 1, 0x0, 1, 0x0, 0xffffffff, 0, 0, 0, 0, 0, 0, 0x0, 1⟩,
  ⟨0x20014, 1, 0x0, 1, 0x0, 0xffffffff, 0, 0, 0, 0, 0, 0, 0x0, 2⟩,
  ⟨0x20018, 1, 0x0, 1, 0x0, 0x1, 0, 0, 0, 0, 0xc0000000, 0, 0x0, 0⟩,
  ⟨0x2001c, 1, 0x0, 1, 0x0, 0, 0, 0, 0, 0, 0, 0xffff83ff, 0x8000, 0⟩,
  ⟨0x20020, 1, 0x0, 1, 0x0, 0x7fff, 0, 0, 0, 0, 0, 0, 0x0, 0⟩,
  ⟨0x20024, 1, 0x0, 1, 0x0, 0, 0, 0, 0, 0, 0, 0xffffffff, 0x0, 0⟩,
  ⟨0x20028, 1, 0x0, 1, 0x0, 0, 0, 0, 0, 0, 0, 0xffffffff, 0x0, 0⟩,
  ⟨0x2002c, 1, 0x0, 1, 0x0, 0, 0, 0, 0, 0, 0, 0xffffffff, 0x0, 0⟩,
  ⟨0x20030, 1, 0x0, 1, 0x0, 0, 0, 0, 0, 0, 0, 0xffffffff, 0x0, 0⟩,
  ⟨0x20034, 1, 0x0, 1, 0x0, 0, 0, 0, 0, 0, 0, 0xffffffff, 0x0, 0⟩,
  ⟨0x20038, 1, 0x0, 1, 0x0, 0, 0, 0, 0, 0, 0, 0xffffffff, 0x0, 0⟩,
  ⟨0x2003c, 1, 0x0, 1, 0x0, 0, 0, 0, 0, 0, 0, 0xffffffff, 0x0, 0⟩,
  ⟨0x20040, 1, 0x0, 1, 0x0, 0, 0, 0, 0, 0, 0, 0xffffffff, 0x0, 0⟩,
  ⟨0x20100, 8, 0x20, 1, 0x0, 0, 0, 0, 0, 0, 0, 0xfff07ff, 0x0, 0⟩,
  ⟨0x20104, 8, 0x20, 1, 0x0, 0, 0, 0, 0, 0xffffffff, 0, 0, 0x0, 0⟩,
  ⟨0x20108, 8, 0x20, 1, 0x0, 0, 0, 0, 0, 0xffffffff, 0, 0, 0x0, 0⟩,
  ⟨0x2010c, 8, 0x20, 1, 0x0, 0, 0, 0, 0, 0xffffffff, 0, 0, 0x0, 0⟩,
  ⟨0x21000, 1, 0x0, 1, 0x0, 0xffffffff, 0, 0, 0, 0, 0, 0, 0x10000e10, 0⟩,
  ⟨0x21004, 1, 0x0, 1, 0x0, 0x83ff03ff, 0, 0, 0, 0, 0, 0, 0x100000, 0⟩,
  ⟨0x21008, 1, 0x0, 1, 0x0, 0, 0, 0, 0, 0xffffffff, 0, 0, 0x0, 0⟩,
  ⟨0x2100c, 1, 0x0, 1, 0x0, 0, 0, 0, 0, 0xffffffff, 0, 0, 0x0, 0⟩,
  ⟨0x21010, 1, 0x0, 1, 0x0, 0xffffffff, 0, 0, 0, 0, 0, 0, 0x2015180, 0⟩,
  ⟨0x21014, 1, 0x0, 1, 0x0, 0x83ff03ff, 0, 0, 0, 0, 0, 0, 0x80000080, 0⟩,
  ⟨0x21018, 1, 0x0, 1, 0x0, 0, 0, 0, 0, 0xffffffff, 0, 0, 0x0, 0⟩,
  ⟨0x2101c, 1, 0x0, 1, 0x0, 0, 0, 0, 0, 0xffffffff, 0, 0, 0x0, 0⟩,
  ⟨0x21020, 1, 0x0, 1, 0x0, 0xffffffff, 0, 0, 0, 0, 0, 0, 0x40000e10, 0⟩]

/-- Registers of R418: CLS_WEIGHT, CLS_EVENTS, CLS_LASTING, CLS_CFG. -/
def regRows5 : List RegRow := [
  ⟨0x21024, 1, 0x0, 1, 0x0, 0x83ff03ff, 0, 0, 0, 0, 0, 0, 0x100000, 0⟩,
  ⟨0x21028, 1, 0x0, 1, 0x0, 0, 0, 0, 0, 0xffffffff, 0, 0, 0x0, 0⟩,
  ⟨0x2102c, 1, 0x0, 1, 0x0, 0, 0, 0, 0, 0xffffffff, 0, 0, 0x0, 0⟩,
  ⟨0x21030, 1, 0x0, 1, 0x0, 0xffffffff, 0, 0, 0, 0, 0, 0, 0x2015180, 0⟩,
  ⟨0x21034, 1, 0x0, 1, 0x0, 0x83ff03ff, 0, 0, 0, 0, 0, 0, 0x80000080, 0⟩,
  ⟨0x21038, 1, 0x0, 1, 0x0, 0, 0, 0, 0, 0xffffffff, 0, 0, 0x0, 0⟩,
  ⟨0x2103c, 1, 0x0, 1, 0x0, 0, 0, 0, 0, 0xffffffff, 0, 0, 0x0, 0⟩,
  ⟨0x21040, 1, 0x0, 1, 0x0, 0xffffffff, 0, 0, 0, 0, 0, 0, 0x64000001, 0⟩,
  ⟨0x21044, 1, 0x0, 1, 0x0, 0x83ff03ff, 0, 0, 0, 0, 0, 0, 0x80000, 0⟩,
  ⟨0x21048, 1, 0x0, 1, 0x0, 0, 0, 0, 0, 0xffffffff, 0, 0, 0x0, 0⟩,
  ⟨0x2104c, 1, 0x0, 1, 0x0, 0, 0, 0, 0, 0xffffffff, 0, 0, 0x0, 0⟩,
  ⟨0x21050, 1, 0x0, 1, 0x0, 0xffffffff, 0, 0, 0, 0, 0, 0, 0x3000e10, 0⟩,
  ⟨0x21054, 1, 0x0, 1, 0x0, 0x83ff03ff, 0, 0, 0, 0, 0, 0, 0x200004, 0⟩,
  ⟨0x21058, 1, 0x0, 1, 0x0, 0, 0, 0, 0, 0xffffffff, 0, 0, 0x0, 0⟩,
  ⟨0x2105c, 1, 0x0, 1, 0x0, 0, 0, 0, 0, 0xffffffff, 0, 0, 0x0, 0⟩,
  ⟨0x21060, 1, 0x0, 1, 0x0, 0xffffffff, 0, 0, 0, 0, 0, 0, 0x3000e10, 0⟩,
  ⟨0x21064, 1, 0x0, 1, 0x0, 0x83ff03ff, 0, 0, 0, 0, 0, 0, 0x200008, 0⟩,
  ⟨0x21068, 1, 0x0, 1, 0x0, 0, 0, 0, 0, 0xffffffff, 0, 0, 0x0, 0⟩,
  ⟨0x2106c, 1, 0x0, 1, 0x0, 0, 0, 0, 0, 0xffffffff, 0, 0, 0x0, 0⟩,
  ⟨0x21070, 1, 0x0, 1, 0x0, 0xffffffff, 0, 0, 0, 0, 0, 0, 0x2000e10, 0⟩,
  ⟨0x21074, 1, 0x0, 1, 0x0, 0x83ff03ff, 0, 0, 0, 0, 0, 0, 0x800020, 0⟩,
  ⟨0x21078, 1, 0x0, 1, 0x0, 0, 0, 0, 0, 0xffffffff, 0, 0, 0x0, 0⟩,
  ⟨0x2107c, 1, 0x0, 1, 0x0, 0, 0, 0, 0, 0xffffffff, 0, 0, 0x0, 0⟩,
  ⟨0x21080, 1, 0x0, 1, 0x0, 0xffffffff, 0, 0, 0, 0, 0, 0, 0x300003c, 0⟩,
  ⟨0x21084, 1, 0x0, 1, 0x0, 0x83ff03ff, 0, 0, 0, 0, 0, 0, 0x1000010, 0⟩,
  ⟨0x21088, 1, 0x0, 1, 0x0, 0, 0, 0, 0, 0xffffffff, 0, 0, 0x0, 0⟩,
  ⟨0x2108c, 1, 0x0, 1, 0x0, 0, 0, 0, 0, 0xffffffff, 0, 0, 0x0, 0⟩,
  ⟨0x21090, 1, 0x0, 1, 0x0, 0xffffffff, 0, 0, 0, 0, 0, 0, 0x3015180, 0⟩,
  ⟨0x21094, 1, 0x0, 1, 0x0, 0x83ff03ff, 0, 0, 0, 0, 0, 0, 0x80000060, 0⟩,
  ⟨0x21098, 1, 0x0, 1, 0x0, 0, 0, 0, 0, 0xffffffff, 0, 0, 0x0, 0⟩]

/-- Registers of R418: CLS_LASTING, CLS_CFG, CLS_WEIGHT, CLS_EVENTS. -/
def regRows6 : List RegRow := [
  ⟨0x2109c, 1, 0x0, 1, 0x0, 0, 0, 0, 0, 0xffffffff, 0, 0, 0x0, 0⟩,
  ⟨0x210a0, 1, 0x0, 1, 0x0, 0xffffffff, 0, 0, 0, 0, 0, 0, 0x3000e10, 0⟩,
  ⟨0x210a4, 1, 0x0, 1, 0x0, 0x83ff03ff, 0, 0, 0, 0, 0, 0, 0x400010, 0⟩,
  ⟨0x210a8, 1, 0x0, 1, 0x0, 0, 0, 0, 0, 0xffffffff, 0, 0, 0x0, 0⟩,
  ⟨0x210ac, 1, 0x0, 1, 0x0, 0, 0, 0, 0, 0xffffffff, 0, 0, 0x0, 0⟩,
  ⟨0x210b0, 1, 0x0, 1, 0x0, 0xffffffff, 0, 0, 0, 0, 0, 0, 0x4000e10, 0⟩,
  ⟨0x210b4, 1, 0x0, 1, 0x0, 0x83ff03ff, 0, 0, 0, 0, 0, 0, 0x100000, 0⟩,
  ⟨0x210b8, 1, 0x0, 1, 0x0, 0, 0, 0, 0, 0xffffffff, 0, 0, 0x0, 0⟩,
  ⟨0x210bc, 1, 0x0, 1, 0x0, 0, 0, 0, 0, 0xffffffff, 0, 0, 0x0, 0⟩,
  ⟨0x210c0, 1, 0x0, 1, 0x0, 0xffffffff, 0, 0, 0, 0, 0, 0, 0xff000001, 0⟩,
  ⟨0x210c4, 1, 0x0, 1, 0x0, 0x83ff03ff, 0, 0, 0, 0, 0, 0, 0x0, 0⟩,
  ⟨0x210c8, 1, 0x0, 1, 0x0, 0, 0, 0, 0, 0xffffffff, 0, 0, 0x0, 0⟩,
  ⟨0x210cc, 1, 0x0, 1, 0x0, 0, 0, 0, 0, 0xffffffff, 0, 0, 0x0, 0⟩,
  ⟨0x210d0, 1, 0x0, 1, 0x0, 0xffffffff, 0, 0, 0, 0, 0, 0, 0xff000001, 0⟩,
  ⟨0x210d4, 1, 0x0, 1, 0x0, 0x83ff03ff, 0, 0, 0, 0, 0, 0, 0x0, 0⟩,
  ⟨0x210d8, 1, 0x0, 1, 0x0, 0, 0, 0, 0, 0xffffffff, 0, 0, 0x0, 0⟩,
  ⟨0x210dc, 1, 0x0, 1, 0x0, 0, 0, 0, 0, 0xffffffff, 0, 0, 0x0, 0⟩]

/-- Registers of R419: HLTH_STAT, HLTH_HIST, HLTH_IRQ_EN, HLTH_CMD, WATCH_LEVEL, EXPEL_LEVEL, DECAY, EXPEL_BUDGET, BUDGET_HOURS, BUDGET_USED, BUDGET_RENEW, PARTNER_SCORE, SW_EVENT, DIP_CTRL, DIP_VERIFY_LIMIT, DIP_SUSPECT_CNT, DIP_CLEARED, DIP_MISMATCH, DIP_UNVER, CUR_BIN, COND_CNT[b], COND_FENCE[b], NBR_HEALTH, NBR_HEALTH_UNC. -/
def regRows7 : List RegRow := [
  ⟨0x30000, 1, 0x0, 1, 0x0, 0, 0, 0, 0, 0, 0, 0x3ff1ffb, 0x0, 0⟩,
  ⟨0x30004, 1, 0x0, 1, 0x0, 0, 0, 0, 0x1ff, 0, 0, 0, 0x0, 0⟩,
  ⟨0x30008, 1, 0x0, 1, 0x0, 0x1ff, 0, 0, 0, 0, 0, 0, 0x0, 0⟩,
  ⟨0x3000c, 1, 0x0, 1, 0x0, 0, 0, 0, 0, 0, 0xe0000000, 0, 0x0, 0⟩,
  ⟨0x30010, 1, 0x0, 1, 0x0, 0, 0x3ff, 0, 0, 0, 0, 0, 0x200, 0⟩,
  ⟨0x30014, 1, 0x0, 1, 0x0, 0, 0x3ff, 0, 0, 0, 0, 0, 0x300, 0⟩,
  ⟨0x30018, 1, 0x0, 1, 0x0, 0, 0xffffffff, 0, 0, 0, 0, 0, 0x8, 0⟩,
  ⟨0x3001c, 1, 0x0, 1, 0x0, 0, 0xffffffff, 0, 0, 0, 0, 0, 0x1, 0⟩,
  ⟨0x30020, 1, 0x0, 1, 0x0, 0, 0xffffffff, 0, 0, 0, 0, 0, 0x18, 0⟩,
  ⟨0x30024, 1, 0x0, 1, 0x0, 0, 0, 0, 0, 0, 0, 0xffffffff, 0x0, 0⟩,
  ⟨0x30028, 1, 0x0, 1, 0x0, 0, 0, 0, 0, 0, 0, 0xffffffff, 0x0, 1⟩,
  ⟨0x3002c, 1, 0x0, 1, 0x0, 0, 0, 0, 0, 0, 0, 0xffffffff, 0x0, 2⟩,
  ⟨0x30030, 1, 0x0, 1, 0x0, 0, 0, 0, 0, 0, 0, 0x3ff, 0x0, 0⟩,
  ⟨0x30034, 1, 0x0, 1, 0x0, 0, 0, 0, 0, 0, 0xffffffff, 0, 0x0, 0⟩,
  ⟨0x30040, 1, 0x0, 1, 0x0, 0x1, 0, 0, 0, 0, 0, 0, 0x0, 0⟩,
  ⟨0x30044, 1, 0x0, 1, 0x0, 0xffffffff, 0, 0, 0, 0, 0, 0, 0x7d0, 0⟩,
  ⟨0x30048, 1, 0x0, 1, 0x0, 0, 0, 0, 0, 0xffffffff, 0, 0, 0x0, 0⟩,
  ⟨0x3004c, 1, 0x0, 1, 0x0, 0, 0, 0, 0, 0xffffffff, 0, 0, 0x0, 0⟩,
  ⟨0x30050, 1, 0x0, 1, 0x0, 0, 0, 0, 0, 0xffffffff, 0, 0, 0x0, 0⟩,
  ⟨0x30054, 1, 0x0, 1, 0x0, 0, 0, 0, 0, 0xffffffff, 0, 0, 0x0, 0⟩,
  ⟨0x30058, 1, 0x0, 1, 0x0, 0, 0, 0, 0, 0, 0, 0x1f1f, 0x0, 0⟩,
  ⟨0x30060, 32, 0x4, 1, 0x0, 0, 0, 0, 0, 0, 0, 0xffffffff, 0x0, 0⟩,
  ⟨0x300e0, 32, 0x4, 1, 0x0, 0x7, 0, 0, 0, 0, 0, 0, 0x0, 0⟩,
  ⟨0x31000, 513, 0x8, 1, 0x0, 0, 0, 0, 0, 0, 0, 0xc3ff00ff, 0x0, 0⟩,
  ⟨0x31004, 513, 0x8, 1, 0x0, 0, 0, 0, 0, 0, 0, 0xffffffff, 0x0, 0⟩]

/-- Registers of R395: TWIN_STAT, TWIN_HIST, TWIN_IRQ_EN, TWIN_CMD, TWIN_TICKET, ROLE_EPOCH, HB_TIMEOUT, PROBE_WAIT, PARTNER_NODE, TWIN_LANES, S_ALT, ADMIT_STEPS, ADMIT_MATCH, ADMIT_MISS, ADMIT_RESTORED, CONV_STAT, REBUILD_RATE, CONV_STEP, REBUILD_DONE, REBUILD_TOTAL, CONV_MEMBER[i], DELTA_PEND, REH_CTRL, REH_STEPS, REH_NEXT. -/
def regRows8 : List RegRow := [
  ⟨0x40000, 1, 0x0, 1, 0x0, 0, 0, 0, 0, 0, 0, 0xff8f, 0x1, 0⟩,
  ⟨0x40004, 1, 0x0, 1, 0x0, 0, 0, 0, 0xffff, 0, 0, 0, 0x0, 0⟩,
  ⟨0x40008, 1, 0x0, 1, 0x0, 0xffff, 0, 0, 0, 0, 0, 0, 0x0, 0⟩,
  ⟨0x4000c, 1, 0x0, 1, 0x0, 0, 0, 0, 0, 0, 0xf8000007, 0, 0x0, 0⟩,
  ⟨0x40010, 1, 0x0, 1, 0x0, 0, 0, 0, 0, 0, 0, 0xffff83ff, 0x8000, 0⟩,
  ⟨0x40014, 1, 0x0, 1, 0x0, 0, 0, 0, 0, 0, 0, 0xffffffff, 0x0, 0⟩,
  ⟨0x40018, 1, 0x0, 1, 0x0, 0xffffffff, 0, 0, 0, 0, 0, 0, 0x64, 0⟩,
  ⟨0x4001c, 1, 0x0, 1, 0x0, 0xffffffff, 0, 0, 0, 0, 0, 0, 0x3e8, 0⟩,
  ⟨0x40020, 1, 0x0, 1, 0x0, 0, 0, 0, 0, 0, 0, 0xfffff, 0x0, 0⟩,
  ⟨0x40024, 1, 0x0, 1, 0x0, 0, 0, 0, 0, 0, 0, 0x3f, 0x0, 0⟩,
  ⟨0x40028, 1, 0x0, 1, 0x0, 0, 0, 0, 0, 0, 0, 0xffffffff, 0x0, 1⟩,
  ⟨0x4002c, 1, 0x0, 1, 0x0, 0, 0, 0, 0, 0, 0, 0xffffffff, 0x0, 2⟩,
  ⟨0x40030, 1, 0x0, 1, 0x0, 0xffffffff, 0, 0, 0, 0, 0, 0, 0x40, 0⟩,
  ⟨0x40034, 1, 0x0, 1, 0x0, 0, 0, 0, 0, 0, 0, 0xffffffff, 0x0, 0⟩,
  ⟨0x40038, 1, 0x0, 1, 0x0, 0, 0, 0, 0, 0xffffffff, 0, 0, 0x0, 0⟩,
  ⟨0x40040, 1, 0x0, 1, 0x0, 0, 0, 0, 0, 0, 0, 0xffffffff, 0x0, 1⟩,
  ⟨0x40044, 1, 0x0, 1, 0x0, 0, 0, 0, 0, 0, 0, 0xffffffff, 0x0, 2⟩,
  ⟨0x40100, 1, 0x0, 1, 0x0, 0, 0, 0, 0, 0, 0, 0xff83, 0x0, 0⟩,
  ⟨0x40104, 1, 0x0, 1, 0x0, 0xffffffff, 0, 0, 0, 0, 0, 0, 0x64, 0⟩,
  ⟨0x40108, 1, 0x0, 1, 0x0, 0, 0, 0, 0, 0, 0, 0xffffffff, 0x0, 1⟩,
  ⟨0x4010c, 1, 0x0, 1, 0x0, 0, 0, 0, 0, 0, 0, 0xffffffff, 0x0, 2⟩,
  ⟨0x40110, 1, 0x0, 1, 0x0, 0, 0, 0, 0, 0, 0, 0xffffffff, 0x0, 1⟩,
  ⟨0x40114, 1, 0x0, 1, 0x0, 0, 0, 0, 0, 0, 0, 0xffffffff, 0x0, 2⟩,
  ⟨0x40118, 1, 0x0, 1, 0x0, 0, 0, 0, 0, 0, 0, 0xffffffff, 0x0, 1⟩,
  ⟨0x4011c, 1, 0x0, 1, 0x0, 0, 0, 0, 0, 0, 0, 0xffffffff, 0x0, 2⟩,
  ⟨0x40120, 8, 0x4, 1, 0x0, 0, 0, 0, 0, 0, 0, 0xe00fffff, 0x0, 0⟩,
  ⟨0x40140, 1, 0x0, 1, 0x0, 0, 0, 0, 0, 0, 0, 0xffffffff, 0x0, 0⟩,
  ⟨0x40200, 1, 0x0, 1, 0x0, 0xffff001e, 0, 0, 0, 0, 0, 0, 0x168001e, 0⟩,
  ⟨0x40204, 1, 0x0, 1, 0x0, 0xffffffff, 0, 0, 0, 0, 0, 0, 0x10, 0⟩,
  ⟨0x40208, 1, 0x0, 1, 0x0, 0, 0, 0, 0, 0, 0, 0xffffffff, 0x0, 1⟩]

/-- Registers of R395: REH_NEXT, REH_LAST, REH_COUNT, REH_DEFER. -/
def regRows9 : List RegRow := [
  ⟨0x4020c, 1, 0x0, 1, 0x0, 0, 0, 0, 0, 0, 0, 0xffffffff, 0x0, 2⟩,
  ⟨0x40210, 1, 0x0, 1, 0x0, 0, 0, 0, 0, 0, 0, 0xffff0703, 0x0, 0⟩,
  ⟨0x40214, 1, 0x0, 1, 0x0, 0, 0, 0, 0, 0, 0, 0xffffffff, 0x0, 0⟩,
  ⟨0x40218, 1, 0x0, 1, 0x0, 0, 0, 0, 0, 0xffffffff, 0, 0, 0x0, 0⟩]

/-- Registers of R86: TIME_NOW, TIME_ADDEND, TIME_STATUS, TIME_UNC, TIME_EPOCH_SET, TIME_EPOCH_STATUS, TIME_EPOCH_PE, POWER_ELAPSED, JUMP_LIMIT, JUMP_CTRL, JUMP_OFFSET, ICAL_SEQ, ICAL_SUM, INTERCAL_DROP, INTERCAL_LATE, INTERCAL_MISSED, PULL_CTRL, PULL_REQ, PULL_REMAIN. -/
def regRows10 : List RegRow := [
  ⟨0x100000, 1, 0x0, 1, 0x0, 0, 0, 0, 0, 0, 0, 0xffff0003, 0x0, 0⟩,
  ⟨0x100004, 1, 0x0, 1, 0x0, 0, 0, 0, 0, 0, 0, 0x3fffffff, 0x0, 0⟩,
  ⟨0x100008, 1, 0x0, 1, 0x0, 0, 0, 0, 0, 0, 0, 0xffffffff, 0x0, 0⟩,
  ⟨0x10000c, 1, 0x0, 1, 0x0, 0, 0, 0, 0, 0, 0, 0xffff, 0x0, 0⟩,
  ⟨0x100010, 1, 0x0, 1, 0x0, 0xffffffff, 0, 0, 0, 0, 0, 0, 0xcccccccd, 1⟩,
  ⟨0x100014, 1, 0x0, 1, 0x0, 0xffffffff, 0, 0, 0, 0, 0, 0, 0x0, 2⟩,
  ⟨0x100018, 1, 0x0, 1, 0x0, 0, 0, 0, 0x1c, 0, 0, 0x1f03, 0x0, 0⟩,
  ⟨0x10001c, 1, 0x0, 1, 0x0, 0, 0, 0, 0, 0, 0, 0xffffffff, 0x0, 0⟩,
  ⟨0x100020, 1, 0x0, 1, 0x0, 0xffff0007, 0, 0, 0, 0, 0, 0, 0x0, 0⟩,
  ⟨0x100024, 1, 0x0, 1, 0x0, 0x3fffffff, 0, 0, 0, 0, 0, 0, 0x0, 0⟩,
  ⟨0x100028, 1, 0x0, 1, 0x0, 0xffffffff, 0, 0, 0, 0, 0, 0, 0x0, 0⟩,
  ⟨0x10002c, 1, 0x0, 1, 0x0, 0xffff, 0, 0, 0, 0, 0, 0, 0x0, 0⟩,
  ⟨0x100030, 1, 0x0, 1, 0x0, 0, 0, 0, 0, 0, 0, 0x7, 0x0, 0⟩,
  ⟨0x100038, 1, 0x0, 1, 0x0, 0, 0, 0, 0, 0, 0, 0xffffffff, 0x0, 1⟩,
  ⟨0x10003c, 1, 0x0, 1, 0x0, 0, 0, 0, 0, 0, 0, 0xffffffff, 0x0, 2⟩,
  ⟨0x100040, 1, 0x0, 1, 0x0, 0, 0, 0, 0, 0, 0, 0xffffffff, 0x0, 1⟩,
  ⟨0x100044, 1, 0x0, 1, 0x0, 0, 0, 0, 0, 0, 0, 0xffffffff, 0x0, 2⟩,
  ⟨0x100048, 1, 0x0, 1, 0x0, 0xffffffff, 0, 0, 0, 0, 0, 0, 0x3e8, 0⟩,
  ⟨0x10004c, 1, 0x0, 1, 0x0, 0, 0, 0, 0x1, 0, 0x80000000, 0xe, 0x0, 0⟩,
  ⟨0x100050, 1, 0x0, 1, 0x0, 0, 0, 0, 0, 0, 0, 0xffffffff, 0x0, 1⟩,
  ⟨0x100054, 1, 0x0, 1, 0x0, 0, 0, 0, 0, 0, 0, 0xffffffff, 0x0, 2⟩,
  ⟨0x100058, 1, 0x0, 1, 0x0, 0, 0, 0, 0, 0, 0, 0xfffff, 0x0, 0⟩,
  ⟨0x10005c, 1, 0x0, 1, 0x0, 0, 0, 0, 0, 0, 0, 0xffffffff, 0x0, 0⟩,
  ⟨0x100060, 1, 0x0, 1, 0x0, 0, 0, 0, 0, 0xffffffff, 0, 0, 0x0, 0⟩,
  ⟨0x100064, 1, 0x0, 1, 0x0, 0, 0, 0, 0, 0xffffffff, 0, 0, 0x0, 0⟩,
  ⟨0x100068, 1, 0x0, 1, 0x0, 0, 0, 0, 0, 0xffffffff, 0, 0, 0x0, 0⟩,
  ⟨0x100070, 1, 0x0, 1, 0x0, 0x3fffff, 0, 0, 0, 0, 0, 0, 0x32000a, 0⟩,
  ⟨0x100074, 1, 0x0, 1, 0x0, 0, 0, 0, 0, 0, 0xffffffff, 0, 0x0, 0⟩,
  ⟨0x100078, 1, 0x0, 1, 0x0, 0, 0, 0, 0, 0, 0, 0xffffffff, 0x0, 0⟩]

/-- Registers of R87: SERVO_CTRL, SERVO_STATUS, OFFSET_FILT, DELAY_MEAN, SERVO_UNC, PATH_UNC, SW_SERVO_UNC, SLEW, ACQ_THRESH, ACQ_DWELL, TRACK_THRESH, TRACK_DWELL, TRACK_EXIT, DELAY_GATE, MEAS_STAT, MEAS_OVF, SERVO_MEAS, KP_ACQ, KI_ACQ, KP_SET, KI_SET, KP_TRK, KI_TRK. -/
def regRows11 : List RegRow := [
  ⟨0x110000, 1, 0x0, 1, 0x0, 0x1, 0, 0, 0, 0, 0x10, 0, 0x0, 0⟩,
  ⟨0x110004, 1, 0x0, 1, 0x0, 0, 0, 0, 0x3f0, 0, 0, 0x3, 0x0, 0⟩,
  ⟨0x110008, 1, 0x0, 1, 0x0, 0, 0, 0, 0, 0, 0, 0xffffffff, 0x0, 0⟩,
  ⟨0x11000c, 1, 0x0, 1, 0x0, 0, 0, 0, 0, 0, 0, 0xffffffff, 0x0, 0⟩,
  ⟨0x110010, 1, 0x0, 1, 0x0, 0, 0, 0, 0, 0, 0, 0xffffffff, 0x0, 0⟩,
  ⟨0x110014, 1, 0x0, 1, 0x0, 0, 0, 0, 0, 0, 0, 0xffffffff, 0x0, 0⟩,
  ⟨0x110018, 1, 0x0, 1, 0x0, 0xffffffff, 0, 0, 0, 0, 0, 0, 0x0, 0⟩,
  ⟨0x11001c, 1, 0x0, 1, 0x0, 0, 0, 0, 0, 0, 0xffffffff, 0, 0x0, 0⟩,
  ⟨0x110020, 1, 0x0, 1, 0x0, 0xffffffff, 0, 0, 0, 0, 0, 0, 0xfa0, 0⟩,
  ⟨0x110024, 1, 0x0, 1, 0x0, 0xffffffff, 0, 0, 0, 0, 0, 0, 0x3e8, 0⟩,
  ⟨0x110028, 1, 0x0, 1, 0x0, 0xffffffff, 0, 0, 0, 0, 0, 0, 0x3c, 0⟩,
  ⟨0x11002c, 1, 0x0, 1, 0x0, 0xffffffff, 0, 0, 0, 0, 0, 0, 0x3e80, 0⟩,
  ⟨0x110030, 1, 0x0, 1, 0x0, 0xffffffff, 0, 0, 0, 0, 0, 0, 0x78, 0⟩,
  ⟨0x110034, 1, 0x0, 1, 0x0, 0xffffffff, 0, 0, 0, 0, 0, 0, 0x7d0, 0⟩,
  ⟨0x110060, 1, 0x0, 1, 0x0, 0, 0, 0, 0, 0, 0, 0x1ff, 0x0, 0⟩,
  ⟨0x110068, 1, 0x0, 1, 0x0, 0, 0, 0, 0, 0xffffffff, 0, 0, 0x0, 0⟩,
  ⟨0x110080, 1, 0x0, 1, 0x0, 0, 0, 0, 0, 0, 0, 0x3ffffff, 0x0, 0⟩,
  ⟨0x110084, 1, 0x0, 1, 0x0, 0, 0, 0, 0, 0, 0, 0xffffffff, 0x0, 0⟩,
  ⟨0x110088, 1, 0x0, 1, 0x0, 0, 0, 0, 0, 0, 0, 0xffffffff, 0x0, 0⟩,
  ⟨0x11008c, 1, 0x0, 1, 0x0, 0, 0, 0, 0, 0, 0, 0xffffffff, 0x0, 0⟩,
  ⟨0x110840, 1, 0x0, 1, 0x0, 0xffffffff, 0, 0, 0, 0, 0, 0, 0xb1b70a3d, 0⟩,
  ⟨0x110844, 1, 0x0, 1, 0x0, 0xffffffff, 0, 0, 0, 0, 0, 0, 0x3f2a5a4, 0⟩,
  ⟨0x110848, 1, 0x0, 1, 0x0, 0xffffffff, 0, 0, 0, 0, 0, 0, 0x11c58106, 0⟩,
  ⟨0x11084c, 1, 0x0, 1, 0x0, 0xffffffff, 0, 0, 0, 0, 0, 0, 0xa1b42, 0⟩,
  ⟨0x110850, 1, 0x0, 1, 0x0, 0xffffffff, 0, 0, 0, 0, 0, 0, 0x1c6f34d, 0⟩,
  ⟨0x110854, 1, 0x0, 1, 0x0, 0xffffffff, 0, 0, 0, 0, 0, 0, 0x19df, 0⟩]

/-- Registers of R120: REF_CTRL, REF_STATUS, REF_HIST, REF_IRQ_EN, REF_HOLD_TIME, WTR, DISPUTE_LIMIT, ACCEPT_LIMIT, REJECT_LIMIT, DRIFT_LIMIT, DRIFT_TIME, REQUAL_TIME, HOLD_FERR, HOLD_AGING, HOLD_AVG, FREQ_SLOPE, PULL_MAX, REF_TABLE[i], SRC_STAT, SRC_CFG, PIN_PHASE_OFS / SRC_PATH_UNC, SRC_FREQ, SRC_DRIFT, SRC_PHASE, SRC_MISS, SRC_STRAY, V_SRC_STAT, V_SRC_CFG, V_SRC_PATH_UNC, V_SRC_FREQ. -/
def regRows12 : List RegRow := [
  ⟨0x120000, 1, 0x0, 1, 0x0, 0xf01, 0, 0, 0, 0, 0x80000000, 0, 0xf00, 0⟩,
  ⟨0x120004, 1, 0x0, 1, 0x0, 0, 0, 0, 0, 0, 0, 0x1fffff, 0xf0, 0⟩,
  ⟨0x120008, 1, 0x0, 1, 0x0, 0, 0, 0, 0x1fff, 0, 0, 0, 0x0, 0⟩,
  ⟨0x12000c, 1, 0x0, 1, 0x0, 0x1fff, 0, 0, 0, 0, 0, 0, 0x0, 0⟩,
  ⟨0x120010, 1, 0x0, 1, 0x0, 0, 0, 0, 0, 0, 0, 0xffffffff, 0x0, 0⟩,
  ⟨0x120014, 1, 0x0, 1, 0x0, 0xffffffff, 0, 0, 0, 0, 0, 0, 0x12c, 0⟩,
  ⟨0x120018, 1, 0x0, 1, 0x0, 0xffffffff, 0, 0, 0, 0, 0, 0, 0x14, 0⟩,
  ⟨0x12001c, 1, 0x0, 1, 0x0, 0xffffffff, 0, 0, 0, 0, 0, 0, 0x32, 0⟩,
  ⟨0x120020, 1, 0x0, 1, 0x0, 0xffffffff, 0, 0, 0, 0, 0, 0, 0x64, 0⟩,
  ⟨0x120024, 1, 0x0, 1, 0x0, 0xffffffff, 0, 0, 0, 0, 0, 0, 0x32, 0⟩,
  ⟨0x120028, 1, 0x0, 1, 0x0, 0xffffffff, 0, 0, 0, 0, 0, 0, 0x3c, 0⟩,
  ⟨0x12002c, 1, 0x0, 1, 0x0, 0xffffffff, 0, 0, 0, 0, 0, 0, 0x1e, 0⟩,
  ⟨0x120030, 1, 0x0, 1, 0x0, 0xffffffff, 0, 0, 0, 0, 0, 0, 0xc8, 0⟩,
  ⟨0x120034, 1, 0x0, 1, 0x0, 0xffffffff, 0, 0, 0, 0, 0, 0, 0x64, 0⟩,
  ⟨0x120038, 1, 0x0, 1, 0x0, 0xffffffff, 0, 0, 0, 0, 0, 0, 0x3c, 0⟩,
  ⟨0x12003c, 1, 0x0, 1, 0x0, 0xffffffff, 0, 0, 0, 0, 0, 0, 0x14, 0⟩,
  ⟨0x120040, 1, 0x0, 1, 0x0, 0xffffffff, 0, 0, 0, 0, 0, 0, 0x3e8, 0⟩,
  ⟨0x120100, 8, 0x4, 1, 0x0, 0xf0f, 0, 0, 0, 0, 0, 0, 0xf, 0⟩,
  ⟨0x120200, 4, 0x20, 1, 0x0, 0, 0, 0, 0, 0, 0, 0xff0001ff, 0x0, 0⟩,
  ⟨0x120204, 4, 0x20, 1, 0x0, 0x13, 0, 0, 0, 0, 0, 0, 0x0, 0⟩,
  ⟨0x120208, 4, 0x20, 1, 0x0, 0xffffffff, 0, 0, 0, 0, 0, 0, 0x0, 0⟩,
  ⟨0x12020c, 4, 0x20, 1, 0x0, 0, 0, 0, 0, 0, 0, 0xffffffff, 0x0, 0⟩,
  ⟨0x120210, 4, 0x20, 1, 0x0, 0, 0, 0, 0, 0, 0, 0xffffffff, 0x0, 0⟩,
  ⟨0x120214, 4, 0x20, 1, 0x0, 0, 0, 0, 0, 0, 0, 0xffffffff, 0x0, 0⟩,
  ⟨0x120218, 4, 0x20, 1, 0x0, 0, 0, 0, 0, 0xffffffff, 0, 0, 0x0, 0⟩,
  ⟨0x12021c, 4, 0x20, 1, 0x0, 0, 0, 0, 0, 0xffffffff, 0, 0, 0x0, 0⟩,
  ⟨0x120300, 2, 0x20, 1, 0x0, 0, 0, 0, 0, 0, 0, 0xff0001ff, 0x0, 0⟩,
  ⟨0x120304, 2, 0x20, 1, 0x0, 0, 0, 0, 0, 0, 0, 0x3ff, 0x0, 0⟩,
  ⟨0x120308, 2, 0x20, 1, 0x0, 0, 0, 0, 0, 0, 0, 0xffffffff, 0x0, 0⟩,
  ⟨0x12030c, 2, 0x20, 1, 0x0, 0, 0, 0, 0, 0, 0, 0xffffffff, 0x0, 0⟩]

/-- Registers of R120: V_SRC_DRIFT, V_SRC_PHASE, V_SRC_MISS, V_SRC_STRAY, REF_EXPERT. -/
def regRows13 : List RegRow := [
  ⟨0x120310, 2, 0x20, 1, 0x0, 0, 0, 0, 0, 0, 0, 0xffffffff, 0x0, 0⟩,
  ⟨0x120314, 2, 0x20, 1, 0x0, 0, 0, 0, 0, 0, 0, 0xffffffff, 0x0, 0⟩,
  ⟨0x120318, 2, 0x20, 1, 0x0, 0, 0, 0, 0, 0xffffffff, 0, 0, 0x0, 0⟩,
  ⟨0x12031c, 2, 0x20, 1, 0x0, 0, 0, 0, 0, 0, 0, 0xffffffff, 0x0, 0⟩,
  ⟨0x120800, 1, 0x0, 1, 0x0, 0x1, 0, 0, 0, 0, 0, 0, 0x0, 0⟩]

/-- Registers of R121: OUT_CTRL, OUT_STATUS, OUT_OFFSET, OUT_WIDTH, OUT_PERIOD, OUT_SKIP, OUT_LAST. -/
def regRows14 : List RegRow := [
  ⟨0x130000, 2, 0x40, 1, 0x0, 0xfb, 0, 0, 0, 0, 0, 0, 0x0, 0⟩,
  ⟨0x130004, 2, 0x40, 1, 0x0, 0, 0, 0, 0x18, 0, 0, 0x7, 0x0, 0⟩,
  ⟨0x130008, 2, 0x40, 1, 0x0, 0xffffffff, 0, 0, 0, 0, 0, 0, 0x0, 1⟩,
  ⟨0x13000c, 2, 0x40, 1, 0x0, 0xffffffff, 0, 0, 0, 0, 0, 0, 0x0, 2⟩,
  ⟨0x130010, 2, 0x40, 1, 0x0, 0xffffffff, 0, 0, 0, 0, 0, 0, 0x186a0, 0⟩,
  ⟨0x130014, 2, 0x40, 1, 0x0, 0xffffffff, 0, 0, 0, 0, 0, 0, 0x64, 0⟩,
  ⟨0x130018, 2, 0x40, 1, 0x0, 0, 0, 0, 0, 0xffffffff, 0, 0, 0x0, 0⟩,
  ⟨0x130020, 2, 0x40, 1, 0x0, 0, 0, 0, 0, 0, 0, 0xffffffff, 0x0, 0⟩,
  ⟨0x130024, 2, 0x40, 1, 0x0, 0, 0, 0, 0, 0, 0, 0xffffffff, 0x0, 0⟩,
  ⟨0x130028, 2, 0x40, 1, 0x0, 0, 0, 0, 0, 0, 0, 0xffffffff, 0x0, 0⟩]

/-- Registers of R136: TAP_LEAD, LMON_GROUP, SKEW[s], TIC_CTRL, TIC_STATUS, TIC_SRC, TIC_N, WIN_OPEN, WIN_CLOSE, START_OFS, STOP_OFS, TIC_TICKET, TIC_COUNT, RES_MEAN, RES_SD, RES_MIN, RES_MAX, CAL_CODES, CAL_GAIN, CAL_CODES_STOP, CAL_GAIN_STOP, VERDICT_CNT. -/
def regRows15 : List RegRow := [
  ⟨0x140000, 1, 0x0, 1, 0x0, 0xffffffff, 0, 0, 0, 0, 0, 0, 0x64, 0⟩,
  ⟨0x140004, 1, 0x0, 1, 0x0, 0x3f, 0, 0, 0, 0, 0, 0, 0x0, 0⟩,
  ⟨0x140040, 14, 0x4, 1, 0x0, 0, 0, 0, 0, 0, 0, 0xffffffff, 0x0, 0⟩,
  ⟨0x140100, 4, 0x100, 1, 0x0, 0xff0013, 0, 0, 0, 0, 0xe0000000, 0, 0x0, 0⟩,
  ⟨0x140104, 4, 0x100, 1, 0x0, 0, 0, 0, 0xf8, 0, 0, 0x707, 0x0, 0⟩,
  ⟨0x140108, 4, 0x100, 1, 0x0, 0x3ffffff, 0, 0, 0, 0, 0, 0, 0x0, 0⟩,
  ⟨0x14010c, 4, 0x100, 1, 0x0, 0x1ffffff, 0, 0, 0, 0, 0, 0, 0x1, 0⟩,
  ⟨0x140110, 4, 0x100, 1, 0x0, 0xffffffff, 0, 0, 0, 0, 0, 0, 0x0, 1⟩,
  ⟨0x140114, 4, 0x100, 1, 0x0, 0xffffffff, 0, 0, 0, 0, 0, 0, 0x0, 2⟩,
  ⟨0x140118, 4, 0x100, 1, 0x0, 0xffffffff, 0, 0, 0, 0, 0, 0, 0x3b9aca00, 1⟩,
  ⟨0x14011c, 4, 0x100, 1, 0x0, 0xffffffff, 0, 0, 0, 0, 0, 0, 0x0, 2⟩,
  ⟨0x140120, 4, 0x100, 1, 0x0, 0xffffffff, 0, 0, 0, 0, 0, 0, 0x0, 0⟩,
  ⟨0x140124, 4, 0x100, 1, 0x0, 0xffffffff, 0, 0, 0, 0, 0, 0, 0x0, 0⟩,
  ⟨0x140128, 4, 0x100, 1, 0x0, 0, 0, 0, 0, 0, 0, 0xffff83ff, 0x8000, 0⟩,
  ⟨0x14012c, 4, 0x100, 1, 0x0, 0, 0, 0, 0, 0, 0, 0xffffffff, 0x0, 0⟩,
  ⟨0x140130, 4, 0x100, 1, 0x0, 0, 0, 0, 0, 0, 0, 0xffffffff, 0x0, 1⟩,
  ⟨0x140134, 4, 0x100, 1, 0x0, 0, 0, 0, 0, 0, 0, 0xffffffff, 0x0, 2⟩,
  ⟨0x140138, 4, 0x100, 1, 0x0, 0, 0, 0, 0, 0, 0, 0xffffffff, 0x0, 1⟩,
  ⟨0x14013c, 4, 0x100, 1, 0x0, 0, 0, 0, 0, 0, 0, 0xffffffff, 0x0, 2⟩,
  ⟨0x140140, 4, 0x100, 1, 0x0, 0, 0, 0, 0, 0, 0, 0xffffffff, 0x0, 1⟩,
  ⟨0x140144, 4, 0x100, 1, 0x0, 0, 0, 0, 0, 0, 0, 0xffffffff, 0x0, 2⟩,
  ⟨0x140148, 4, 0x100, 1, 0x0, 0, 0, 0, 0, 0, 0, 0xffffffff, 0x0, 1⟩,
  ⟨0x14014c, 4, 0x100, 1, 0x0, 0, 0, 0, 0, 0, 0, 0xffffffff, 0x0, 2⟩,
  ⟨0x140150, 4, 0x100, 1, 0x0, 0, 0, 0, 0, 0, 0, 0xffffffff, 0x0, 0⟩,
  ⟨0x140154, 4, 0x100, 1, 0x0, 0, 0, 0, 0, 0, 0, 0xffffffff, 0x0, 0⟩,
  ⟨0x140158, 4, 0x100, 1, 0x0, 0, 0, 0, 0, 0, 0, 0xffffffff, 0x0, 0⟩,
  ⟨0x14015c, 4, 0x100, 1, 0x0, 0, 0, 0, 0, 0, 0, 0xffffffff, 0x0, 0⟩,
  ⟨0x140160, 4, 0x100, 1, 0x0, 0, 0, 0, 0, 0, 0, 0xffffffff, 0x0, 0⟩,
  ⟨0x140164, 4, 0x100, 1, 0x0, 0, 0, 0, 0, 0, 0, 0xffffffff, 0x0, 0⟩,
  ⟨0x140168, 4, 0x100, 1, 0x0, 0, 0, 0, 0, 0, 0, 0xffffffff, 0x0, 0⟩]

/-- Registers of R136: VERDICT_CNT, EVT_LOST, START_IGN, EMPTY_WIN, TIC_TIMEOUT, LAST_START, LAST_STOP, LAST_RESULT, LAST_VERDICT. -/
def regRows16 : List RegRow := [
  ⟨0x14016c, 4, 0x100, 1, 0x0, 0, 0, 0, 0, 0, 0, 0xffffffff, 0x0, 0⟩,
  ⟨0x140170, 4, 0x100, 1, 0x0, 0, 0, 0, 0, 0xffffffff, 0, 0, 0x0, 0⟩,
  ⟨0x140174, 4, 0x100, 1, 0x0, 0, 0, 0, 0, 0xffffffff, 0, 0, 0x0, 0⟩,
  ⟨0x140178, 4, 0x100, 1, 0x0, 0, 0, 0, 0, 0xffffffff, 0, 0, 0x0, 0⟩,
  ⟨0x14017c, 4, 0x100, 1, 0x0, 0xffffffff, 0, 0, 0, 0, 0, 0, 0xc, 0⟩,
  ⟨0x140180, 4, 0x100, 1, 0x0, 0, 0, 0, 0, 0, 0, 0xffffffff, 0x0, 0⟩,
  ⟨0x140184, 4, 0x100, 1, 0x0, 0, 0, 0, 0, 0, 0, 0xffffffff, 0x0, 0⟩,
  ⟨0x140188, 4, 0x100, 1, 0x0, 0, 0, 0, 0, 0, 0, 0xffffffff, 0x0, 0⟩,
  ⟨0x14018c, 4, 0x100, 1, 0x0, 0, 0, 0, 0, 0, 0, 0xffffffff, 0x0, 0⟩,
  ⟨0x140190, 4, 0x100, 1, 0x0, 0, 0, 0, 0, 0, 0, 0xffffffff, 0x0, 0⟩,
  ⟨0x140194, 4, 0x100, 1, 0x0, 0, 0, 0, 0, 0, 0, 0xffffffff, 0x0, 0⟩,
  ⟨0x140198, 4, 0x100, 1, 0x0, 0, 0, 0, 0, 0, 0, 0xffffffff, 0x0, 1⟩,
  ⟨0x14019c, 4, 0x100, 1, 0x0, 0, 0, 0, 0, 0, 0, 0xffffffff, 0x0, 2⟩,
  ⟨0x1401a0, 4, 0x100, 1, 0x0, 0, 0, 0, 0, 0, 0, 0x3, 0x0, 0⟩]

/-- Registers of R88: ETX_UNKNOWN, ETX_CRC_ERR, ETX_HOP_LIMIT, TX_PIPE, PORT_TSTAT, ASYM, HOP_UNC, LAST_OFFSET, LAST_DELAY, EXCH_OK, EXCH_FAIL, CAL_TICKET. -/
def regRows17 : List RegRow := [
  ⟨0x150004, 1, 0x0, 1, 0x0, 0, 0, 0, 0, 0xffffffff, 0, 0, 0x0, 0⟩,
  ⟨0x150008, 1, 0x0, 1, 0x0, 0, 0, 0, 0, 0xffffffff, 0, 0, 0x0, 0⟩,
  ⟨0x15000c, 1, 0x0, 1, 0x0, 0, 0, 0, 0, 0xffffffff, 0, 0, 0x0, 0⟩,
  ⟨0x150100, 1, 0x0, 1, 0x0, 0, 0, 0, 0, 0, 0, 0xffffffff, 0x29374c, 0⟩,
  ⟨0x150104, 1, 0x0, 1, 0x0, 0, 0, 0, 0, 0, 0, 0xffffffff, 0x3af1aa, 0⟩,
  ⟨0x150108, 1, 0x0, 1, 0x0, 0, 0, 0, 0, 0, 0, 0xffffffff, 0x266666, 0⟩,
  ⟨0x15010c, 1, 0x0, 1, 0x0, 0, 0, 0, 0, 0, 0, 0xffffffff, 0x372b02, 0⟩,
  ⟨0x150110, 1, 0x0, 1, 0x0, 0, 0, 0, 0, 0, 0, 0xffffffff, 0x24fdf4, 0⟩,
  ⟨0x150114, 1, 0x0, 1, 0x0, 0, 0, 0, 0, 0, 0, 0xffffffff, 0x345a1d, 0⟩,
  ⟨0x150118, 1, 0x0, 1, 0x0, 0, 0, 0, 0, 0, 0, 0xffffffff, 0x239581, 0⟩,
  ⟨0x15011c, 1, 0x0, 1, 0x0, 0, 0, 0, 0, 0, 0, 0xffffffff, 0x318937, 0⟩,
  ⟨0x150120, 1, 0x0, 1, 0x0, 0, 0, 0, 0, 0, 0, 0xffffffff, 0x27ced9, 0⟩,
  ⟨0x150124, 1, 0x0, 1, 0x0, 0, 0, 0, 0, 0, 0, 0xffffffff, 0x39999a, 0⟩,
  ⟨0x151000, 513, 0x20, 1, 0x0, 0, 0, 0, 0x180, 0, 0x80000000, 0x7f, 0x0, 0⟩,
  ⟨0x151004, 513, 0x20, 1, 0x0, 0xffffffff, 0, 0, 0, 0, 0, 0, 0x0, 0⟩,
  ⟨0x151008, 513, 0x20, 1, 0x0, 0, 0, 0, 0, 0, 0, 0xffffffff, 0x0, 0⟩,
  ⟨0x15100c, 513, 0x20, 1, 0x0, 0, 0, 0, 0, 0, 0, 0xffffffff, 0x0, 0⟩,
  ⟨0x151010, 513, 0x20, 1, 0x0, 0, 0, 0, 0, 0, 0, 0xffffffff, 0x0, 0⟩,
  ⟨0x151014, 513, 0x20, 1, 0x0, 0, 0, 0, 0, 0xffffffff, 0, 0, 0x0, 0⟩,
  ⟨0x151018, 513, 0x20, 1, 0x0, 0, 0, 0, 0, 0xffffffff, 0, 0, 0x0, 0⟩,
  ⟨0x15101c, 513, 0x20, 1, 0x0, 0, 0, 0, 0, 0, 0, 0xffff83ff, 0x8000, 0⟩]

/-- Registers of R89: PTP_TXQ_STAT, TXQ_OVF, TXQ_STALE, PTP_TXQ_FIND, PTP_TXQ_ENTRY, EDGE_TX_PIPE, EDGE_RX_PIPE, EDGE_ASYM. -/
def regRows18 : List RegRow := [
  ⟨0x160000, 2, 0x100, 1, 0x0, 0, 0, 0, 0, 0, 0, 0x1f, 0x0, 0⟩,
  ⟨0x160004, 2, 0x100, 1, 0x0, 0, 0, 0, 0, 0xffffffff, 0, 0, 0x0, 0⟩,
  ⟨0x160008, 2, 0x100, 1, 0x0, 0, 0, 0, 0, 0xffffffff, 0, 0, 0x0, 0⟩,
  ⟨0x16000c, 2, 0x100, 1, 0x0, 0, 0, 0, 0, 0, 0xff, 0, 0x0, 0⟩,
  ⟨0x160010, 2, 0x100, 1, 0x0, 0, 0, 0, 0, 0, 0, 0x8fffffff, 0x0, 0⟩,
  ⟨0x160014, 2, 0x100, 1, 0x0, 0, 0, 0, 0, 0, 0, 0xffffffff, 0x0, 0⟩,
  ⟨0x160018, 2, 0x100, 1, 0x0, 0, 0, 0, 0, 0, 0, 0xffffffff, 0x0, 0⟩,
  ⟨0x16001c, 2, 0x100, 1, 0x0, 0, 0, 0, 0, 0, 0, 0xffffffff, 0x0, 0⟩,
  ⟨0x160020, 2, 0x100, 1, 0x0, 0, 0, 0, 0, 0, 0, 0xffffffff, 0x0, 0⟩,
  ⟨0x160024, 2, 0x100, 1, 0x0, 0, 0, 0, 0, 0, 0, 0xffffffff, 0x0, 0⟩,
  ⟨0x160028, 2, 0x100, 1, 0x0, 0xffffffff, 0, 0, 0, 0, 0, 0, 0x0, 0⟩]

/-- Registers of R194: MUSTER_IRQ_SUM, STRAG_ADDR, STRAG_MAX, STRAG_REQ, STRAG_TICKET, AGG_PERIOD, GRP_CFG, GRP_STAT, STEP, LAUNCH_LEAD, BCAST_MIN, MUSTER_TIMEOUT, EXPECTED, ARRIVED_A, ARRIVED_B, EARLIEST, LATEST, MUSTER_CMD, LAST_T, CUT, DEG_CONTRIB, DEGRADE_CNT. -/
def regRows19 : List RegRow := [
  ⟨0x200000, 1, 0x0, 1, 0x0, 0, 0, 0, 0, 0, 0, 0xffffffff, 0x0, 1⟩,
  ⟨0x200004, 1, 0x0, 1, 0x0, 0, 0, 0, 0, 0, 0, 0xffffffff, 0x0, 2⟩,
  ⟨0x200010, 1, 0x0, 1, 0x0, 0xffffffff, 0, 0, 0, 0, 0, 0, 0x0, 1⟩,
  ⟨0x200014, 1, 0x0, 1, 0x0, 0xffffffff, 0, 0, 0, 0, 0, 0, 0x0, 2⟩,
  ⟨0x200018, 1, 0x0, 1, 0x0, 0xffffffff, 0, 0, 0, 0, 0, 0, 0x1000, 0⟩,
  ⟨0x20001c, 1, 0x0, 1, 0x0, 0, 0, 0, 0, 0, 0x8000003f, 0, 0x0, 0⟩,
  ⟨0x200020, 1, 0x0, 1, 0x0, 0, 0, 0, 0, 0, 0, 0xffff83ff, 0x8000, 0⟩,
  ⟨0x200024, 1, 0x0, 1, 0x0, 0xffffffff, 0, 0, 0, 0, 0, 0, 0x64, 0⟩,
  ⟨0x201000, 64, 0x80, 1, 0x0, 0x300, 0, 0x10000, 0, 0, 0, 0x3, 0x0, 0⟩,
  ⟨0x201004, 64, 0x80, 1, 0x0, 0, 0, 0, 0x1ff00, 0, 0, 0xf, 0x0, 0⟩,
  ⟨0x201008, 64, 0x80, 1, 0x0, 0, 0, 0, 0, 0, 0, 0xffffffff, 0x0, 1⟩,
  ⟨0x20100c, 64, 0x80, 1, 0x0, 0, 0, 0, 0, 0, 0, 0xffffffff, 0x0, 2⟩,
  ⟨0x201010, 64, 0x80, 1, 0x0, 0xffffffff, 0, 0, 0, 0, 0, 0, 0x5dc0, 0⟩,
  ⟨0x201014, 64, 0x80, 1, 0x0, 0xffffffff, 0, 0, 0, 0, 0, 0, 0x2ee0, 0⟩,
  ⟨0x201018, 64, 0x80, 1, 0x0, 0xffffffff, 0, 0, 0, 0, 0, 0, 0x1388, 0⟩,
  ⟨0x20101c, 64, 0x80, 1, 0x0, 0, 0, 0, 0, 0, 0, 0xffffffff, 0x0, 0⟩,
  ⟨0x201020, 64, 0x80, 1, 0x0, 0, 0, 0, 0, 0, 0, 0xffffffff, 0x0, 0⟩,
  ⟨0x201024, 64, 0x80, 1, 0x0, 0, 0, 0, 0, 0, 0, 0xffffffff, 0x0, 0⟩,
  ⟨0x201028, 64, 0x80, 1, 0x0, 0, 0, 0, 0, 0, 0, 0xffffffff, 0x0, 1⟩,
  ⟨0x20102c, 64, 0x80, 1, 0x0, 0, 0, 0, 0, 0, 0, 0xffffffff, 0x0, 2⟩,
  ⟨0x201030, 64, 0x80, 1, 0x0, 0, 0, 0, 0, 0, 0, 0xffffffff, 0x0, 0⟩,
  ⟨0x201034, 64, 0x80, 1, 0x0, 0, 0, 0, 0, 0, 0, 0xffffffff, 0x0, 0⟩,
  ⟨0x201038, 64, 0x80, 1, 0x0, 0, 0, 0, 0, 0, 0, 0xffffffff, 0x0, 0⟩,
  ⟨0x20103c, 64, 0x80, 1, 0x0, 0, 0, 0, 0, 0, 0x80000000, 0, 0x0, 0⟩,
  ⟨0x201040, 64, 0x80, 1, 0x0, 0, 0, 0, 0, 0, 0, 0xffffffff, 0x0, 1⟩,
  ⟨0x201044, 64, 0x80, 1, 0x0, 0, 0, 0, 0, 0, 0, 0xffffffff, 0x0, 2⟩,
  ⟨0x201048, 64, 0x80, 1, 0x0, 0, 0, 0, 0, 0, 0, 0xffffffff, 0x0, 1⟩,
  ⟨0x20104c, 64, 0x80, 1, 0x0, 0, 0, 0, 0, 0, 0, 0xffffffff, 0x0, 2⟩,
  ⟨0x201050, 64, 0x80, 1, 0x0, 0, 0, 0, 0, 0, 0, 0xffffffff, 0x0, 0⟩,
  ⟨0x201054, 64, 0x80, 1, 0x0, 0, 0, 0, 0, 0xffffffff, 0, 0, 0x0, 0⟩]

/-- Registers of R194: STALE_ARR, AHEAD_ARR, LATE_ARR, EXCL_DROP, LATE_END, SUBST_CNT, FOREIGN_ARR. -/
def regRows20 : List RegRow := [
  ⟨0x201058, 64, 0x80, 1, 0x0, 0, 0, 0, 0, 0xffffffff, 0, 0, 0x0, 0⟩,
  ⟨0x20105c, 64, 0x80, 1, 0x0, 0, 0, 0, 0, 0xffffffff, 0, 0, 0x0, 0⟩,
  ⟨0x201060, 64, 0x80, 1, 0x0, 0, 0, 0, 0, 0xffffffff, 0, 0, 0x0, 0⟩,
  ⟨0x201064, 64, 0x80, 1, 0x0, 0, 0, 0, 0, 0xffffffff, 0, 0, 0x0, 0⟩,
  ⟨0x201068, 64, 0x80, 1, 0x0, 0, 0, 0, 0, 0xffffffff, 0, 0, 0x0, 0⟩,
  ⟨0x20106c, 64, 0x80, 1, 0x0, 0, 0, 0, 0, 0xffffffff, 0, 0, 0x0, 0⟩,
  ⟨0x201070, 64, 0x80, 1, 0x0, 0, 0, 0, 0, 0xffffffff, 0, 0, 0x0, 0⟩]

/-- Registers of R212: SCH_STAT, NDET_SLOT, STRETCH_COUNT, BUBBLE_COUNT, CREDIT_STALL, DIE_FSTEP, SEQ_CFG, SEQ_STAT, SEQ_STEP, SEQ_T, SLOT_IDX, SLOT_COUNT, SLOT_SHIFT, LAST_SHIFT, SLOT_LATE, GUARD_CNT, LATE_DROP, MIN_SLACK, CYC_LAST, STRETCH_SLOT. -/
def regRows21 : List RegRow := [
  ⟨0x210000, 1, 0x0, 1, 0x0, 0, 0, 0, 0x300, 0, 0, 0xff, 0x0, 0⟩,
  ⟨0x210004, 1, 0x0, 1, 0x0, 0, 0, 0, 0, 0xffffffff, 0, 0, 0x0, 0⟩,
  ⟨0x210010, 6, 0x10, 1, 0x0, 0, 0, 0, 0, 0xffffffff, 0, 0, 0x0, 0⟩,
  ⟨0x210014, 6, 0x10, 1, 0x0, 0, 0, 0, 0, 0xffffffff, 0, 0, 0x0, 0⟩,
  ⟨0x210018, 6, 0x10, 1, 0x0, 0, 0, 0, 0, 0xffffffff, 0, 0, 0x0, 0⟩,
  ⟨0x21001c, 6, 0x10, 1, 0x0, 0, 0, 0, 0, 0, 0, 0x7, 0x0, 0⟩,
  ⟨0x211000, 8, 0x80, 1, 0x0, 0xff0000, 0, 0x8000003f, 0, 0, 0, 0x700, 0x0, 0⟩,
  ⟨0x211004, 8, 0x80, 1, 0x0, 0, 0, 0, 0x1f0, 0, 0, 0xe03, 0x0, 0⟩,
  ⟨0x211008, 8, 0x80, 1, 0x0, 0, 0, 0, 0, 0, 0, 0xffffffff, 0x0, 1⟩,
  ⟨0x21100c, 8, 0x80, 1, 0x0, 0, 0, 0, 0, 0, 0, 0xffffffff, 0x0, 2⟩,
  ⟨0x211010, 8, 0x80, 1, 0x0, 0, 0, 0, 0, 0, 0, 0xffffffff, 0x0, 1⟩,
  ⟨0x211014, 8, 0x80, 1, 0x0, 0, 0, 0, 0, 0, 0, 0xffffffff, 0x0, 2⟩,
  ⟨0x211018, 8, 0x80, 1, 0x0, 0, 0, 0, 0, 0, 0, 0xffff, 0x0, 0⟩,
  ⟨0x21101c, 8, 0x80, 1, 0x0, 0, 0, 0, 0, 0, 0, 0x1ffff, 0x0, 0⟩,
  ⟨0x211020, 8, 0x80, 1, 0x0, 0, 0, 0, 0, 0, 0, 0xffffffff, 0x0, 0⟩,
  ⟨0x211024, 8, 0x80, 1, 0x0, 0, 0, 0, 0, 0, 0, 0xffffffff, 0x0, 0⟩,
  ⟨0x211028, 8, 0x80, 1, 0x0, 0, 0, 0, 0, 0xffffffff, 0, 0, 0x0, 0⟩,
  ⟨0x21102c, 8, 0x80, 1, 0x0, 0, 0, 0, 0, 0xffffffff, 0, 0, 0x0, 0⟩,
  ⟨0x211030, 8, 0x80, 1, 0x0, 0, 0, 0, 0, 0xffffffff, 0, 0, 0x0, 0⟩,
  ⟨0x211034, 8, 0x80, 1, 0x0, 0, 0, 0, 0, 0, 0, 0xffffffff, 0x0, 0⟩,
  ⟨0x211038, 8, 0x80, 1, 0x0, 0, 0, 0, 0, 0, 0, 0xffffffff, 0x0, 0⟩,
  ⟨0x21103c, 8, 0x80, 1, 0x0, 0, 0, 0, 0, 0xffffffff, 0, 0, 0x0, 0⟩]

/-- Registers of R351: ALM_STAT, ALM_CTRL, ALM_SRC, ALM_LEN, ALM_REQ, ALM_TICKET, ALM_SHAPE_IN, ALM_COMMIT, COMMIT_STAT, COMMIT_AT, COMMIT_TICKET, STAGE_SERIAL, STAGE_INFO, FENCE_DROP, ALM_KEY_PROG, ALM_REVOKE, ALM_KEYS, ALM_KEY_HASH. -/
def regRows22 : List RegRow := [
  ⟨0x300000, 1, 0x0, 1, 0x0, 0, 0, 0, 0x10c, 0, 0, 0xf3, 0x0, 0⟩,
  ⟨0x300004, 1, 0x0, 1, 0x0, 0x1, 0, 0, 0, 0, 0, 0, 0x0, 0⟩,
  ⟨0x300008, 1, 0x0, 1, 0x0, 0xffffffff, 0, 0, 0, 0, 0, 0, 0x0, 1⟩,
  ⟨0x30000c, 1, 0x0, 1, 0x0, 0xffffffff, 0, 0, 0, 0, 0, 0, 0x0, 2⟩,
  ⟨0x300010, 1, 0x0, 1, 0x0, 0xffffffff, 0, 0, 0, 0, 0, 0, 0x0, 0⟩,
  ⟨0x300014, 1, 0x0, 1, 0x0, 0, 0, 0, 0, 0, 0x8f07003f, 0, 0x0, 0⟩,
  ⟨0x300018, 1, 0x0, 1, 0x0, 0, 0, 0, 0, 0, 0, 0xffff83ff, 0x8000, 0⟩,
  ⟨0x300020, 1, 0x0, 1, 0x0, 0xffffffff, 0, 0, 0, 0, 0, 0, 0x0, 0⟩,
  ⟨0x300024, 1, 0x0, 1, 0x0, 0xffffffff, 0, 0, 0, 0, 0, 0, 0x0, 0⟩,
  ⟨0x300028, 1, 0x0, 1, 0x0, 0xffffffff, 0, 0, 0, 0, 0, 0, 0x0, 0⟩,
  ⟨0x30002c, 1, 0x0, 1, 0x0, 0xffffffff, 0, 0, 0, 0, 0, 0, 0x0, 0⟩,
  ⟨0x300030, 1, 0x0, 1, 0x0, 0xffffffff, 0, 0, 0, 0, 0, 0, 0x0, 0⟩,
  ⟨0x300034, 1, 0x0, 1, 0x0, 0xffffffff, 0, 0, 0, 0, 0, 0, 0x0, 0⟩,
  ⟨0x300038, 1, 0x0, 1, 0x0, 0xffffffff, 0, 0, 0, 0, 0, 0, 0x0, 0⟩,
  ⟨0x30003c, 1, 0x0, 1, 0x0, 0xffffffff, 0, 0, 0, 0, 0, 0, 0x0, 0⟩,
  ⟨0x300040, 1, 0x0, 1, 0x0, 0, 0, 0, 0, 0, 0xc0003f7f, 0, 0x0, 0⟩,
  ⟨0x300044, 1, 0x0, 1, 0x0, 0, 0, 0, 0, 0, 0, 0xffff0f03, 0x0, 0⟩,
  ⟨0x300048, 1, 0x0, 1, 0x0, 0xffffffff, 0, 0, 0, 0, 0, 0, 0x0, 1⟩,
  ⟨0x30004c, 1, 0x0, 1, 0x0, 0xffffffff, 0, 0, 0, 0, 0, 0, 0x0, 2⟩,
  ⟨0x300050, 1, 0x0, 1, 0x0, 0, 0, 0, 0, 0, 0, 0xffff83ff, 0x8000, 0⟩,
  ⟨0x300058, 1, 0x0, 1, 0x0, 0, 0, 0, 0, 0, 0, 0xffffffff, 0x0, 1⟩,
  ⟨0x30005c, 1, 0x0, 1, 0x0, 0, 0, 0, 0, 0, 0, 0xffffffff, 0x0, 2⟩,
  ⟨0x300060, 1, 0x0, 1, 0x0, 0, 0, 0, 0, 0, 0, 0xffff, 0x0, 0⟩,
  ⟨0x300064, 1, 0x0, 1, 0x0, 0, 0, 0, 0, 0xffffffff, 0, 0, 0x0, 0⟩,
  ⟨0x300800, 1, 0x0, 1, 0x0, 0, 0, 0, 0, 0, 0x80000003, 0, 0x0, 0⟩,
  ⟨0x300804, 1, 0x0, 1, 0x0, 0, 0, 0, 0, 0, 0x80000003, 0, 0x0, 0⟩,
  ⟨0x300808, 1, 0x0, 1, 0x0, 0, 0, 0, 0, 0, 0, 0xff, 0x0, 0⟩,
  ⟨0x300840, 1, 0x0, 1, 0x0, 0xffffffff, 0, 0, 0, 0, 0, 0, 0x0, 0⟩,
  ⟨0x300844, 1, 0x0, 1, 0x0, 0xffffffff, 0, 0, 0, 0, 0, 0, 0x0, 0⟩,
  ⟨0x300848, 1, 0x0, 1, 0x0, 0xffffffff, 0, 0, 0, 0, 0, 0, 0x0, 0⟩]

/-- Registers of R351: ALM_KEY_HASH, PART_SERIAL, PART_SERIAL_HI, PART_INFO, PART_SHAPE, PART_SHAPE1, CACHE_REC. -/
def regRows23 : List RegRow := [
  ⟨0x30084c, 1, 0x0, 1, 0x0, 0xffffffff, 0, 0, 0, 0, 0, 0, 0x0, 0⟩,
  ⟨0x300850, 1, 0x0, 1, 0x0, 0xffffffff, 0, 0, 0, 0, 0, 0, 0x0, 0⟩,
  ⟨0x300854, 1, 0x0, 1, 0x0, 0xffffffff, 0, 0, 0, 0, 0, 0, 0x0, 0⟩,
  ⟨0x300858, 1, 0x0, 1, 0x0, 0xffffffff, 0, 0, 0, 0, 0, 0, 0x0, 0⟩,
  ⟨0x30085c, 1, 0x0, 1, 0x0, 0xffffffff, 0, 0, 0, 0, 0, 0, 0x0, 0⟩,
  ⟨0x300860, 1, 0x0, 1, 0x0, 0xffffffff, 0, 0, 0, 0, 0, 0, 0x0, 0⟩,
  ⟨0x300864, 1, 0x0, 1, 0x0, 0xffffffff, 0, 0, 0, 0, 0, 0, 0x0, 0⟩,
  ⟨0x300868, 1, 0x0, 1, 0x0, 0xffffffff, 0, 0, 0, 0, 0, 0, 0x0, 0⟩,
  ⟨0x30086c, 1, 0x0, 1, 0x0, 0xffffffff, 0, 0, 0, 0, 0, 0, 0x0, 0⟩,
  ⟨0x301000, 64, 0x20, 1, 0x0, 0, 0, 0, 0, 0, 0, 0xffffffff, 0x0, 1⟩,
  ⟨0x301004, 64, 0x20, 1, 0x0, 0, 0, 0, 0, 0, 0, 0xffffffff, 0x0, 2⟩,
  ⟨0x301008, 64, 0x20, 1, 0x0, 0, 0, 0, 0, 0, 0, 0xffffffff, 0x0, 0⟩,
  ⟨0x301010, 64, 0x20, 1, 0x0, 0, 0, 0, 0, 0, 0, 0xffffffff, 0x0, 0⟩,
  ⟨0x301014, 64, 0x20, 1, 0x0, 0, 0, 0, 0, 0, 0, 0xffffffff, 0x0, 0⟩,
  ⟨0x302000, 4, 0x40, 1, 0x0, 0, 0, 0, 0, 0, 0, 0xffffffff, 0x0, 0⟩,
  ⟨0x302004, 4, 0x40, 1, 0x0, 0, 0, 0, 0, 0, 0, 0xffffffff, 0x0, 0⟩,
  ⟨0x302008, 4, 0x40, 1, 0x0, 0, 0, 0, 0, 0, 0, 0xffffffff, 0x0, 0⟩,
  ⟨0x30200c, 4, 0x40, 1, 0x0, 0, 0, 0, 0, 0, 0, 0xffffffff, 0x0, 0⟩,
  ⟨0x302010, 4, 0x40, 1, 0x0, 0, 0, 0, 0, 0, 0, 0xffffffff, 0x0, 0⟩,
  ⟨0x302014, 4, 0x40, 1, 0x0, 0, 0, 0, 0, 0, 0, 0xffffffff, 0x0, 0⟩,
  ⟨0x302018, 4, 0x40, 1, 0x0, 0, 0, 0, 0, 0, 0, 0xffffffff, 0x0, 0⟩,
  ⟨0x30201c, 4, 0x40, 1, 0x0, 0, 0, 0, 0, 0, 0, 0xffffffff, 0x0, 0⟩,
  ⟨0x302020, 4, 0x40, 1, 0x0, 0, 0, 0, 0, 0, 0, 0xffffffff, 0x0, 1⟩,
  ⟨0x302024, 4, 0x40, 1, 0x0, 0, 0, 0, 0, 0, 0, 0xffffffff, 0x0, 2⟩,
  ⟨0x302028, 4, 0x40, 1, 0x0, 0, 0, 0, 0, 0, 0, 0xffffffff, 0x0, 0⟩,
  ⟨0x30202c, 4, 0x40, 1, 0x0, 0, 0, 0, 0, 0, 0, 0xffffffff, 0x0, 0⟩,
  ⟨0x302030, 4, 0x40, 1, 0x0, 0, 0, 0, 0, 0, 0, 0xffffffff, 0x0, 1⟩,
  ⟨0x302034, 4, 0x40, 1, 0x0, 0, 0, 0, 0, 0, 0, 0xffffffff, 0x0, 2⟩]

/-- Registers of R435: CLK_STAT, STARTUP, RST_CMD, RST_STAT, PWR_CAP, PKG_POWER, PKG_POWER_PEAK, CLK_IRQ_EN, DIE_CLK_STAT, VCORE_MV, VCORE_MIN, TJ, TJ_MAX, DIE_POWER, LOR_CNT, FSTEP_CHG, PKG_RST, SSC_CTRL. -/
def regRows24 : List RegRow := [
  ⟨0x400000, 1, 0x0, 1, 0x0, 0, 0, 0, 0x6, 0, 0, 0x38, 0x0, 0⟩,
  ⟨0x400004, 1, 0x0, 1, 0x0, 0, 0, 0, 0, 0, 0, 0xff00000f, 0x0, 0⟩,
  ⟨0x400008, 1, 0x0, 1, 0x0, 0, 0, 0, 0, 0, 0xc0ff803f, 0, 0x0, 0⟩,
  ⟨0x40000c, 1, 0x0, 1, 0x0, 0, 0, 0, 0x2, 0, 0, 0xff1d, 0x0, 0⟩,
  ⟨0x400010, 1, 0x0, 1, 0x0, 0, 0x7, 0, 0, 0, 0, 0, 0x7, 0⟩,
  ⟨0x400014, 1, 0x0, 1, 0x0, 0, 0, 0, 0, 0, 0, 0xffffffff, 0x0, 0⟩,
  ⟨0x400018, 1, 0x0, 1, 0x0, 0, 0, 0, 0, 0xffffffff, 0, 0, 0x0, 0⟩,
  ⟨0x40001c, 1, 0x0, 1, 0x0, 0x3e, 0, 0, 0, 0, 0, 0, 0x0, 0⟩,
  ⟨0x400200, 8, 0x20, 1, 0x0, 0, 0, 0, 0xe000, 0, 0, 0x1ff7, 0x0, 0⟩,
  ⟨0x400204, 8, 0x20, 1, 0x0, 0, 0, 0, 0, 0, 0, 0xffffffff, 0x0, 0⟩,
  ⟨0x400208, 8, 0x20, 1, 0x0, 0, 0, 0, 0, 0xffffffff, 0, 0, 0x0, 0⟩,
  ⟨0x40020c, 8, 0x20, 1, 0x0, 0, 0, 0, 0, 0, 0, 0xffffffff, 0x0, 0⟩,
  ⟨0x400210, 8, 0x20, 1, 0x0, 0, 0, 0, 0, 0xffffffff, 0, 0, 0x0, 0⟩,
  ⟨0x400214, 8, 0x20, 1, 0x0, 0, 0, 0, 0, 0, 0, 0xffffffff, 0x0, 0⟩,
  ⟨0x400218, 8, 0x20, 1, 0x0, 0, 0, 0, 0, 0xffffffff, 0, 0, 0x0, 0⟩,
  ⟨0x40021c, 8, 0x20, 1, 0x0, 0, 0, 0, 0, 0xffffffff, 0, 0, 0x0, 0⟩,
  ⟨0x400800, 1, 0x0, 1, 0x0, 0, 0, 0, 0, 0, 0x80000001, 0, 0x0, 0⟩,
  ⟨0x400804, 1, 0x0, 1, 0x0, 0x1, 0, 0, 0, 0, 0, 0, 0x0, 0⟩]

/-- Registers of R370: RTE_STAT, MISS_DROP, FENCE_DROP, FCS_ERR, CT_STOMP, SPLIT_DROP, SCHED_DROP, ENDPT_DROP, TTL_DROP, SPRAY_DROP, HELLO_PERIOD, HDR_ERR, LEARN_HOLD, LEARN_FILL, LEARN_OVF, LEARN_DUP, LEARN_POP, NEIGH_STAT, NEIGH_NODE, NEIGH_CHIP, NEIGH_INFO, EXPECT, HELLO_RX, NEIGH_SERIAL. -/
def regRows25 : List RegRow := [
  ⟨0x1400000, 4, 0x400000, 1, 0x0, 0, 0, 0, 0x4, 0, 0, 0x3, 0x0, 0⟩,
  ⟨0x1400004, 4, 0x400000, 1, 0x0, 0, 0, 0, 0, 0xffffffff, 0, 0, 0x0, 0⟩,
  ⟨0x1400008, 4, 0x400000, 1, 0x0, 0, 0, 0, 0, 0xffffffff, 0, 0, 0x0, 0⟩,
  ⟨0x140000c, 4, 0x400000, 1, 0x0, 0, 0, 0, 0, 0xffffffff, 0, 0, 0x0, 0⟩,
  ⟨0x1400010, 4, 0x400000, 1, 0x0, 0, 0, 0, 0, 0xffffffff, 0, 0, 0x0, 0⟩,
  ⟨0x1400014, 4, 0x400000, 1, 0x0, 0, 0, 0, 0, 0xffffffff, 0, 0, 0x0, 0⟩,
  ⟨0x1400018, 4, 0x400000, 1, 0x0, 0, 0, 0, 0, 0xffffffff, 0, 0, 0x0, 0⟩,
  ⟨0x140001c, 4, 0x400000, 1, 0x0, 0, 0, 0, 0, 0xffffffff, 0, 0, 0x0, 0⟩,
  ⟨0x1400020, 4, 0x400000, 1, 0x0, 0, 0, 0, 0, 0xffffffff, 0, 0, 0x0, 0⟩,
  ⟨0x1400024, 4, 0x400000, 1, 0x0, 0, 0, 0, 0, 0xffffffff, 0, 0, 0x0, 0⟩,
  ⟨0x1400028, 4, 0x400000, 1, 0x0, 0xffffffff, 0, 0, 0, 0, 0, 0, 0x64, 0⟩,
  ⟨0x140002c, 4, 0x400000, 1, 0x0, 0, 0, 0, 0, 0xffffffff, 0, 0, 0x0, 0⟩,
  ⟨0x1400040, 4, 0x400000, 1, 0x0, 0xffffffff, 0, 0, 0, 0, 0, 0, 0x2710, 0⟩,
  ⟨0x1400044, 4, 0x400000, 1, 0x0, 0, 0, 0, 0, 0, 0, 0x7ff, 0x0, 0⟩,
  ⟨0x1400048, 4, 0x400000, 1, 0x0, 0, 0, 0, 0, 0xffffffff, 0, 0, 0x0, 0⟩,
  ⟨0x140004c, 4, 0x400000, 1, 0x0, 0, 0, 0, 0, 0xffffffff, 0, 0, 0x0, 0⟩,
  ⟨0x1400050, 4, 0x400000, 1, 0x0, 0, 0, 0, 0, 0, 0, 0xb3ff3f07, 0x0, 0⟩,
  ⟨0x1400054, 4, 0x400000, 1, 0x0, 0, 0, 0, 0, 0, 0, 0xffffffff, 0x0, 0⟩,
  ⟨0x1400058, 4, 0x400000, 1, 0x0, 0, 0, 0, 0, 0, 0, 0xffffffff, 0x0, 0⟩,
  ⟨0x140005c, 4, 0x400000, 1, 0x0, 0, 0, 0, 0, 0, 0, 0xffffffff, 0x0, 0⟩,
  ⟨0x1401000, 4, 0x400000, 128, 0x20, 0, 0, 0, 0x8, 0, 0, 0x37, 0x0, 0⟩,
  ⟨0x1401004, 4, 0x400000, 128, 0x20, 0, 0, 0, 0, 0, 0, 0xffffffff, 0x0, 0⟩,
  ⟨0x1401008, 4, 0x400000, 128, 0x20, 0, 0, 0, 0, 0, 0, 0xffffffff, 0x0, 1⟩,
  ⟨0x140100c, 4, 0x400000, 128, 0x20, 0, 0, 0, 0, 0, 0, 0xffffffff, 0x0, 2⟩,
  ⟨0x1401010, 4, 0x400000, 128, 0x20, 0, 0, 0, 0, 0, 0, 0x3ffffff, 0x0, 0⟩,
  ⟨0x1401014, 4, 0x400000, 128, 0x20, 0, 0, 0, 0, 0, 0, 0x3fffffff, 0x0, 0⟩,
  ⟨0x1401018, 4, 0x400000, 128, 0x20, 0, 0, 0, 0, 0xffffffff, 0, 0, 0x0, 0⟩,
  ⟨0x140101c, 4, 0x400000, 128, 0x20, 0, 0, 0, 0, 0, 0, 0xffffffff, 0x0, 0⟩]

/-- Registers of R371: TCAM_STAT, TCAM_LOCK, TCAM_UNLOCK, TCAM_ABANDON, TCAM_SRC, TCAM_IDX, TCAM_CNT, TCAM_REQ, TCAM_TICKET, SWAP_ERR, TCAM_RD_IDX, TCAM_RD_DATA, TCAM_USED. -/
def regRows26 : List RegRow := [
  ⟨0x1500000, 4, 0x400000, 1, 0x0, 0, 0, 0, 0xe, 0, 0, 0x1, 0x0, 0⟩,
  ⟨0x1500008, 4, 0x400000, 1, 0x0, 0xffffffff, 0, 0, 0, 0, 0, 0, 0x0, 1⟩,
  ⟨0x150000c, 4, 0x400000, 1, 0x0, 0xffffffff, 0, 0, 0, 0, 0, 0, 0x0, 2⟩,
  ⟨0x1500010, 4, 0x400000, 1, 0x0, 0, 0, 0, 0, 0, 0xffffffff, 0, 0x0, 1⟩,
  ⟨0x1500014, 4, 0x400000, 1, 0x0, 0, 0, 0, 0, 0, 0xffffffff, 0, 0x0, 2⟩,
  ⟨0x1500018, 4, 0x400000, 1, 0x0, 0, 0, 0, 0, 0, 0xffffffff, 0, 0x0, 1⟩,
  ⟨0x150001c, 4, 0x400000, 1, 0x0, 0, 0, 0, 0, 0, 0xffffffff, 0, 0x0, 2⟩,
  ⟨0x1500020, 4, 0x400000, 1, 0x0, 0xffffffff, 0, 0, 0, 0, 0, 0, 0x0, 1⟩,
  ⟨0x1500024, 4, 0x400000, 1, 0x0, 0xffffffff, 0, 0, 0, 0, 0, 0, 0x0, 2⟩,
  ⟨0x1500028, 4, 0x400000, 1, 0x0, 0xffff, 0, 0, 0, 0, 0, 0, 0x0, 0⟩,
  ⟨0x150002c, 4, 0x400000, 1, 0x0, 0x1ffff, 0, 0, 0, 0, 0, 0, 0x1, 0⟩,
  ⟨0x1500030, 4, 0x400000, 1, 0x0, 0, 0, 0, 0, 0, 0x80000000, 0, 0x0, 0⟩,
  ⟨0x1500034, 4, 0x400000, 1, 0x0, 0, 0, 0, 0, 0, 0, 0xffff83ff, 0x8000, 0⟩,
  ⟨0x1500038, 4, 0x400000, 1, 0x0, 0, 0, 0, 0, 0, 0, 0xff3fffff, 0x0, 0⟩,
  ⟨0x1500040, 4, 0x400000, 1, 0x0, 0xffff, 0, 0, 0, 0, 0, 0, 0x0, 0⟩,
  ⟨0x1500044, 4, 0x400000, 1, 0x0, 0, 0, 0, 0, 0, 0, 0xffffffff, 0x0, 0⟩,
  ⟨0x1500048, 4, 0x400000, 1, 0x0, 0, 0, 0, 0, 0, 0, 0xffffffff, 0x0, 0⟩,
  ⟨0x150004c, 4, 0x400000, 1, 0x0, 0, 0, 0, 0, 0, 0, 0xffffffff, 0x0, 0⟩,
  ⟨0x1500050, 4, 0x400000, 1, 0x0, 0, 0, 0, 0, 0, 0, 0xffffffff, 0x0, 0⟩,
  ⟨0x1500054, 4, 0x400000, 1, 0x0, 0, 0, 0, 0, 0, 0, 0xffffffff, 0x0, 0⟩]

/-- Registers of R372: BULK_WEIGHT, SPILL_HOLD, PORT_CFG, SPILL_STAT, QUEUED, BYP_LANES, BYP_STAT, BYP_PEER, SPRAY_MEMB. -/
def regRows27 : List RegRow := [
  ⟨0x1600000, 4, 0x400000, 1, 0x0, 0xffffffff, 0, 0, 0, 0, 0, 0, 0x1010101, 0⟩,
  ⟨0x1600004, 4, 0x400000, 1, 0x0, 0xffffffff, 0, 0, 0, 0, 0, 0, 0x14, 0⟩,
  ⟨0x1601000, 4, 0x400000, 128, 0x10, 0, 0, 0x17c, 0, 0, 0, 0x10000, 0x0, 0⟩,
  ⟨0x1601004, 4, 0x400000, 128, 0x10, 0, 0, 0, 0, 0, 0, 0x78, 0x0, 0⟩,
  ⟨0x1601008, 4, 0x400000, 128, 0x10, 0, 0, 0, 0, 0, 0, 0xffffffff, 0x0, 0⟩,
  ⟨0x1606000, 4, 0x400000, 16, 0x20, 0, 0, 0, 0, 0, 0, 0xffffffff, 0x0, 1⟩,
  ⟨0x1606004, 4, 0x400000, 16, 0x20, 0, 0, 0, 0, 0, 0, 0xffffffff, 0x0, 2⟩,
  ⟨0x1606008, 4, 0x400000, 16, 0x20, 0, 0, 0, 0x200, 0, 0, 0x103, 0x0, 0⟩,
  ⟨0x160600c, 4, 0x400000, 16, 0x20, 0, 0, 0, 0, 0, 0, 0x8000003f, 0x0, 0⟩,
  ⟨0x1608000, 4, 0x400000, 64, 0x20, 0, 0, 0, 0, 0, 0, 0x83ff83ff, 0x0, 0⟩,
  ⟨0x1608004, 4, 0x400000, 64, 0x20, 0, 0, 0, 0, 0, 0, 0x83ff83ff, 0x0, 0⟩,
  ⟨0x1608008, 4, 0x400000, 64, 0x20, 0, 0, 0, 0, 0, 0, 0x83ff83ff, 0x0, 0⟩,
  ⟨0x160800c, 4, 0x400000, 64, 0x20, 0, 0, 0, 0, 0, 0, 0x83ff83ff, 0x0, 0⟩,
  ⟨0x1608010, 4, 0x400000, 64, 0x20, 0, 0, 0, 0, 0, 0, 0x83ff83ff, 0x0, 0⟩,
  ⟨0x1608014, 4, 0x400000, 64, 0x20, 0, 0, 0, 0, 0, 0, 0x83ff83ff, 0x0, 0⟩,
  ⟨0x1608018, 4, 0x400000, 64, 0x20, 0, 0, 0, 0, 0, 0, 0x83ff83ff, 0x0, 0⟩,
  ⟨0x160801c, 4, 0x400000, 64, 0x20, 0, 0, 0, 0, 0, 0, 0x83ff83ff, 0x0, 0⟩]

/-- Registers of R239: SCHED_BYTES, BULK_BYTES, BP_CYC, SPILL_BYTES, LATE_IN, PEAK_PCT, LVL_PORTS. -/
def regRows28 : List RegRow := [
  ⟨0x1604000, 4, 0x400000, 3, 0x40, 0, 0, 0, 0, 0xffffffff, 0, 0, 0x0, 1⟩,
  ⟨0x1604004, 4, 0x400000, 3, 0x40, 0, 0, 0, 0, 0xffffffff, 0, 0, 0x0, 2⟩,
  ⟨0x1604008, 4, 0x400000, 3, 0x40, 0, 0, 0, 0, 0xffffffff, 0, 0, 0x0, 1⟩,
  ⟨0x160400c, 4, 0x400000, 3, 0x40, 0, 0, 0, 0, 0xffffffff, 0, 0, 0x0, 2⟩,
  ⟨0x1604010, 4, 0x400000, 3, 0x40, 0, 0, 0, 0, 0xffffffff, 0, 0, 0x0, 1⟩,
  ⟨0x1604014, 4, 0x400000, 3, 0x40, 0, 0, 0, 0, 0xffffffff, 0, 0, 0x0, 2⟩,
  ⟨0x1604018, 4, 0x400000, 3, 0x40, 0, 0, 0, 0, 0xffffffff, 0, 0, 0x0, 1⟩,
  ⟨0x160401c, 4, 0x400000, 3, 0x40, 0, 0, 0, 0, 0xffffffff, 0, 0, 0x0, 2⟩,
  ⟨0x1604020, 4, 0x400000, 3, 0x40, 0, 0, 0, 0, 0xffffffff, 0, 0, 0x0, 0⟩,
  ⟨0x1604024, 4, 0x400000, 3, 0x40, 0, 0, 0, 0, 0xffffffff, 0, 0, 0x0, 0⟩,
  ⟨0x1604028, 4, 0x400000, 3, 0x40, 0, 0, 0, 0, 0, 0, 0xffffffff, 0x0, 0⟩]

/-- Registers of R238: RED_STAT, HDR_ERR, STRAY_BALE, WS_CFG, WS_STAT, EXP_CONTRIB, CHILDREN, BALE_IN, BALE_OUT, BALE_INV, DUP_BALE, LAND_PEAK, LAND_DEPTH, WS_STEP. -/
def regRows29 : List RegRow := [
  ⟨0x2400000, 2, 0x400000, 1, 0x0, 0, 0, 0, 0, 0, 0, 0x3ff, 0x0, 0⟩,
  ⟨0x2400004, 2, 0x400000, 1, 0x0, 0, 0, 0, 0, 0xffffffff, 0, 0, 0x0, 0⟩,
  ⟨0x2400008, 2, 0x400000, 1, 0x0, 0, 0, 0, 0, 0xffffffff, 0, 0, 0x0, 0⟩,
  ⟨0x2400100, 2, 0x400000, 512, 0x40, 0, 0, 0x30000000, 0, 0, 0, 0x8ff8ffff, 0x0, 0⟩,
  ⟨0x2400104, 2, 0x400000, 512, 0x40, 0, 0, 0, 0x1c, 0, 0, 0x3, 0x0, 0⟩,
  ⟨0x2400108, 2, 0x400000, 512, 0x40, 0, 0, 0, 0, 0, 0, 0xffffffff, 0x0, 0⟩,
  ⟨0x240010c, 2, 0x400000, 512, 0x40, 0, 0, 0, 0, 0, 0, 0x3ff, 0x0, 0⟩,
  ⟨0x2400110, 2, 0x400000, 512, 0x40, 0, 0, 0, 0, 0xffffffff, 0, 0, 0x0, 0⟩,
  ⟨0x2400114, 2, 0x400000, 512, 0x40, 0, 0, 0, 0, 0xffffffff, 0, 0, 0x0, 0⟩,
  ⟨0x2400118, 2, 0x400000, 512, 0x40, 0, 0, 0, 0, 0xffffffff, 0, 0, 0x0, 0⟩,
  ⟨0x240011c, 2, 0x400000, 512, 0x40, 0, 0, 0, 0, 0xffffffff, 0, 0, 0x0, 0⟩,
  ⟨0x2400120, 2, 0x400000, 512, 0x40, 0, 0, 0, 0, 0, 0, 0xff, 0x0, 0⟩,
  ⟨0x2400124, 2, 0x400000, 512, 0x40, 0, 0, 0, 0, 0, 0, 0xff, 0x0, 0⟩,
  ⟨0x2400128, 2, 0x400000, 512, 0x40, 0, 0, 0, 0, 0, 0, 0xffffffff, 0x0, 1⟩,
  ⟨0x240012c, 2, 0x400000, 512, 0x40, 0, 0, 0, 0, 0, 0, 0xffffffff, 0x0, 2⟩]

/-- Registers of R270: QNT_ARITH, QNT_INV_SUM, EF_CLEARED. -/
def regRows30 : List RegRow := [
  ⟨0x2420000, 2, 0x400000, 1, 0x0, 0, 0, 0, 0, 0, 0, 0xffff, 0x0, 0⟩,
  ⟨0x2420004, 2, 0x400000, 1, 0x0, 0, 0, 0, 0, 0xffffffff, 0, 0, 0x0, 0⟩,
  ⟨0x2420008, 2, 0x400000, 1, 0x0, 0, 0, 0, 0, 0xffffffff, 0, 0, 0x0, 0⟩]

/-- Registers of R271: ARITH_CFG, QERR_LIMIT, JOB_SEED, EF_AREA, WS_POS, UNDER_DROP, SAT_ELEM, NF_POISON, NF_SAT, SCALE_CLAMP, SCALE_UNDER, QERR_CNT, CNT_MISMATCH, INV_BALE, ARITH_STAT. -/
def regRows31 : List RegRow := [
  ⟨0x2420100, 2, 0x400000, 512, 0x40, 0, 0, 0x8, 0, 0, 0, 0xf7, 0x0, 0⟩,
  ⟨0x2420104, 2, 0x400000, 512, 0x40, 0, 0, 0xffffffff, 0, 0, 0, 0, 0x3e800000, 0⟩,
  ⟨0x2420108, 2, 0x400000, 512, 0x40, 0, 0, 0, 0, 0, 0, 0xffffffff, 0x0, 1⟩,
  ⟨0x242010c, 2, 0x400000, 512, 0x40, 0, 0, 0, 0, 0, 0, 0xffffffff, 0x0, 2⟩,
  ⟨0x2420110, 2, 0x400000, 512, 0x40, 0, 0, 0, 0, 0, 0, 0xff, 0x0, 0⟩,
  ⟨0x2420114, 2, 0x400000, 512, 0x40, 0, 0, 0, 0, 0, 0, 0x101ff, 0x0, 0⟩,
  ⟨0x2420118, 2, 0x400000, 512, 0x40, 0, 0, 0, 0, 0xffffffff, 0, 0, 0x0, 0⟩,
  ⟨0x242011c, 2, 0x400000, 512, 0x40, 0, 0, 0, 0, 0xffffffff, 0, 0, 0x0, 0⟩,
  ⟨0x2420120, 2, 0x400000, 512, 0x40, 0, 0, 0, 0, 0xffffffff, 0, 0, 0x0, 0⟩,
  ⟨0x2420124, 2, 0x400000, 512, 0x40, 0, 0, 0, 0, 0xffffffff, 0, 0, 0x0, 0⟩,
  ⟨0x2420128, 2, 0x400000, 512, 0x40, 0, 0, 0, 0, 0xffffffff, 0, 0, 0x0, 0⟩,
  ⟨0x242012c, 2, 0x400000, 512, 0x40, 0, 0, 0, 0, 0xffffffff, 0, 0, 0x0, 0⟩,
  ⟨0x2420130, 2, 0x400000, 512, 0x40, 0, 0, 0, 0, 0xffffffff, 0, 0, 0x0, 0⟩,
  ⟨0x2420134, 2, 0x400000, 512, 0x40, 0, 0, 0, 0, 0xffffffff, 0, 0, 0x0, 0⟩,
  ⟨0x2420138, 2, 0x400000, 512, 0x40, 0, 0, 0, 0, 0, 0, 0xffffffff, 0x0, 0⟩,
  ⟨0x242013c, 2, 0x400000, 512, 0x40, 0, 0, 0, 0x1f, 0, 0, 0xff00, 0x0, 0⟩]

/-- Registers of R240: UPD_SKIP, UPD_SKIP_BALE, PSET_CFG, PSET_STAT, LR, BETA1, BETA2, EPS, WD, GSCALE, B1T, B2T, PARAM_COUNT, DONE_BALES, TOTAL_BALES, UPD_STEP, RETURN_OFS, PSET_SEGS, TORN_BALE, UPD_CMD. -/
def regRows32 : List RegRow := [
  ⟨0x2440000, 2, 0x400000, 1, 0x0, 0, 0, 0, 0, 0xffffffff, 0, 0, 0x0, 0⟩,
  ⟨0x2440004, 2, 0x400000, 1, 0x0, 0, 0, 0, 0, 0xffffffff, 0, 0, 0x0, 0⟩,
  ⟨0x2441000, 2, 0x400000, 32, 0x80, 0, 0, 0x800000c0, 0, 0, 0, 0x3fff0333, 0x0, 0⟩,
  ⟨0x2441004, 2, 0x400000, 32, 0x80, 0, 0, 0, 0xe0, 0, 0, 0x703, 0x0, 0⟩,
  ⟨0x2441008, 2, 0x400000, 32, 0x80, 0, 0, 0xffffffff, 0, 0, 0, 0, 0x0, 0⟩,
  ⟨0x244100c, 2, 0x400000, 32, 0x80, 0, 0, 0xffffffff, 0, 0, 0, 0, 0x0, 0⟩,
  ⟨0x2441010, 2, 0x400000, 32, 0x80, 0, 0, 0xffffffff, 0, 0, 0, 0, 0x0, 0⟩,
  ⟨0x2441014, 2, 0x400000, 32, 0x80, 0, 0, 0xffffffff, 0, 0, 0, 0, 0x0, 0⟩,
  ⟨0x2441018, 2, 0x400000, 32, 0x80, 0, 0, 0xffffffff, 0, 0, 0, 0, 0x0, 0⟩,
  ⟨0x244101c, 2, 0x400000, 32, 0x80, 0, 0, 0xffffffff, 0, 0, 0, 0, 0x3f800000, 0⟩,
  ⟨0x2441020, 2, 0x400000, 32, 0x80, 0, 0, 0, 0, 0, 0, 0xffffffff, 0x0, 0⟩,
  ⟨0x2441024, 2, 0x400000, 32, 0x80, 0, 0, 0, 0, 0, 0, 0xffffffff, 0x0, 0⟩,
  ⟨0x2441028, 2, 0x400000, 32, 0x80, 0, 0, 0, 0, 0, 0, 0xffffffff, 0x0, 1⟩,
  ⟨0x244102c, 2, 0x400000, 32, 0x80, 0, 0, 0, 0, 0, 0, 0xffffffff, 0x0, 2⟩,
  ⟨0x2441030, 2, 0x400000, 32, 0x80, 0, 0, 0, 0, 0, 0, 0xffffffff, 0x0, 0⟩,
  ⟨0x2441034, 2, 0x400000, 32, 0x80, 0, 0, 0, 0, 0, 0, 0xffffffff, 0x0, 0⟩,
  ⟨0x2441038, 2, 0x400000, 32, 0x80, 0, 0, 0, 0, 0, 0, 0xffffffff, 0x0, 1⟩,
  ⟨0x244103c, 2, 0x400000, 32, 0x80, 0, 0, 0, 0, 0, 0, 0xffffffff, 0x0, 2⟩,
  ⟨0x2441040, 2, 0x400000, 32, 0x80, 0, 0, 0, 0, 0, 0, 0xffffffff, 0x0, 0⟩,
  ⟨0x2441044, 2, 0x400000, 32, 0x80, 0, 0, 0, 0, 0, 0, 0xffffffff, 0x0, 0⟩,
  ⟨0x2441048, 2, 0x400000, 32, 0x80, 0, 0, 0, 0, 0, 0, 0xffffffff, 0x0, 0⟩,
  ⟨0x244104c, 2, 0x400000, 32, 0x80, 0, 0, 0, 0, 0, 0x80000000, 0, 0x0, 0⟩]

/-- Registers of R334: DIG_CTRL, DIG_LOG_HEAD, DIG_LOG_WRAP, DIG_LOG_SKIP, WS_DIGEST, DIG_STEP, LAST_BALE_DIG, DIG_STAT, reserved. -/
def regRows33 : List RegRow := [
  ⟨0x2460000, 2, 0x400000, 1, 0x0, 0xff03, 0, 0, 0, 0, 0, 0, 0x0, 0⟩,
  ⟨0x2460004, 2, 0x400000, 1, 0x0, 0, 0, 0, 0, 0, 0, 0xffffffff, 0x0, 0⟩,
  ⟨0x2460008, 2, 0x400000, 1, 0x0, 0, 0, 0, 0, 0xffffffff, 0, 0, 0x0, 0⟩,
  ⟨0x246000c, 2, 0x400000, 1, 0x0, 0, 0, 0, 0, 0xffffffff, 0, 0, 0x0, 0⟩,
  ⟨0x2460100, 2, 0x400000, 512, 0x20, 0, 0, 0, 0, 0, 0, 0xffffffff, 0x0, 1⟩,
  ⟨0x2460104, 2, 0x400000, 512, 0x20, 0, 0, 0, 0, 0, 0, 0xffffffff, 0x0, 2⟩,
  ⟨0x2460108, 2, 0x400000, 512, 0x20, 0, 0, 0, 0, 0, 0, 0xffffffff, 0x0, 1⟩,
  ⟨0x246010c, 2, 0x400000, 512, 0x20, 0, 0, 0, 0, 0, 0, 0xffffffff, 0x0, 2⟩,
  ⟨0x2460110, 2, 0x400000, 512, 0x20, 0, 0, 0, 0, 0, 0, 0xffffffff, 0x0, 1⟩,
  ⟨0x2460114, 2, 0x400000, 512, 0x20, 0, 0, 0, 0, 0, 0, 0xffffffff, 0x0, 2⟩,
  ⟨0x2460118, 2, 0x400000, 512, 0x20, 0, 0, 0, 0x20000, 0, 0, 0x301ffff, 0x0, 0⟩,
  ⟨0x246011c, 2, 0x400000, 512, 0x20, 0, 0, 0, 0, 0, 0, 0xffffffff, 0x0, 0⟩]

/-- Registers of R294: BANK_STAT, APER_BANK, SRAM_CE, SRAM_UE, OWN_REFUSED, ACC_REFUSED, LAST_REFUSAL, SPARE_TOTAL, CLEAR_REQ, ENG_MAP[e], BANK_OWNER, BANK_INFO, BANK_UE_LINE, reserved. -/
def regRows34 : List RegRow := [
  ⟨0x2480000, 2, 0x400000, 1, 0x0, 0, 0, 0, 0xe, 0, 0, 0x1, 0x0, 0⟩,
  ⟨0x2480004, 2, 0x400000, 1, 0x0, 0xff, 0, 0, 0, 0, 0, 0, 0x0, 0⟩,
  ⟨0x2480008, 2, 0x400000, 1, 0x0, 0, 0, 0, 0, 0xffffffff, 0, 0, 0x0, 0⟩,
  ⟨0x248000c, 2, 0x400000, 1, 0x0, 0, 0, 0, 0, 0xffffffff, 0, 0, 0x0, 0⟩,
  ⟨0x2480010, 2, 0x400000, 1, 0x0, 0, 0, 0, 0, 0xffffffff, 0, 0, 0x0, 0⟩,
  ⟨0x2480014, 2, 0x400000, 1, 0x0, 0, 0, 0, 0, 0xffffffff, 0, 0, 0x0, 0⟩,
  ⟨0x2480018, 2, 0x400000, 1, 0x0, 0, 0, 0, 0, 0, 0, 0xffff00ff, 0x0, 0⟩,
  ⟨0x248001c, 2, 0x400000, 1, 0x0, 0, 0, 0, 0, 0, 0, 0xffffffff, 0x0, 0⟩,
  ⟨0x2480020, 2, 0x400000, 1, 0x0, 0, 0, 0, 0, 0, 0x800000ff, 0, 0x0, 0⟩,
  ⟨0x2480400, 2, 0x400000, 108, 0x4, 0, 0, 0, 0, 0, 0, 0xff03f03f, 0xff000000, 0⟩,
  ⟨0x2481000, 2, 0x400000, 256, 0x10, 0xff, 0, 0, 0, 0, 0, 0x100, 0xff, 0⟩,
  ⟨0x2481004, 2, 0x400000, 256, 0x10, 0, 0, 0, 0, 0, 0, 0xffff007f, 0x0, 0⟩,
  ⟨0x2481008, 2, 0x400000, 256, 0x10, 0, 0, 0, 0, 0, 0, 0x80001fff, 0x0, 0⟩,
  ⟨0x248100c, 2, 0x400000, 256, 0x10, 0, 0, 0, 0, 0, 0, 0xffffffff, 0x0, 0⟩]

/-- Registers of R295: SEG_STAT, SEG_VIOL_CNT, VIOL_ADDR, VIOL_INFO, STK_STAT, STK_CE, STK_UE, SCRUB_PASS, STK_BASE, STK_SIZE, SEG_BASE, SEG_LIMIT, SEG_CFG, SEG_STATE, SEG_VIOL, reserved. -/
def regRows35 : List RegRow := [
  ⟨0x24a0000, 2, 0x400000, 1, 0x0, 0, 0, 0, 0x6, 0, 0, 0x1, 0x0, 0⟩,
  ⟨0x24a0004, 2, 0x400000, 1, 0x0, 0, 0, 0, 0, 0xffffffff, 0, 0, 0x0, 0⟩,
  ⟨0x24a0008, 2, 0x400000, 1, 0x0, 0, 0, 0, 0, 0xffffffff, 0, 0, 0x0, 1⟩,
  ⟨0x24a000c, 2, 0x400000, 1, 0x0, 0, 0, 0, 0, 0xffffffff, 0, 0, 0x0, 2⟩,
  ⟨0x24a0010, 2, 0x400000, 1, 0x0, 0, 0, 0, 0, 0xe0ffff01, 0, 0, 0x0, 0⟩,
  ⟨0x24a0100, 2, 0x400000, 2, 0x20, 0, 0, 0, 0, 0, 0, 0x7, 0x0, 0⟩,
  ⟨0x24a0104, 2, 0x400000, 2, 0x20, 0, 0, 0, 0, 0xffffffff, 0, 0, 0x0, 0⟩,
  ⟨0x24a0108, 2, 0x400000, 2, 0x20, 0, 0, 0, 0, 0xffffffff, 0, 0, 0x0, 0⟩,
  ⟨0x24a010c, 2, 0x400000, 2, 0x20, 0, 0, 0, 0, 0, 0, 0xffffffff, 0x0, 0⟩,
  ⟨0x24a0110, 2, 0x400000, 2, 0x20, 0, 0, 0, 0, 0, 0, 0xffffffff, 0x0, 1⟩,
  ⟨0x24a0114, 2, 0x400000, 2, 0x20, 0, 0, 0, 0, 0, 0, 0xffffffff, 0x0, 2⟩,
  ⟨0x24a0118, 2, 0x400000, 2, 0x20, 0, 0, 0, 0, 0, 0, 0xffffffff, 0x0, 1⟩,
  ⟨0x24a011c, 2, 0x400000, 2, 0x20, 0, 0, 0, 0, 0, 0, 0xffffffff, 0x0, 2⟩,
  ⟨0x24a1000, 2, 0x400000, 256, 0x20, 0, 0, 0xfffff000, 0, 0, 0, 0, 0x0, 1⟩,
  ⟨0x24a1004, 2, 0x400000, 256, 0x20, 0, 0, 0xff, 0, 0, 0, 0, 0x0, 2⟩,
  ⟨0x24a1008, 2, 0x400000, 256, 0x20, 0, 0, 0xfffff000, 0, 0, 0, 0xfff, 0xfff, 1⟩,
  ⟨0x24a100c, 2, 0x400000, 256, 0x20, 0, 0, 0xff, 0, 0, 0, 0, 0x0, 2⟩,
  ⟨0x24a1010, 2, 0x400000, 256, 0x20, 0, 0, 0x80ff030f, 0, 0, 0, 0, 0xff0000, 0⟩,
  ⟨0x24a1014, 2, 0x400000, 256, 0x20, 0, 0, 0, 0x30, 0, 0, 0xffff000f, 0x0, 0⟩,
  ⟨0x24a1018, 2, 0x400000, 256, 0x20, 0, 0, 0, 0, 0xffffffff, 0, 0, 0x0, 0⟩,
  ⟨0x24a101c, 2, 0x400000, 256, 0x20, 0, 0, 0, 0, 0, 0, 0xffffffff, 0x0, 0⟩]

/-- Registers of R318: TALLY_STAT, TALLY_CMD_VAL, TALLY_CMD, STALE_SIG, TALLY_UNDER, TALLY_OVER, ORPHAN_CNT, XPART_SIG, LAST_ERR, DUMP_ADDR, DUMP_REQ, DUMP_TICKET, WAIT_STAT[e], TALLY_VAL, TALLY_WAIT. -/
def regRows36 : List RegRow := [
  ⟨0x24c0000, 2, 0x400000, 1, 0x0, 0, 0, 0, 0xdf, 0, 0, 0x20, 0x0, 0⟩,
  ⟨0x24c0004, 2, 0x400000, 1, 0x0, 0xffff, 0, 0, 0, 0, 0, 0, 0x0, 0⟩,
  ⟨0x24c0008, 2, 0x400000, 1, 0x0, 0, 0, 0, 0, 0, 0xf000ffff, 0, 0x0, 0⟩,
  ⟨0x24c000c, 2, 0x400000, 1, 0x0, 0, 0, 0, 0, 0xffffffff, 0, 0, 0x0, 0⟩,
  ⟨0x24c0010, 2, 0x400000, 1, 0x0, 0, 0, 0, 0, 0xffffffff, 0, 0, 0x0, 0⟩,
  ⟨0x24c0014, 2, 0x400000, 1, 0x0, 0, 0, 0, 0, 0xffffffff, 0, 0, 0x0, 0⟩,
  ⟨0x24c0018, 2, 0x400000, 1, 0x0, 0, 0, 0, 0, 0xffffffff, 0, 0, 0x0, 0⟩,
  ⟨0x24c001c, 2, 0x400000, 1, 0x0, 0, 0, 0, 0, 0xffffffff, 0, 0, 0x0, 0⟩,
  ⟨0x24c0020, 2, 0x400000, 1, 0x0, 0, 0, 0, 0, 0, 0, 0xffffffff, 0x0, 0⟩,
  ⟨0x24c0028, 2, 0x400000, 1, 0x0, 0xffffffff, 0, 0, 0, 0, 0, 0, 0x0, 1⟩,
  ⟨0x24c002c, 2, 0x400000, 1, 0x0, 0xffffffff, 0, 0, 0, 0, 0, 0, 0x0, 2⟩,
  ⟨0x24c0030, 2, 0x400000, 1, 0x0, 0, 0, 0, 0, 0, 0x800001ff, 0, 0x0, 0⟩,
  ⟨0x24c0034, 2, 0x400000, 1, 0x0, 0, 0, 0, 0, 0, 0, 0xffff83ff, 0x8000, 0⟩,
  ⟨0x24c0400, 2, 0x400000, 108, 0x4, 0, 0, 0, 0, 0, 0, 0xffffc700, 0x0, 0⟩,
  ⟨0x24c1000, 2, 0x400000, 5184, 0x8, 0, 0, 0, 0, 0, 0, 0xffc0ffff, 0x0, 0⟩,
  ⟨0x24c1004, 2, 0x400000, 5184, 0x8, 0, 0, 0, 0, 0, 0, 0xffff7f00, 0xfefe0000, 0⟩]

/-- Registers of R319: GATE_SUM, GATE_NM, GATE_MASK, GATE_ARRIVED, GATE_CFG, GATE_STAT, GATE_OPENS, GATE_CMD. -/
def regRows37 : List RegRow := [
  ⟨0x24d0000, 2, 0x400000, 1, 0x0, 0, 0, 0, 0, 0, 0, 0xffffffff, 0x0, 0⟩,
  ⟨0x24d0004, 2, 0x400000, 1, 0x0, 0, 0, 0, 0, 0xffffffff, 0, 0, 0x0, 0⟩,
  ⟨0x24d0100, 2, 0x400000, 16, 0x40, 0, 0, 0xffffffff, 0, 0, 0, 0, 0x0, 0⟩,
  ⟨0x24d0104, 2, 0x400000, 16, 0x40, 0, 0, 0xffffffff, 0, 0, 0, 0, 0x0, 0⟩,
  ⟨0x24d0108, 2, 0x400000, 16, 0x40, 0, 0, 0xffffffff, 0, 0, 0, 0, 0x0, 0⟩,
  ⟨0x24d010c, 2, 0x400000, 16, 0x40, 0, 0, 0xffffffff, 0, 0, 0, 0, 0x0, 0⟩,
  ⟨0x24d0110, 2, 0x400000, 16, 0x40, 0, 0, 0, 0, 0, 0, 0xffffffff, 0x0, 0⟩,
  ⟨0x24d0114, 2, 0x400000, 16, 0x40, 0, 0, 0, 0, 0, 0, 0xffffffff, 0x0, 0⟩,
  ⟨0x24d0118, 2, 0x400000, 16, 0x40, 0, 0, 0, 0, 0, 0, 0xffffffff, 0x0, 0⟩,
  ⟨0x24d011c, 2, 0x400000, 16, 0x40, 0, 0, 0, 0, 0, 0, 0xffffffff, 0x0, 0⟩,
  ⟨0x24d0120, 2, 0x400000, 16, 0x40, 0, 0, 0x80ff0000, 0, 0, 0, 0, 0xff0000, 0⟩,
  ⟨0x24d0124, 2, 0x400000, 16, 0x40, 0, 0, 0, 0x1c, 0, 0, 0xffff0003, 0x0, 0⟩,
  ⟨0x24d0128, 2, 0x400000, 16, 0x40, 0, 0, 0, 0, 0xffffffff, 0, 0, 0x0, 0⟩,
  ⟨0x24d012c, 2, 0x400000, 16, 0x40, 0, 0, 0, 0, 0, 0x80000000, 0, 0x0, 0⟩]

/-- Registers of R320: DMA_SUM, DMA_CTRL, DMA_STAT, DMA_CHAIN, DMA_CUR, DMA_BYTES, DMA_TICKET, DMA_DESC_DONE, DMA_FAULT_INFO, DMA_CUR_IDX. -/
def regRows38 : List RegRow := [
  ⟨0x24e0000, 2, 0x400000, 1, 0x0, 0, 0, 0, 0, 0, 0, 0xffffffff, 0x0, 0⟩,
  ⟨0x24e0100, 2, 0x400000, 16, 0x40, 0, 0, 0, 0, 0, 0xe0000000, 0, 0x0, 0⟩,
  ⟨0x24e0104, 2, 0x400000, 16, 0x40, 0, 0, 0, 0xc0, 0, 0, 0xff3b, 0x0, 0⟩,
  ⟨0x24e0108, 2, 0x400000, 16, 0x40, 0xffffffff, 0, 0, 0, 0, 0, 0, 0x0, 1⟩,
  ⟨0x24e010c, 2, 0x400000, 16, 0x40, 0xffffffff, 0, 0, 0, 0, 0, 0, 0x0, 2⟩,
  ⟨0x24e0110, 2, 0x400000, 16, 0x40, 0, 0, 0, 0, 0, 0, 0xffffffff, 0x0, 1⟩,
  ⟨0x24e0114, 2, 0x400000, 16, 0x40, 0, 0, 0, 0, 0, 0, 0xffffffff, 0x0, 2⟩,
  ⟨0x24e0118, 2, 0x400000, 16, 0x40, 0, 0, 0, 0, 0, 0, 0xffffffff, 0x0, 0⟩,
  ⟨0x24e011c, 2, 0x400000, 16, 0x40, 0, 0, 0, 0, 0, 0, 0xffff83ff, 0x8000, 0⟩,
  ⟨0x24e0120, 2, 0x400000, 16, 0x40, 0, 0, 0, 0, 0xffffffff, 0, 0, 0x0, 0⟩,
  ⟨0x24e0124, 2, 0x400000, 16, 0x40, 0, 0, 0, 0, 0, 0, 0xff0000ff, 0x0, 0⟩,
  ⟨0x24e0128, 2, 0x400000, 16, 0x40, 0, 0, 0, 0, 0, 0, 0xffffffff, 0x0, 0⟩]

/-- Registers of R162: EV_ID, EV_VERSION, EV_BUILD, EV_CONFIG, EV_NODE, EV_ROOT, EV_TB_LAT. -/
def regRows39 : List RegRow := [
  ⟨0x4000000, 1, 0x0, 1, 0x0, 0, 0, 0, 0, 0, 0, 0xffffffff, 0x45767875, 0⟩,
  ⟨0x4000004, 1, 0x0, 1, 0x0, 0, 0, 0, 0, 0, 0, 0xffffff00, 0x4010400, 0⟩,
  ⟨0x4000008, 1, 0x0, 1, 0x0, 0, 0, 0, 0, 0, 0, 0xffffffff, 0x0, 0⟩,
  ⟨0x400000c, 1, 0x0, 1, 0x0, 0, 0, 0, 0, 0, 0, 0xd7f, 0x0, 0⟩,
  ⟨0x4000010, 1, 0x0, 1, 0x0, 0, 0, 0xfffff, 0, 0, 0, 0, 0x0, 0⟩,
  ⟨0x4000014, 1, 0x0, 1, 0x0, 0, 0, 0xfffff, 0, 0, 0, 0, 0x0, 0⟩,
  ⟨0x4000018, 1, 0x0, 1, 0x0, 0, 0, 0, 0, 0, 0, 0xf, 0x3, 0⟩]

/-- Registers of R163: TIME_NOW, TIME_STATUS, TIME_UNC, POWER_ELAPSED, JUMP_LIMIT, JUMP_CTRL, JUMP_OFFSET, ICAL_SEQ, ICAL_SUM, ICAL_CNT. -/
def regRows40 : List RegRow := [
  ⟨0x4000040, 1, 0x0, 1, 0x0, 0, 0, 0, 0, 0, 0, 0xffff0003, 0x0, 0⟩,
  ⟨0x4000044, 1, 0x0, 1, 0x0, 0, 0, 0, 0, 0, 0, 0x3fffffff, 0x0, 0⟩,
  ⟨0x4000048, 1, 0x0, 1, 0x0, 0, 0, 0, 0, 0, 0, 0xffffffff, 0x0, 0⟩,
  ⟨0x400004c, 1, 0x0, 1, 0x0, 0, 0, 0, 0, 0, 0, 0xffff, 0x0, 0⟩,
  ⟨0x4000050, 1, 0x0, 1, 0x0, 0, 0, 0, 0x1c, 0, 0, 0x1f03, 0x0, 0⟩,
  ⟨0x4000054, 1, 0x0, 1, 0x0, 0, 0, 0, 0, 0, 0, 0xffffffff, 0x0, 0⟩,
  ⟨0x4000058, 1, 0x0, 1, 0x0, 0, 0, 0, 0, 0, 0, 0xffffffff, 0x0, 1⟩,
  ⟨0x400005c, 1, 0x0, 1, 0x0, 0, 0, 0, 0, 0, 0, 0xffffffff, 0x0, 2⟩,
  ⟨0x4000060, 1, 0x0, 1, 0x0, 0xffffffff, 0, 0, 0, 0, 0, 0, 0x3e8, 0⟩,
  ⟨0x4000064, 1, 0x0, 1, 0x0, 0, 0, 0, 0x1, 0, 0x80000000, 0xe, 0x0, 0⟩,
  ⟨0x4000068, 1, 0x0, 1, 0x0, 0, 0, 0, 0, 0, 0, 0xffffffff, 0x0, 1⟩,
  ⟨0x400006c, 1, 0x0, 1, 0x0, 0, 0, 0, 0, 0, 0, 0xffffffff, 0x0, 2⟩,
  ⟨0x4000070, 1, 0x0, 1, 0x0, 0, 0, 0, 0, 0, 0, 0xfffff, 0x0, 0⟩,
  ⟨0x4000074, 1, 0x0, 1, 0x0, 0, 0, 0, 0, 0, 0, 0xffffffff, 0x0, 0⟩,
  ⟨0x4000078, 1, 0x0, 1, 0x0, 0, 0, 0, 0, 0xffffff, 0, 0, 0x0, 0⟩]

/-- Registers of R164: EV_CTRL, EV_IRQ_STAT, EV_IRQ_EN, WAKE_STAT, WAKE_AT, HCLK_PERIOD, EV_UNLOCK. -/
def regRows41 : List RegRow := [
  ⟨0x4000080, 1, 0x0, 1, 0x0, 0, 0, 0, 0x4, 0, 0xc0000000, 0x3, 0x0, 0⟩,
  ⟨0x4000084, 1, 0x0, 1, 0x0, 0, 0, 0, 0, 0, 0, 0x3f, 0x0, 0⟩,
  ⟨0x4000088, 1, 0x0, 1, 0x0, 0x3f, 0, 0, 0, 0, 0, 0, 0x0, 0⟩,
  ⟨0x400008c, 1, 0x0, 1, 0x0, 0, 0, 0, 0xe, 0, 0, 0x1, 0x0, 0⟩,
  ⟨0x4000090, 1, 0x0, 1, 0x0, 0xffffffff, 0, 0, 0, 0, 0, 0, 0x0, 1⟩,
  ⟨0x4000094, 1, 0x0, 1, 0x0, 0xffffffff, 0, 0, 0, 0, 0, 0, 0x0, 2⟩,
  ⟨0x4000098, 1, 0x0, 1, 0x0, 0, 0, 0, 0, 0, 0, 0xffffffff, 0x0, 0⟩,
  ⟨0x40000fc, 1, 0x0, 1, 0x0, 0, 0, 0, 0, 0, 0xfffffffe, 0x1, 0x0, 0⟩]

/-- Registers of R165: SERVO_CTRL, SERVO_STATUS, OFFSET_FILT, DELAY_MEAN, SERVO_UNC, PATH_UNC, SW_SERVO_UNC, SLEW, ACQ_THRESH, ACQ_DWELL, TRACK_THRESH, TRACK_DWELL, TRACK_EXIT, DELAY_GATE, TIME_ADDEND, MEAS_STAT, MEAS_OVF, SERVO_MEAS. -/
def regRows42 : List RegRow := [
  ⟨0x4000100, 1, 0x0, 1, 0x0, 0x1, 0, 0, 0, 0, 0x10, 0, 0x0, 0⟩,
  ⟨0x4000104, 1, 0x0, 1, 0x0, 0, 0, 0, 0x3f0, 0, 0, 0x3, 0x0, 0⟩,
  ⟨0x4000108, 1, 0x0, 1, 0x0, 0, 0, 0, 0, 0, 0, 0xffffffff, 0x0, 0⟩,
  ⟨0x400010c, 1, 0x0, 1, 0x0, 0, 0, 0, 0, 0, 0, 0xffffffff, 0x0, 0⟩,
  ⟨0x4000110, 1, 0x0, 1, 0x0, 0, 0, 0, 0, 0, 0, 0xffffffff, 0x0, 0⟩,
  ⟨0x4000114, 1, 0x0, 1, 0x0, 0, 0, 0, 0, 0, 0, 0xffffffff, 0x0, 0⟩,
  ⟨0x4000118, 1, 0x0, 1, 0x0, 0xffffffff, 0, 0, 0, 0, 0, 0, 0x0, 0⟩,
  ⟨0x400011c, 1, 0x0, 1, 0x0, 0, 0, 0, 0, 0, 0xffffffff, 0, 0x0, 0⟩,
  ⟨0x4000120, 1, 0x0, 1, 0x0, 0xffffffff, 0, 0, 0, 0, 0, 0, 0xfa0, 0⟩,
  ⟨0x4000124, 1, 0x0, 1, 0x0, 0xffffffff, 0, 0, 0, 0, 0, 0, 0x3e8, 0⟩,
  ⟨0x4000128, 1, 0x0, 1, 0x0, 0xffffffff, 0, 0, 0, 0, 0, 0, 0x28, 0⟩,
  ⟨0x400012c, 1, 0x0, 1, 0x0, 0xffffffff, 0, 0, 0, 0, 0, 0, 0x3e80, 0⟩,
  ⟨0x4000130, 1, 0x0, 1, 0x0, 0xffffffff, 0, 0, 0, 0, 0, 0, 0x50, 0⟩,
  ⟨0x4000134, 1, 0x0, 1, 0x0, 0xffffffff, 0, 0, 0, 0, 0, 0, 0x7d0, 0⟩,
  ⟨0x4000138, 1, 0x0, 1, 0x0, 0xffffffff, 0, 0, 0, 0, 0, 0, 0xcccccccd, 1⟩,
  ⟨0x400013c, 1, 0x0, 1, 0x0, 0xffffffff, 0, 0, 0, 0, 0, 0, 0x0, 2⟩,
  ⟨0x4000160, 1, 0x0, 1, 0x0, 0, 0, 0, 0, 0, 0, 0x1f, 0x0, 0⟩,
  ⟨0x4000168, 1, 0x0, 1, 0x0, 0, 0, 0, 0, 0xffffffff, 0, 0, 0x0, 0⟩,
  ⟨0x4000180, 1, 0x0, 1, 0x0, 0, 0, 0, 0, 0, 0, 0x3ffffff, 0x0, 0⟩,
  ⟨0x4000184, 1, 0x0, 1, 0x0, 0, 0, 0, 0, 0, 0, 0xffffffff, 0x0, 0⟩,
  ⟨0x4000188, 1, 0x0, 1, 0x0, 0, 0, 0, 0, 0, 0, 0xffffffff, 0x0, 0⟩,
  ⟨0x400018c, 1, 0x0, 1, 0x0, 0, 0, 0, 0, 0, 0, 0xffffffff, 0x0, 0⟩]

/-- Registers of R166: EVU_CTRL, EVU_STATUS, EVU_HIST, EVU_IRQ_EN, HOLD_TIME, EVU_WTR, EVU_DISPUTE_LIMIT, EVU_ACCEPT_LIMIT, EVU_REJECT_LIMIT, EVU_DRIFT_LIMIT, EVU_DRIFT_TIME, EVU_REQUAL_TIME, EVU_HOLD_FERR, EVU_HOLD_AGING, EVU_HOLD_AVG, REF_TABLE[i], EVU_SRC_STAT, EVU_SRC_CFG, EVU_SRC_PATH_UNC, EVU_SRC_FREQ, EVU_SRC_DRIFT, EVU_SRC_PHASE, EVU_SRC_MISS, EVU_SRC_STRAY. -/
def regRows43 : List RegRow := [
  ⟨0x4000200, 1, 0x0, 1, 0x0, 0xf00, 0, 0x1, 0, 0, 0x80000000, 0, 0xf00, 0⟩,
  ⟨0x4000204, 1, 0x0, 1, 0x0, 0, 0, 0, 0, 0, 0, 0x1ff8ff, 0xf0, 0⟩,
  ⟨0x4000208, 1, 0x0, 1, 0x0, 0, 0, 0, 0x1ff, 0, 0, 0, 0x0, 0⟩,
  ⟨0x400020c, 1, 0x0, 1, 0x0, 0x1ff, 0, 0, 0, 0, 0, 0, 0x0, 0⟩,
  ⟨0x4000210, 1, 0x0, 1, 0x0, 0, 0, 0, 0, 0, 0, 0xffffffff, 0x0, 0⟩,
  ⟨0x4000214, 1, 0x0, 1, 0x0, 0xffffffff, 0, 0, 0, 0, 0, 0, 0x12c, 0⟩,
  ⟨0x4000218, 1, 0x0, 1, 0x0, 0xffffffff, 0, 0, 0, 0, 0, 0, 0x14, 0⟩,
  ⟨0x400021c, 1, 0x0, 1, 0x0, 0xffffffff, 0, 0, 0, 0, 0, 0, 0xc8, 0⟩,
  ⟨0x4000220, 1, 0x0, 1, 0x0, 0xffffffff, 0, 0, 0, 0, 0, 0, 0x190, 0⟩,
  ⟨0x4000224, 1, 0x0, 1, 0x0, 0xffffffff, 0, 0, 0, 0, 0, 0, 0x1f4, 0⟩,
  ⟨0x4000228, 1, 0x0, 1, 0x0, 0xffffffff, 0, 0, 0, 0, 0, 0, 0x3c, 0⟩,
  ⟨0x400022c, 1, 0x0, 1, 0x0, 0xffffffff, 0, 0, 0, 0, 0, 0, 0x1e, 0⟩,
  ⟨0x4000230, 1, 0x0, 1, 0x0, 0xffffffff, 0, 0, 0, 0, 0, 0, 0x1388, 0⟩,
  ⟨0x4000234, 1, 0x0, 1, 0x0, 0xffffffff, 0, 0, 0, 0, 0, 0, 0x3e8, 0⟩,
  ⟨0x4000238, 1, 0x0, 1, 0x0, 0xffffffff, 0, 0, 0, 0, 0, 0, 0x3c, 0⟩,
  ⟨0x4000240, 8, 0x4, 1, 0x0, 0, 0, 0xf0f, 0, 0, 0, 0, 0xf, 0⟩,
  ⟨0x4000260, 2, 0x20, 1, 0x0, 0, 0, 0, 0, 0, 0, 0xff0001ff, 0x0, 0⟩,
  ⟨0x4000264, 2, 0x20, 1, 0x0, 0, 0, 0x3ff, 0, 0, 0, 0, 0x3ff, 0⟩,
  ⟨0x4000268, 2, 0x20, 1, 0x0, 0, 0, 0, 0, 0, 0, 0xffffffff, 0x0, 0⟩,
  ⟨0x400026c, 2, 0x20, 1, 0x0, 0, 0, 0, 0, 0, 0, 0xffffffff, 0x0, 0⟩,
  ⟨0x4000270, 2, 0x20, 1, 0x0, 0, 0, 0, 0, 0, 0, 0xffffffff, 0x0, 0⟩,
  ⟨0x4000274, 2, 0x20, 1, 0x0, 0, 0, 0, 0, 0, 0, 0xffffffff, 0x0, 0⟩,
  ⟨0x4000278, 2, 0x20, 1, 0x0, 0, 0, 0, 0, 0xffffffff, 0, 0, 0x0, 0⟩,
  ⟨0x400027c, 2, 0x20, 1, 0x0, 0, 0, 0, 0, 0, 0, 0xffffffff, 0x0, 0⟩]

/-- Registers of R167: LAUNCH_CFG[l], LAUNCH_CLR, LAUNCH_ARMED, ARRIVE, ARRIVE_STAT, LAST_STEP, LAST_T, EDGE_DT, LINE_STAT. -/
def regRows44 : List RegRow := [
  ⟨0x4000300, 8, 0x4, 1, 0x0, 0xf300, 0, 0x1003f, 0, 0, 0, 0, 0x0, 0⟩,
  ⟨0x4000320, 1, 0x0, 1, 0x0, 0, 0, 0, 0, 0, 0xff, 0, 0x0, 0⟩,
  ⟨0x4000324, 1, 0x0, 1, 0x0, 0, 0, 0, 0, 0, 0, 0xff, 0x0, 0⟩,
  ⟨0x4000328, 1, 0x0, 1, 0x0, 0, 0, 0, 0, 0, 0x80000007, 0, 0x0, 0⟩,
  ⟨0x400032c, 1, 0x0, 1, 0x0, 0, 0, 0, 0x3, 0, 0, 0, 0x0, 0⟩,
  ⟨0x4000340, 8, 0x18, 1, 0x0, 0, 0, 0, 0, 0, 0, 0xffffffff, 0x0, 1⟩,
  ⟨0x4000344, 8, 0x18, 1, 0x0, 0, 0, 0, 0, 0, 0, 0xffffffff, 0x0, 2⟩,
  ⟨0x4000348, 8, 0x18, 1, 0x0, 0, 0, 0, 0, 0, 0, 0xffffffff, 0x0, 1⟩,
  ⟨0x400034c, 8, 0x18, 1, 0x0, 0, 0, 0, 0, 0, 0, 0xffffffff, 0x0, 2⟩,
  ⟨0x4000350, 8, 0x18, 1, 0x0, 0, 0, 0, 0, 0, 0, 0xffffffff, 0x0, 0⟩,
  ⟨0x4000354, 8, 0x18, 1, 0x0, 0, 0, 0, 0x1c, 0, 0, 0x3, 0x0, 0⟩]

/-- Registers of R168: EVT_CFG[i], EVT_FIFO_STAT, EVT_OVF, EVT_MERGED, EVT_POP. -/
def regRows45 : List RegRow := [
  ⟨0x4000400, 16, 0x4, 1, 0x0, 0xf3f6, 0, 0, 0, 0, 0, 0, 0x0, 0⟩,
  ⟨0x4000440, 1, 0x0, 1, 0x0, 0, 0, 0, 0, 0, 0, 0x7f, 0x0, 0⟩,
  ⟨0x4000444, 1, 0x0, 1, 0x0, 0, 0, 0, 0, 0xffffffff, 0, 0, 0x0, 0⟩,
  ⟨0x4000448, 1, 0x0, 1, 0x0, 0, 0, 0, 0, 0xffffffff, 0, 0, 0x0, 0⟩,
  ⟨0x4000450, 1, 0x0, 1, 0x0, 0, 0, 0, 0, 0, 0, 0xffffffff, 0x0, 0⟩,
  ⟨0x4000454, 1, 0x0, 1, 0x0, 0, 0, 0, 0, 0, 0, 0xffffffff, 0x0, 0⟩,
  ⟨0x4000458, 1, 0x0, 1, 0x0, 0, 0, 0, 0, 0, 0, 0xffffffff, 0x0, 0⟩,
  ⟨0x400045c, 1, 0x0, 1, 0x0, 0, 0, 0, 0, 0, 0, 0xffffffff, 0x0, 0⟩]

/-- Registers of R169: PORT_STAT. -/
def regRows46 : List RegRow := [
  ⟨0x4000500, 64, 0x4, 1, 0x0, 0, 0, 0x3, 0x580, 0xff0000, 0x80000000, 0x260, 0x0, 0⟩]

/-- Registers of R170: EV_ERR_STAT, ETX_UNKNOWN, ETX_CRC_ERR, ETX_HOP_LIMIT, TAP_ORPHAN, REG_ERR_ADDR, FOREIGN_ARR. -/
def regRows47 : List RegRow := [
  ⟨0x4000600, 1, 0x0, 1, 0x0, 0, 0, 0, 0x7f, 0, 0, 0, 0x0, 0⟩,
  ⟨0x4000604, 1, 0x0, 1, 0x0, 0, 0, 0, 0, 0xffffffff, 0, 0, 0x0, 0⟩,
  ⟨0x4000608, 1, 0x0, 1, 0x0, 0, 0, 0, 0, 0xffffffff, 0, 0, 0x0, 0⟩,
  ⟨0x400060c, 1, 0x0, 1, 0x0, 0, 0, 0, 0, 0xffffffff, 0, 0, 0x0, 0⟩,
  ⟨0x4000610, 1, 0x0, 1, 0x0, 0, 0, 0, 0, 0xffffffff, 0, 0, 0x0, 0⟩,
  ⟨0x4000614, 1, 0x0, 1, 0x0, 0, 0, 0, 0, 0, 0, 0xffc, 0x0, 0⟩,
  ⟨0x4000618, 1, 0x0, 1, 0x0, 0, 0, 0, 0, 0xffffffff, 0, 0, 0x0, 0⟩]

/-- Registers of R171: EV_HOP_UNC, KP_ACQ, KI_ACQ, KP_SET, KI_SET, KP_TRK, KI_TRK, ASYM, TX_LAT, RX_LAT, UI_FS, LAST_OFFSET, LAST_DELAY. -/
def regRows48 : List RegRow := [
  ⟨0x4000800, 1, 0x0, 1, 0x0, 0xffffffff, 0, 0, 0, 0, 0, 0, 0x78, 0⟩,
  ⟨0x4000840, 1, 0x0, 1, 0x0, 0xffffffff, 0, 0, 0, 0, 0, 0, 0xb1b70a3d, 0⟩,
  ⟨0x4000844, 1, 0x0, 1, 0x0, 0xffffffff, 0, 0, 0, 0, 0, 0, 0x3f2a5a4, 0⟩,
  ⟨0x4000848, 1, 0x0, 1, 0x0, 0xffffffff, 0, 0, 0, 0, 0, 0, 0x11c58106, 0⟩,
  ⟨0x400084c, 1, 0x0, 1, 0x0, 0xffffffff, 0, 0, 0, 0, 0, 0, 0xa1b42, 0⟩,
  ⟨0x4000850, 1, 0x0, 1, 0x0, 0xffffffff, 0, 0, 0, 0, 0, 0, 0x1c6f34d, 0⟩,
  ⟨0x4000854, 1, 0x0, 1, 0x0, 0xffffffff, 0, 0, 0, 0, 0, 0, 0x19df, 0⟩,
  ⟨0x4000900, 64, 0x18, 1, 0x0, 0xffffffff, 0, 0, 0, 0, 0, 0, 0x0, 0⟩,
  ⟨0x4000904, 64, 0x18, 1, 0x0, 0xffffffff, 0, 0, 0, 0, 0, 0, 0x0, 0⟩,
  ⟨0x4000908, 64, 0x18, 1, 0x0, 0xffffffff, 0, 0, 0, 0, 0, 0, 0x0, 0⟩,
  ⟨0x400090c, 64, 0x18, 1, 0x0, 0xffffffff, 0, 0, 0, 0, 0, 0, 0x24c4, 0⟩,
  ⟨0x4000910, 64, 0x18, 1, 0x0, 0, 0, 0, 0, 0, 0, 0xffffffff, 0x0, 0⟩,
  ⟨0x4000914, 64, 0x18, 1, 0x0, 0, 0, 0, 0, 0, 0, 0xffffffff, 0x0, 0⟩]

/-- Every register row. -/
def regRows : List RegRow :=
  regRows0 ++ regRows1 ++ regRows2 ++ regRows3 ++ regRows4 ++ regRows5 ++ regRows6 ++ regRows7 ++
  regRows8 ++ regRows9 ++ regRows10 ++ regRows11 ++ regRows12 ++ regRows13 ++ regRows14 ++ regRows15 ++
  regRows16 ++ regRows17 ++ regRows18 ++ regRows19 ++ regRows20 ++ regRows21 ++ regRows22 ++ regRows23 ++
  regRows24 ++ regRows25 ++ regRows26 ++ regRows27 ++ regRows28 ++ regRows29 ++ regRows30 ++ regRows31 ++
  regRows32 ++ regRows33 ++ regRows34 ++ regRows35 ++ regRows36 ++ regRows37 ++ regRows38 ++ regRows39 ++
  regRows40 ++ regRows41 ++ regRows42 ++ regRows43 ++ regRows44 ++ regRows45 ++ regRows46 ++ regRows47 ++
  regRows48

/-- Is `a` the address of one of a row's copies? -/
def RegRow.has (r : RegRow) (a : Nat) : Bool :=
  decide (r.base ≤ a) &&
    (let d := a - r.base
     if r.n = 1 && r.n2 = 1 then d == 0
     else if r.n2 = 1 then decide (d % r.s = 0) && decide (d / r.s < r.n)
     else if r.n = 1 then decide (d % r.s2 = 0) && decide (d / r.s2 < r.n2)
     else decide (d / r.s < r.n) && decide (d % r.s % r.s2 = 0) && decide (d % r.s / r.s2 < r.n2))

/-- The row of an address, if the spec lists a register there. -/
def regRow (a : Nat) : Option RegRow := regRows.find? (fun r => r.has a)

/-- The reset value of a register (R10); a reserved offset reads zero (R11). -/
def resetOf (a : Nat) : Word :=
  match regRow a with
  | some r => BitVec.ofNat 32 r.reset
  | none => 0

end Sys2Proof.Machine
end

