-- ==== Sys2Proof/Machine/Out.lean ====
section
/-! DEFINITION. What the block sends out: messages, edges on pins, frames, writes to host memory, interrupts. The
outbox of the state lists it, newest first (log entry 6). -/

namespace Sys2Proof.Machine

/-- Output pins and lines by name (R138, R150, R457). -/
inductive Pin where
  | launch (l : Nat)
  | irq
  | wakeReq
  | ready
  | valid
  | pps (o : Nat)
  | freq (o : Nat)
  | eventOut
  | thermtrip
  | twinLink
  | laneLoopback (p : Nat)
  deriving DecidableEq, Repr

/-- One thing sent. -/
inductive Out where
  /-- a timing message on a port or tap (R50, R52) -/
  | msg (n : Node) (p : Nat) (m : Raw)
  /-- marker patterns on the keel lane of a port or tap, and its own one-way result to the far end, 2^-16 ns (R59) -/
  | markers (n : Node) (p count : Nat)
  | calResult (n : Node) (p : Nat) (d : Int)
  /-- a level put on an output -/
  | pin (x : Pin) (level : Bool)
  /-- an edge emitted at a fabric time, 2^-16 ns (R116) -/
  | edge (x : Pin) (t : BitVec 64)
  /-- an event of the interval inputs: tap code and stamp (R128) -/
  | tap (code : Nat) (t : BitVec 64)
  /-- a frame on a port (R357) -/
  | frame (p : Nat) (m : Raw)
  /-- a CTRL frame to a node: CTRL_TYPE or purpose, and words (R358, R376, R382, R388) -/
  | ctrl (dst : Nat) (kind : Nat) (words : List Nat)
  /-- bytes written to host memory (R314, R443) -/
  | hostWrite (addr : BitVec 64) (data : Raw)
  /-- a read of host memory asked for: address, bytes -/
  | hostRead (addr : BitVec 64) (len : Nat)
  /-- an MSI-X message of a vector (R448) -/
  | msix (v : Nat)
  /-- a PTP event message of an edge port (R84) -/
  | ptp (e : Nat) (m : Raw)
  /-- a received PTP event message with the stamp in its receive descriptor (R85) -/
  | ptpRx (e : Nat) (t : Stamp) (m : Raw)
  /-- a twin heartbeat (R375), an item mirrored (R377) -/
  | heartbeat (mode : Nat) (primary : Bool) (epoch : Word) (chip : BitVec 64) (mark : Nat)
  | mirror (kind : Nat) (words : List Nat)
  /-- a parity delta to a node: set, bale, row, bytes (R387) -/
  | delta (dst : Nat) (set bale row : Nat) (data : Raw)
  /-- a later write of a lost set, from its rebuild host to the package that takes the position: address there, bytes (R391) -/
  | restore (dst addr : Nat) (data : Raw)
  /-- a circuit asked of or released in the prism die: groups (R226) -/
  | circuit (a b : Nat) (on : Bool)
  deriving DecidableEq, Repr

/-- Reads of host memory, of at most 4,096 bytes each (R436). -/
def hostReads (a : BitVec 64) (len : Nat) : List Out :=
  (List.range ((len + 4095) / 4096)).map (fun i => .hostRead (a + BitVec.ofNat 64 (4096 * i)) (min 4096 (len - 4096 * i)))

end Sys2Proof.Machine
end

