-- ==== Sys2Proof/Machine/StAlm.lean ====
section
/-! DEFINITION. The configuration in force, and the state of the almanac loader, of the commits, of the partitions, of
the set-up cache and of the key slots (14), as plain data. Reset values are those of COLD reset. -/

namespace Sys2Proof.Machine

/-- What committed almanacs have configured, RWC register fields apart (those stand in the register store). -/
structure HwCfg where
  hall : HallCfg := {}
  /-- a hall almanac is active, and its SERIAL (R354, R370) -/
  hallActive : Bool := false
  hallSerial : Nat := 0
  ports : Table PortCfg := []
  groups : Table GroupCfg := []
  seqs : Table SeqTable := []
  /-- the bindings in force, and the variants of each record that the almanac holds: key 4 × record + variant (R228) -/
  ws : Table WsCfg := []
  wsVars : Table WsCfg := []
  psets : Table PsetCfg := []
  /-- JOB_SEED of the jobs, by partition (R257, R259) -/
  seeds : Table (BitVec 64) := []
  /-- the partition table: which partition owns a resource (R347) -/
  owners : List (Res × Nat) := []
  /-- the partition a tally is bound to, by tally reference (R304) -/
  tallies : Table Nat := []
  sprays : Table (List Nat) := []
  routeSeed : Nat := 0
  /-- lanes of each by-pass group (R367) -/
  byps : Table (List Nat) := []
  /-- circuit maps of the tree variants (R226) -/
  circuits : List CircuitMap := []
  /-- standing spill circuits: pairs of global by-pass groups (R369) -/
  spills : List (Nat × Nat) := []
  /-- alternates of the trees and routes for the loss of a package (R214, R382) -/
  alternates : List Alternate := []
  deriving DecidableEq, Repr

/-- What the stage holds (R339, R340). -/
structure Staged where
  hdr : AlmHdr
  items : List AlmItem
  deriving DecidableEq, Repr

/-- A queued or running loader request (R340, R341): OP as ALM_REQ encodes it. -/
structure LoadReq where
  op : Nat
  prio : Nat
  part : Nat
  ticket : Nat
  src : BitVec 64
  len : Nat
  shape : BitVec 256
  /-- a LOAD whose almanac proved to be no hall almanac before stage 9: it is held at the head (R433) -/
  held : Bool := false
  /-- partitions that a PARTITION reset has reset since the load began (R342) -/
  resets : List Nat := []
  deriving DecidableEq, Repr

/-- COMMIT_STAT STATE (R351). -/
inductive CommitPhase where
  | idle | preparing | waiting | activating
  deriving DecidableEq, Repr

/-- One COMMIT or TEARDOWN in progress (R343 to R348). -/
structure Commit where
  /-- 0 to 63, or 0x7F for the hall; 0x80 + k for the alternates of group k (R382; log entry 61) -/
  part : Nat
  at_ : Nat
  group : Nat
  /-- none of an activation that no ALM_COMMIT asked for (R377, R382) -/
  ticket : Option Nat
  teardown : Bool
  phase : CommitPhase
  /-- what the dies have copied into their shadows: the almanac's items and the staged register values (R343) -/
  items : List AlmItem
  hdr : Option AlmHdr
  /-- the bytes of the almanac as it stood in the stage (R349) -/
  image : List Byte := []
  /-- the staged register values that the dies have copied into their shadows (R343) -/
  regs : Table Word
  /-- the dies that have answered a PREPARE, and those that have refused it, by number (R343) -/
  ready : BitVec 8
  refuse : BitVec 8
  /-- the configuration and the registers to restore on ROLLBACK (R345) -/
  before : Option (HwCfg × Table Word)
  acks : BitVec 8
  /-- POWER_ELAPSED of the activation -/
  since : Nat
  /-- T of the LAUNCH with which it activates (R344) -/
  t : BitVec 64 := 0
  /-- the alternates that it puts in force: the activation that a SOLO_NOTICE asks for, which has no stage (R382) -/
  alts : List Alternate := []
  /-- the lost packages whose alternates it retires (R391) -/
  retires : List Nat := []
  deriving DecidableEq, Repr

/-- A partition record (R351). -/
structure PartRec where
  serial : Nat := 0
  active : Bool := false
  cache : Nat := 0xFF
  shape : BitVec 256 := 0
  deriving DecidableEq, Repr

/-- A cache entry (R349, R351). -/
structure CacheEntry where
  hdr : AlmHdr
  items : List AlmItem
  lastUse : Nat
  deriving DecidableEq, Repr

/-- The almanac loader (R335 to R351). -/
structure AlmSt where
  stage : Option Staged := none
  /-- queued requests, in the order in which they will start (R341) -/
  queue : List LoadReq := []
  working : Option LoadReq := none
  commits : List Commit := []
  /-- COMMIT_STAT of the last one: phase, FAULT, DIE_READY, DIE_REFUSE -/
  phase : CommitPhase := .idle
  fault : Nat := 0
  ready : BitVec 8 := 0
  refuse : BitVec 8 := 0
  parts : Table PartRec := []
  cache : List (Option CacheEntry) := [none, none, none, none]
  /-- the loader SRAM of an A200's keel die, 40 MiB, by offset (R339); zero where nothing is listed -/
  sram : Table Byte := []
  /-- key slots in fuses: the hash of each programmed slot, and the revoked ones (R338) -/
  keys : List (Option (BitVec 384)) := [some 0, none, none, none]
  revoked : List Bool := [false, false, false, false]
  /-- partitions whose sequencers stay held until a PARTITION reset (R345) -/
  held : List Nat := []
  deriving DecidableEq, Repr

end Sys2Proof.Machine
end

