-- ==== Sys2Proof/Machine/StDie.lean ====
section
/-! DEFINITION. State of the sequencers, waystations, parameter sets, engines, banks, segments, tallies, gates and DMA
engines of the reduce dies (08 to 12), as plain data. Tables of both dies are keyed with die 5 first. -/

namespace Sys2Proof.Machine

/-- Sequencer states (R212). -/
inductive SeqState where
  | idle | armed | running
  deriving DecidableEq, Repr

/-- Work in hand of a table: the table, its step, the entries issued that still run, those that are late, the flagged lines they
met (entry, bale, residual), the engines whose tallies are cleared once they have finished (R211, R301). -/
structure Leftover where
  run : SeqTable
  step : Nat
  active : List Nat
  late : List Nat
  flagged : List (Nat × Nat × Bool)
  /-- GEN of the tallies that they signal, as seen when each issued (R303) -/
  gens : List (Nat × Nat × BitVec 8)
  clearAfter : List Nat
  /-- return entries that issued while their range was not wholly applied (R235) -/
  stale : List Nat
  /-- bales that an entry had handed off when it became late (R204) -/
  sent : Table Nat
  /-- entries whose engine has faulted, or has been reset, since they issued: their work has ended with it (R305) -/
  dead : List Nat := []
  deriving DecidableEq, Repr

/-- One slot sequencer (R195 to R212); sequencer q is SEQ engine q mod 4 of die 5 + q div 4. -/
structure Seq where
  state : SeqState := .idle
  step : Nat := 0
  t : BitVec 64 := 0
  /-- the table it runs, as it stood when it armed (R344: a commit waits for a running one) -/
  run : SeqTable := {}
  /-- index executed, and G (R195) -/
  idx : Nat := 0
  g : Nat := 0
  /-- the index is tried again at the next pulse: a guard slot (R205) -/
  guarding : Bool := false
  /-- the slot in hand is the guard slot of a late entry (R204) -/
  holding : Bool := false
  /-- a slot of the grid has begun in this step -/
  started : Bool := false
  /-- entries of the index issued, and of those the ones still running, by place in the table -/
  issued : List Nat := []
  active : List Nat := []
  /-- an entry crossed a pulse: later hand-offs of its caravan carry LATE (R204) -/
  late : List Nat := []
  /-- LATE bales of the step for which a guard slot has been held: waystation, bale (R205) -/
  waited : List (Nat × Nat) := []
  /-- of a late entry, the bales that it had handed off by the pulse (R204) -/
  sent : Table Nat := []
  /-- entries of aborted tables that still run, oldest first (R211) -/
  left : List Leftover := []
  /-- the LAUNCH of the next step, held (R209) -/
  next : Option (Nat × BitVec 64) := none
  limitHit : Bool := false
  lastShift : Nat := 0
  /-- MIN_SLACK of the last completed step, and the least U minus completion of the step in hand (R212) -/
  minSlack : Int := 0
  stepSlack : Option Int := none
  cycLast : Nat := 0
  /-- the greatest completion of an entry in the slot in hand, entries that were late apart (R203) -/
  slotCyc : Option Nat := none
  /-- stall cycles of each entry in hand since it issued (R203, R207) -/
  stalls : Table Nat := []
  /-- a stretched period in the slot (R202) -/
  stretched : Bool := false
  /-- lines that came back flagged to entries in hand (R277): entry, the bale that the line feeds, was it its residual -/
  flagged : List (Nat × Nat × Bool) := []
  /-- return entries that issued while their range was not wholly applied (R235) -/
  stale : List Nat := []
  /-- GEN of the tallies that entries in hand signal, as seen when each issued (R303): entry, tally reference, GEN -/
  gens : List (Nat × Nat × BitVec 8) := []
  /-- FAULT: the fault code of the last abort (R211) -/
  fault : Nat := 0
  deriving DecidableEq, Repr

/-- A digest record word of one bale handed off (R328). -/
structure OutRec where
  bale : Nat
  cause : Nat
  contrib : Nat
  d : BitVec 64
  /-- it carried DIP_SUSPECT (R414) -/
  dip : Bool
  deriving DecidableEq, Repr

/-- One waystation record with its arithmetic (R213 to R229, R238, R271). -/
structure Ws where
  /-- bales of the current variant whose residual has been written (R260) -/
  written : List Nat := []
  /-- bales in the landing, by step and child (R221) -/
  landed : List Bale := []
  /-- bales that have landed for the step in hand and the next: bale, child, step (R220) -/
  seen : List (Nat × BitVec 20 × Nat) := []
  /-- bales whose consuming entry has issued in the step (R206, R220) -/
  consumed : List Nat := []
  /-- members excluded from a step by a DEGRADE freeze: step, node (R188) -/
  excluded : List (Nat × BitVec 20) := []
  step : Nat := 0
  running : Bool := false
  outs : List OutRec := []
  /-- a bale of the step in WS_DIGEST carried DIP_SUSPECT (R415) -/
  digDip : Bool := false
  /-- the condition bin of its die at the last hand-off, and at the last one of the step digested (R411) -/
  handBin : Nat := 0
  digBin : Nat := 0
  /-- the step digest in force: WS_DIGEST, DIG_STEP, DIG_COUNT, PARTIAL, VARIANT (R328) -/
  digest : BitVec 64 := 0
  digStep : Nat := 0
  digCount : Nat := 0
  digPartial : Bool := false
  digVariant : BitVec 2 := 0
  lastBaleDig : BitVec 64 := 0
  landPeak : Nat := 0
  /-- most landings occupied so far in the step (R238) -/
  landNow : Nat := 0
  /-- the line of the landing at which the next bale lands (R219, R283) -/
  ring : Nat := 0
  deriving DecidableEq, Repr

/-- PSET_STAT STATE (R240). -/
inductive PsetState where
  | idle | waiting | applying | done
  deriving DecidableEq, Repr

/-- The hyperparameters of an optimiser, FP32 (R231, R240). -/
structure Hyper where
  lr : Word := 0
  beta1 : Word := 0
  beta2 : Word := 0
  eps : Word := 0
  wd : Word := 0
  gscale : Word := 0x3F800000#32
  nesterov : Bool := false
  wdCoupled : Bool := false
  deriving DecidableEq, Repr

/-- One parameter set (R229 to R237, R240). -/
structure Pset where
  /-- latched at the launch (R236) -/
  hyper : Hyper := {}
  /-- 1.0 when the set is created (R231); the register reads it so -/
  b1t : Word := 0x3F800000#32
  b2t : Word := 0x3F800000#32
  state : PsetState := .idle
  step : Nat := 0
  /-- gradients written: bale, INVALID, CONTRIB (R230, R232) -/
  grads : List (Nat × Bool × Nat) := []
  /-- the pass has begun: B1T and B2T are advanced for it (R231) -/
  begun : Bool := false
  doneBales : Nat := 0
  fault : Nat := 0
  torn : Option Nat := none
  updStep : Nat := 0
  /-- the return table of the step has completed (R234) -/
  returned : Nat := 0
  deriving DecidableEq, Repr

/-- ENG_MAP STATE (R294). -/
inductive EngState where
  | idle | busy | fault | inReset
  deriving DecidableEq, Repr

/-- One engine's state (R272, R294). -/
structure Engine where
  state : EngState := .idle
  /-- the gate at which it waits (R307) -/
  gate : Option Nat := none
  deriving DecidableEq, Repr

/-- One SRAM bank (R277 to R285). -/
structure Bank where
  /-- 0x00 to 0x6B engine, 0xFF host, 0xFE none -/
  owner : Nat := 0xFF
  clearing : Bool := false
  ce : Nat := 0
  ueLine : Option Nat := none
  deriving DecidableEq, Repr

/-- One segment descriptor in force (R290 to R293). -/
structure Seg where
  /-- valid and in force (R290) -/
  active : Bool := false
  held : Bool := false
  scrubbing : Bool := false
  deriving DecidableEq, Repr

/-- A waiter on a tally (R297, R300). -/
structure Waiter where
  engine : Nat
  take : Bool
  v : Nat
  deriving DecidableEq, Repr

/-- One tally (R297 to R305). -/
structure Tally where
  value : Nat := 0
  gen : BitVec 8 := 0
  err : Bool := false
  clearing : Bool := false
  waiters : List Waiter := []
  lastSig : Nat := 0xFE
  /-- the copy of GEN held on the other die (R302) -/
  genCopy : BitVec 8 := 0
  deriving DecidableEq, Repr

/-- One gate (R306 to R309). -/
structure Gate where
  arrived : BitVec 128 := 0
  gen : BitVec 8 := 0
  deriving DecidableEq, Repr

/-- DMA_STAT STATE (R320). -/
inductive DmaState where
  | idle | waiting | running | stopped
  deriving DecidableEq, Repr

/-- One DMA engine and its chain (R311 to R317). -/
structure Dma where
  state : DmaState := .idle
  fault : Nat := 0
  host : Bool := false
  sched : Bool := false
  /-- scheduled chains: the sequencer that issued it -/
  seq : Option Nat := none
  seg : Nat := 0
  cur : Nat := 0
  idx : Nat := 0
  desc : Option Desc := none
  bytes : Nat := 0
  waitDone : Bool := false
  /-- the gate of a GATE descriptor has opened -/
  gateDone : Bool := false
  sigDone : Bool := false
  /-- GEN of the signal's target, and of the tally that a REGWRITE of TALLY_CMD names, when the descriptor began (R303) -/
  sigGen : BitVec 8 := 0
  regGen : BitVec 8 := 0
  ticket : Option Nat := none
  /-- a chain that was started or restarted while the clock of its die stood still: how the fetch of its descriptor ended, none where
  it failed (R314, R426) -/
  fetched : Option (Option (List Word)) := none
  /-- a pre-emption is asked of the chain; DMA_FAULT_INFO; descriptors that are done (R311 to R315, R320) -/
  preempt : Bool := false
  faultInfo : Word := 0
  done : Nat := 0
  deriving DecidableEq, Repr

/-- One elastic crossing (R207, R208): entries of its buffer in use, of eight; the entries that a bubble has stalled and that
have not made the cycle up (sequencer, place in the table); POWER_ELAPSED when it last counted in NDET_SLOT. -/
structure Crossing where
  level : Nat := 0
  owed : List (Nat × Nat) := []
  counted : Option Nat := none
  deriving DecidableEq, Repr

/-- A dump that runs (R310): where it goes and the image captured. -/
structure Dump where
  dx : Nat
  ticket : Nat
  stack : Bool
  seg : Nat
  addr : Nat
  image : List Byte
  deriving DecidableEq, Repr

/-- Everything of the reduce dies. -/
structure DieSt where
  seqs : Table Seq := []
  /-- crossings by sending die, receiving die and number (R207) -/
  crossings : Table Crossing := []
  ws : Table Ws := []
  psets : Table Pset := []
  engines : Table Engine := []
  banks : Table Bank := []
  segs : Table Seg := []
  tallies : Table Tally := []
  gates : Table Gate := []
  dmas : Table Dma := []
  /-- SRAM bytes: (die − 5) × 2^27 + die SRAM address (R275); zero where nothing is listed (R279) -/
  sram : Table Byte := []
  /-- stack bytes by 40-bit address (R286) -/
  stack : Table Byte := []
  /-- banks 0 to 511 READY of each die (R279) -/
  ready : List Bool := [false, false]
  /-- stacks trained -/
  trained : List Bool := [false, false, false, false]
  /-- ranges under scrub: die, first address, last address, partition (R293) -/
  scrubs : List (Nat × Nat × Nat × Nat) := []
  /-- engines (die × 108 + identifier) whose fault has not been acted on; settled within the command that raises it -/
  fresh : List Nat := []
  /-- signals on their way, oldest first: signaller, tally reference, GEN, delta (R298, R303) -/
  sigs : List (Nat × Nat × BitVec 8 × Int) := []
  /-- n of the digest log's next entry, of each die (R329) -/
  logN : List Nat := [0, 0]
  /-- dumps running (R310) -/
  dumps : List Dump := []
  deriving DecidableEq, Repr

end Sys2Proof.Machine
end

