-- ==== Sys2Proof/Machine/StHealth.lean ====
section
/-! DEFINITION. State of the error logs, the class windows, the score, the supply dips, the condition bins and the
neighbours' health (17), as plain data. Reset values are those of COLD reset (R403, R431). -/

namespace Sys2Proof.Machine

/-- One entry of a die's error log (R401). -/
structure LogEntry where
  stamp : Stamp
  die : Nat
  block : Nat
  inst : Nat
  cls : Nat
  sub : Nat
  count : Nat
  lasting : Bool
  hard : Bool
  reh : Bool
  dip : Bool
  host : Bool
  bin : Nat
  data0 : Word
  data1 : Word
  rehNo : Nat
  /-- POWER_ELAPSED of the first event (R402) -/
  firstPe : Nat
  /-- LAST_DT in ns -/
  lastDt : Nat
  /-- of a TIME_STEP: the value before, the value after, POWER_ELAPSED (R41); the eight words have no place for them -/
  step : Option (FabTime × FabTime × BitVec 64) := none
  deriving DecidableEq, Repr

/-- One die's error log (R401, R403). -/
structure DieLog where
  /-- the frozen head, oldest first, at most 1,024 -/
  head : List LogEntry := []
  /-- the ring, oldest first, at most 3,072 -/
  ring : List LogEntry := []
  /-- ring entries written since the last CLEAR: the next ring entry is 1,024 + it mod 3,072 -/
  ringNext : Nat := 0
  /-- POWER_ELAPSED from which the next new entry may be written, and events waiting (R403) -/
  slotAt : Nat := 0
  deriving DecidableEq, Repr

/-- An open window of a source instance (R398, R399). -/
structure Window where
  /-- die, block, instance, class, and DATA0 for classes 0 to 3 -/
  die : Nat
  block : Nat
  inst : Nat
  cls : Nat
  data0 : Nat
  count : Nat
  /-- POWER_ELAPSED at which it closes -/
  until_ : Nat
  lasting : Bool
  deriving DecidableEq, Repr

/-- A bale whose verification is open (R415). -/
structure DipBale where
  die : Nat
  tree : Nat
  bale : Nat
  step : Nat
  ws : Nat
  digest : BitVec 64
  /-- POWER_ELAPSED at which the limit passes; none while its window is open -/
  limit : Option Nat
  /-- where in the capture area its lines stand, and their bytes -/
  captured : Option (Nat × Nat)
  bin : Nat
  deriving DecidableEq, Repr

/-- The health of a neighbour (R416). -/
structure NbrHealth where
  state : Nat := 0
  score : Nat := 0
  flags : Byte := 0
  unc : Word := 0
  deriving DecidableEq, Repr

/-- Health of the package (R396 to R419). -/
structure HealthSt where
  logs : Table DieLog := []
  wins : List Window := []
  score : Nat := 0
  hard : Bool := false
  expelled : Bool := false
  /-- EXPEL_HELD: held for want of budget (R408); an expulsion or hold deferred, or left to the host (R409, R410) -/
  held : Bool := false
  deferred : Bool := false
  /-- fabric times of the expulsion records of the pair (R406): in full, since they last beyond 2^17 s (R35) -/
  records : List FabTime := []
  /-- POWER_ELAPSED of the last decay tick (R404) -/
  lastDecay : Nat := 0
  supplyLasting : Bool := false
  /-- dies with an open dip window (R413) -/
  dipWin : List Nat := []
  /-- bales handed off under an open dip window or waiting for a verdict (R415) -/
  dipBales : List DipBale := []
  /-- bytes used of a die's dip capture area (R415) -/
  capUsed : Table Nat := []
  /-- mismatches of the current DIG_MISMATCH window per bin (R411) -/
  condCnt : Table Nat := []
  /-- current condition bins of dies 5 and 6 (R411) -/
  bins : List Nat := [0, 0]
  partnerScore : Nat := 0
  partnerExpelled : Bool := false
  nbr : Table NbrHealth := []
  /-- an expulsion is due, and because of a hard fault; both are settled within the command that raises them -/
  due : Bool := false
  dueHard : Bool := false
  /-- an export of the logs runs: its ticket (R403) -/
  exporting : Option Nat := none
  deriving DecidableEq, Repr

end Sys2Proof.Machine
end

