-- ==== Sys2Proof/Machine/StRoute.lean ====
section
/-! DEFINITION. State of the route dies: neighbour records, TCAM, learning, egress queues, by-pass circuits and spill
(15), as plain data. Reset values are those of COLD reset. -/

namespace Sys2Proof.Machine

/-- A neighbour record (R355, R356, R370). -/
structure Nbr where
  heard : Bool := false
  twoWay : Bool := false
  miswire : Bool := false
  node : Nat := 0
  chip : BitVec 64 := 0
  role : Nat := 0
  mode : Nat := 0
  port : Nat := 0
  serial : BitVec 64 := 0
  /-- SPLIT of the last HELLO's FLAGS (R354) -/
  peerSplit : Bool := false
  /-- POWER_ELAPSED of the last HELLO received, and of the last one sent -/
  lastRx : Nat := 0
  lastTx : Option Nat := none
  /-- POWER_ELAPSED of the last HEALTH sent, and the STATE it showed (R416) -/
  healthTx : Option (Nat × Nat) := none
  deriving DecidableEq, Repr

/-- A TCAM entry as its 128 bits (R361). -/
abbrev TcamEntry := BitVec 128

/-- The kinds of learn events (R370). -/
inductive LearnKind where
  | srcNew | move | dstMiss
  deriving DecidableEq, Repr

/-- A learn event (R365, R370). -/
structure LearnEvt where
  kind : LearnKind
  port : Nat
  part : Nat
  cls : Nat
  addr : Word
  oldPort : Nat
  ft : Word
  /-- POWER_ELAPSED at the event -/
  at_ : Nat
  deriving DecidableEq, Repr

/-- A table-loader request that runs (R363). -/
structure TcamReq where
  ticket : Nat
  src : BitVec 64
  idx : Nat
  cnt : Nat
  deriving DecidableEq, Repr

/-- One route die (R352 to R372). -/
structure RouteDie where
  /-- live TCAM entries by index; an index not listed holds zero (VALID clear) -/
  live : Table TcamEntry := []
  /-- working copies of the locked segments (R362) -/
  work : Table (Table TcamEntry) := []
  req : Option TcamReq := none
  /-- the LEARN queue, oldest first, and the filter, newest first (R365) -/
  learn : List LearnEvt := []
  filter : List LearnEvt := []
  popped : Option LearnEvt := none
  deriving DecidableEq, Repr

/-- BYP_STAT STATE (R372). -/
inductive BypState where
  | idle | setting | set | failed
  deriving DecidableEq, Repr

/-- A by-pass group (R367, R368). -/
structure Byp where
  state : BypState := .idle
  peer : Option Nat := none
  /-- the group and tree that set it; none for a standing spill circuit -/
  owner : Option (Nat × Nat) := none
  spill : Bool := false
  /-- POWER_ELAPSED of its request (R368) -/
  since : Nat := 0
  deriving DecidableEq, Repr

/-- A frame queued for egress: fabric header fields, its bytes (R357). -/
structure QFrame where
  cls : Nat
  bytes : Nat
  raw : Raw
  /-- the port at which it came in -/
  ingress : Nat
  deriving DecidableEq, Repr

/-- The key of a BULK class and an ingress port among the held traffic of an egress port. -/
def heldKey (cls q : Nat) : Nat := 1024 * cls + q

/-- An egress port's queue state (R358, R366, R369). -/
structure Egress where
  /-- frames queued, oldest first -/
  queue : List QFrame := []
  /-- BULK classes under SPILL ON (R369) -/
  spillOn : List Bool := [false, false, false, false]
  /-- the BULK class whose turn it is, and the frames it has sent of its turn (R358) -/
  turn : Nat := 0
  sent : Nat := 0
  /-- since when (POWER_ELAPSED) frames of a BULK class from an ingress port are back-pressured, and since when the queue of each BULK
  class is below half its credit limit (R369) -/
  held : Table Nat := []
  low : List (Option Nat) := [none, none, none, none]
  deriving DecidableEq, Repr

/-- The routing side of the package. -/
structure RouteSt where
  nbrs : Table Nbr := []
  dies : Table RouteDie := []
  byps : Table Byp := []
  egress : Table Egress := []
  /-- frames trapped to the keel's MGMT queue, oldest first (R361) -/
  mgmt : List Raw := []
  /-- ingress of each level in the last millisecond, oldest first (R227): POWER_ELAPSED, bytes; key 3 × die place + level -/
  peaks : Table (List (Nat × Nat)) := []
  deriving DecidableEq, Repr

end Sys2Proof.Machine
end

