-- ==== Sys2Proof/Machine/StEv.lean ====
section
/-! DEFINITION. State of the Evxus block besides its time side: launch lines, event FIFO, taps, page, wake, host
clock (06), as plain data. Reset values are those of ev_rst_n (R154). -/

namespace Sys2Proof.Machine

/-- Launch line modes (R144, LAUNCH_CFG MODE). -/
inductive LineMode where
  | pulse | level | toggle
  deriving DecidableEq, Repr

/-- One launch line (R144, R167). -/
structure Line where
  /-- armed with step and T (FT64) -/
  armed : Option (Nat × BitVec 64) := none
  /-- T in full: it may wait for longer than FT64 can tell (R35) -/
  full : FabTime := ⟨0, 0, 0⟩
  level : Bool := false
  /-- cycles of ev_host_clk left of a pulse -/
  pulseLeft : Option Nat := none
  lastStep : Nat := 0
  lastT : BitVec 64 := 0
  /-- a launch has been recorded since reset: LAST_STEP and LAST_T hold it -/
  recorded : Bool := false
  /-- EDGE_DT, 2^-16 ns -/
  edgeDt : Int := 0
  /-- ROLE_EPOCH of the LAUNCH that armed it (R381) -/
  epoch : Word := 0
  /-- the arming LAUNCH came after its T; T passed while the host clock was absent; the line was armed when ev_refclk was
  lost (R144, R157, R153) -/
  late : Bool := false
  missed : Bool := false
  stalled : Bool := false
  /-- the last assertion was late, and the last launch met a conflict: what the next ARRIVE says (R176) -/
  lastLate : Bool := false
  conflict : Bool := false
  /-- a LAUNCH_CLR or SOFT_RST met the line while the host clock was absent: the output holds its level until it is back
  (R142) -/
  lowers : Bool := false
  deriving DecidableEq, Repr

/-- An entry of the event FIFO (R145). -/
structure EvtEntry where
  input : Nat
  /-- true for a falling edge -/
  falling : Bool
  seq : BitVec 16
  merge : Nat
  stamp : Stamp
  /-- EVT_CFG IRQ selected the entry (R146) -/
  irq : Bool
  deriving DecidableEq, Repr

/-- Message beats of a tap in one direction (R147): the bytes so far; none when no message is passing. -/
structure TapBeats where
  tx : Option Raw := none
  rx : Option Raw := none
  deriving DecidableEq, Repr

/-- The page's fields in force (R155): node, root, bindings and roles are kept with the node's time side. -/
structure EvSt where
  /-- EV_READY and the loss of ev_refclk (R153, R154) -/
  ready : Bool := false
  refclkOk : Bool := true
  /-- EV_NODE and EV_ROOT in force (R162) -/
  node : BitVec 20 := 0
  root : BitVec 20 := 0
  /-- LAUNCH_CFG ENABLE and GROUP in force, per line (R167) -/
  bound : List (Bool × Nat) := List.replicate 8 (false, 0)
  lines : List Line := List.replicate 8 {}
  fifo : List EvtEntry := []
  evtSeq : BitVec 16 := 0
  popped : Option EvtEntry := none
  /-- PAGE_COMMIT waits for the lines (R155) -/
  commitPend : Bool := false
  /-- the host clock: present, its measured period in 2^-16 ns (R142) -/
  hclk : Bool := false
  hclkPeriod : Nat := 0
  /-- WAKE_AT is armed (R150) -/
  wakeArmed : Bool := false
  /-- the full time at which it is due (R35) -/
  wakeDue : FabTime := ⟨0, 0, 0⟩
  /-- the loopback request of each tap whose far end calibrates (R149) -/
  loopback : List Nat := []
  /-- fabric time at which the host clock was lost; none before it has been present (R157) -/
  hclkLost : Option FabTime := none
  /-- the steps for which an ARRIVE has been sent, by group, newest first (R146) -/
  arrSent : Table (List Nat) := []
  /-- messages whose beats are passing a tap (R147) -/
  taps : Table TapBeats := []
  /-- the last HELLO of each tap's neighbour (R354, R355) -/
  nbrs : Table Nbr := []
  /-- the last HEALTH of each tap's neighbour (R416) -/
  health : Table NbrHealth := []
  /-- accesses held while READY is clear, oldest first (R141) -/
  held : List Instr := []
  /-- EV_UNLOCK (R164) -/
  unlocked : Bool := false
  /-- ev_refclk has been lost and READY is not set again; the PLL lost its lock with it (R153) -/
  outage : Bool := false
  lockLost : Bool := false
  /-- the time bus: ev_time_ft, ev_time_valid and ev_time_unsure; the last edges of ev_host_clk, oldest first, and the time to the
  next edge in fifths of 2^-16 ns (R143) -/
  bus : BitVec 64 × Bool × Bool := (0, false, false)
  busLast : List (BitVec 64 × Bool × Bool) := []
  busNext : Nat := 0
  deriving DecidableEq, Repr

end Sys2Proof.Machine
end

