-- ==== Sys2Proof/Machine/StHost.lean ====
section
/-! DEFINITION. State of the host interface, of the snapshots, and of clocks, power and reset (18, 19), as plain data. -/

namespace Sys2Proof.Machine

/-- Ticket states (R444). -/
inductive TicketState where
  | free | queued | running | waiting | ended
  deriving DecidableEq, Repr

/-- An OPSTAT entry (R444). -/
structure Opstat where
  state : TicketState := .free
  partial_ : Bool := false
  progress : Nat := 0
  serial : Nat := 0
  block : Nat := 0
  fault : Nat := 0
  deriving DecidableEq, Repr

/-- Snapshot states (R451). -/
inductive SnapState where
  | idle | armed | taken | failed
  deriving DecidableEq, Repr

/-- SNAP (R449 to R451). -/
structure SnapSt where
  state : SnapState := .idle
  fault : Nat := 0
  /-- T_snap (SNAP_TIME) and VALID, UNSURE with it -/
  time : FabTime := ⟨0, 0, 0⟩
  rcClear : Bool := false
  /-- dies that have latched -/
  dies : List Nat := []
  stamps : Table Stamp := []
  /-- the shadows: what each snapped word read as at its die's latch -/
  shadow : Table Word := []
  deriving DecidableEq, Repr

/-- Tickets, the bus, interrupts and snapshots (R438 to R453). -/
structure HostSt where
  opstat : Table Opstat := []
  ticketNext : Nat := 0
  /-- serial of the next issue (R442) -/
  serial : Nat := 1
  /-- low words written and not yet taken, by address (R440) -/
  lowHeld : Table (Option Word) := []
  /-- high words and FT128 or record words latched by a read of the word that latches them (R31, R440) -/
  latch : Table (Option Word) := []
  /-- the last data returned to a read -/
  rdata : BitVec 64 := 0
  /-- LEVEL_v seen at the last evaluation, pending vectors, POWER_ELAPSED of each vector's last message (R448) -/
  level : List Bool := [false, false, false, false]
  pendVec : List Bool := [false, false, false, false]
  lastMsg : List (Option Nat) := [none, none, none, none]
  /-- unlocked expert pages: block bases (R441) -/
  unlocked : List Nat := []
  /-- malformed accesses: the last (ACC_ERR_ADDR) -/
  accErrAddr : Word := 0
  /-- rate, width and FLIT of the link (PCIE_LINK) -/
  link : Word := 0
  snap : SnapSt := {}
  deriving DecidableEq, Repr

/-- Reset levels (R430). -/
inductive ResetLevel where
  | cold | warm | partition | engine
  deriving DecidableEq, Repr

/-- One die's clocks and supply (R420 to R435). -/
structure DieClk where
  lor : Bool := false
  pllLocked : Bool := false
  changing : Bool := false
  fstep : Nat := 0
  /-- FLOOR: highest F_SCHED of the committed tables of the die (R425) -/
  floor : Nat := 0
  target : Nat := 0
  /-- the step a change under way leads to -/
  nextStep : Nat := 0
  /-- the die is held in reset by a supply excursion (R429) -/
  heldReset : Bool := false
  /-- the core clocks are stopped by THERMTRIP (R428) -/
  tripped : Bool := false
  deriving DecidableEq, Repr

/-- Clocks, power, resets and start-up of the package (R420 to R435). -/
structure ClkSt where
  dies : Table DieClk := []
  /-- STARTUP (R433): stage and fault -/
  stage : Nat := 1
  startFault : Nat := 0
  powered : Bool := false
  vauxLow : Bool := false
  /-- the model's own field: how much had been sent when VAUX fell, or at the end of the last command since (R457) -/
  outMark : Nat := 0
  /-- the reset in progress (R432) -/
  busy : Option ResetLevel := none
  lastLevel : ResetLevel := .cold
  coldCause : Nat := 0
  warmCause : Nat := 0
  thermtrip : Bool := false
  /-- FW_VERSION: the firmware that runs (R325, R465); its first value is that of log entry 9 -/
  fw : Nat := 1
  deriving DecidableEq, Repr

end Sys2Proof.Machine
end

