-- ==== Sys2Proof/Machine/StMuster.lean ====
section
/-! DEFINITION. State of the muster groups at an aggregator and at the root (07), as plain data. -/

namespace Sys2Proof.Machine

/-- One counted or held child (R178). -/
structure Counted where
  node : BitVec 20
  aggregate : Bool
  arrived : Nat
  expected : Nat
  latest : Stamp
  earliest : BitVec 64
  subst : Bool
  conflict : Bool
  late : Bool
  /-- LATEST and EARLIEST in full: a muster may wait for longer than FT64 can tell (R35) -/
  lateF : FabTime := ⟨0, 0, 0⟩
  earlyF : FabTime := ⟨0, 0, 0⟩
  deriving DecidableEq, Repr

/-- One plane's aggregation of a group (R178 to R188). -/
structure Plane where
  counted : List Counted := []
  /-- for s_cur + 1 (R178) -/
  held : List Counted := []
  /-- the last counted step of each member, for straggler lists (R193) -/
  lastCounted : Table Nat := []
  /-- POWER_ELAPSED of the last aggregate sent (R180) -/
  lastSent : Nat := 0
  /-- DEGRADE: the set is frozen under this binding; FINALs and exclusions received (R188) -/
  frozen : Option GroupCfg := none
  frozenSingles : List Counted := []
  finals : List Counted := []
  excluded : List (BitVec 20) := []
  finalSent : Bool := false
  /-- FINALs and exclusions for s_cur that came before the own freeze (R188) -/
  earlyFinals : List Counted := []
  earlyExcl : List (BitVec 20) := []
  deriving DecidableEq, Repr

/-- GRP_STAT STATE (R194). -/
inductive GroupState where
  | idle | mustering | launching
  deriving DecidableEq, Repr

/-- A LAUNCH as decided or received (R182). -/
structure Launch where
  group : Nat
  step : Nat
  t : BitVec 64
  cut : BitVec 64
  degraded : Bool
  floor : Bool
  forced : Bool
  roleEpoch : Word
  deriving DecidableEq, Repr

/-- A group at this node (R172 to R194). -/
structure Group where
  cfg : GroupCfg := {}
  /-- a binding committed during a muster: it takes effect for the first muster after the step boundary (R173) -/
  cfgNext : Option GroupCfg := none
  /-- STEP (R172) -/
  step : Nat := 0
  state : GroupState := .idle
  planes : List Plane := [{}, {}]
  /-- T of the last launch; in full beside it, since time may step further than FT64 can tell (R35) -/
  lastT : BitVec 64 := 0
  lastAt : FabTime := ⟨0, 0, 0⟩
  /-- CUT of the last degraded launch and its count of contributors (R188, R194) -/
  cut : BitVec 64 := 0
  degContrib : Nat := 0
  /-- the decision parameters of the muster in progress: POLICY, MUSTER_TIMEOUT, LAUNCH_LEAD, BCAST_MIN (R187) -/
  params : Nat × Nat × Nat × Nat := (0, 5000, 24000, 12000)
  /-- STRAGGLE, and DEGRADE_BLOCKED, have been raised in the muster in progress (R187) -/
  straggled : Bool := false
  blocked : Bool := false
  /-- LAUNCHes sent to the twin and not acknowledged, oldest first: POWER_ELAPSED of the last send, broadcast already (R183) -/
  toTwin : List (Launch × Nat × Bool) := []
  latest : Option Launch := none
  /-- POWER_ELAPSED of the last repeat (R184) -/
  lastRepeat : Nat := 0
  /-- this package has arrived for the step (R20) -/
  adjArrived : Nat := 0
  deriving DecidableEq, Repr

/-- A straggler list that runs (R193): STEP at the request, and what this package reports: plane, node, last step counted,
contributor. -/
structure StragRun where
  group : Nat
  ticket : Nat
  step : Nat
  own : List (Nat × BitVec 20 × Nat × Bool)
  deriving DecidableEq, Repr

/-- The muster state of a node, and the straggler operation of the keel (R193). -/
structure MusterSt where
  groups : Table Group := []
  /-- the straggler list that runs -/
  strag : Option StragRun := none
  /-- the step of the launch for which LAUNCH_TAP has fired last, by group (R128) -/
  lastTap : Table Nat := []
  deriving DecidableEq, Repr

end Sys2Proof.Machine
end

