-- ==== Sys2Proof/Machine/StTime.lean ====
section
/-! DEFINITION. State of the time side of a node, as plain data: the counter, intercalations, the servo, the ports
of the timing exchange, the reference sources and selection, pulse outputs, PTP queues, interval channels
(02, 03, 04, 05). Reset values are those of COLD reset unless a field says otherwise. -/

namespace Sys2Proof.Machine

/-- The status of an epoch set (R38, TIME_EPOCH_STATUS of R86). -/
inductive EpochStatus where
  | idle | armed | done | notRoot | bad | refused | busy | noPps
  deriving DecidableEq, Repr

/-- The counter of a node and what stands beside it (R26 to R48). -/
structure Clock where
  /-- the counter (R26); reset zero (R40) -/
  now : FabTime := ⟨0, 0, 0⟩
  /-- VALID (R40) -/
  valid : Bool := false
  /-- UNSURE causes of R44: ACQUIRE, jump pending, and the POWER_ELAPSED at which the step window and the supply-dip
  cause end; `dipOpen` while the dip itself lasts; `copyLost` bit d while die d's copy is out of steering. -/
  causeAcq : Bool := false
  causeJump : Bool := false
  stepUntil : Option Nat := none
  dipUntil : Option Nat := none
  dipOpen : Bool := false
  copyLost : BitVec 8 := 0
  /-- TIME_ADDEND, 32.32 ns (R26); reset nominal -/
  addend : BitVec 64 := 0x00000000CCCCCCCD#64
  /-- how far the last cycle moved the counter, intercalations with it, in 2^-32 ns: what tells a boundary that has just been
  crossed; none before the first cycle; after a step only a boundary hit exactly counts as crossed (R29, R117, R128) -/
  moved : Option Nat := none
  /-- POWER_ELAPSED (R41); only a power cycle clears it -/
  pe : BitVec 64 := 0
  /-- TIME_UNC in ps (R42) -/
  unc : Word := 0xFFFFFFFF#32
  /-- the epoch set that is armed: its value, ALIGN_PPS, POWER_ELAPSED at acceptance (R37) -/
  epochArmed : Option (FabTime × Bool × Nat) := none
  epochStatus : EpochStatus := .idle
  /-- TIME_EPOCH_PE (R37) -/
  epochPe : BitVec 64 := 0
  /-- unspent SLEW request, 2^-32 ns, signed (R72) -/
  slew : Int := 0
  /-- what slews have added to the counter so far, 2^-32 ns: the part of its run that TIME_ADDEND does not give (R72, R99) -/
  slewed : Int := 0
  /-- the oscillator (ev_refclk on the Evxus) is present (R423, R153) -/
  oscOk : Bool := true
  deriving DecidableEq, Repr

/-- An intercalation (R54, R79): sequence number, size in 2^-16 ns, its full APPLY time (R35), the sum including it. -/
structure Ical where
  seq : BitVec 16
  q : Int
  apply : FabTime
  sum : BitVec 32
  deriving DecidableEq, Repr

/-- Intercalations of a node (R77 to R82). -/
structure IcalSt where
  /-- the node knows a sequence (R79) -/
  known : Bool := false
  /-- ICAL_SEQ and ICAL_SUM of the last applied one -/
  seq : BitVec 16 := 0
  sum : BitVec 32 := 0
  /-- announced and not yet applied, at most 8 (R79) -/
  pend : List Ical := []
  /-- the last ones applied, newest first, at most 8, as full APPLY time and size: what ICAL_SUM was at a SYNC's t1 (R35, R81) -/
  recent : List (FabTime × Int) := []
  /-- |Q| in 2^-16 ns added to TIME_UNC by late ones, and the POWER_ELAPSED at which each ends (R80) -/
  late : List (Nat × Nat) := []
  /-- PULL_REMAIN: unsent remainder of the pull, 2^-16 ns (R77, R78) -/
  remain : Int := 0
  /-- full APPLY time of the last intercalation announced or taken (R35, R77) -/
  lastApply : Option FabTime := none
  deriving DecidableEq, Repr

/-- Servo stages (R69, R70; codes of SERVO_STATUS). -/
inductive Stage where
  | hold | acquire | settle | track
  deriving DecidableEq, Repr

/-- JUMP_RESULT (R86). -/
inductive JumpResult where
  | none | applied | ignored | granted
  deriving DecidableEq, Repr

/-- An entry of the measurement FIFO (R72, R87). -/
structure Meas where
  port : Nat
  seq : BitVec 16
  x : Int
  dly : Int
  corr : Int
  deriving DecidableEq, Repr

/-- The servo of a node (R68 to R76). -/
structure Servo where
  open_ : Bool := false
  stage : Stage := .hold
  /-- the integral term in 2^-40 ppb: the gains are 8.24 and the error is in 2^-16 ns (R68, R87) -/
  acc : Int := 0
  /-- the last 16 accepted x_total (or e_net) values, newest first, 2^-16 ns (R68) -/
  filt : List Int := []
  /-- consecutive accepted exchanges below the threshold of the dwell that runs (R69) -/
  dwell : Nat := 0
  /-- accepted exchanges on a new selection so far, while the first 16 are taken (R70) -/
  change : Option Nat := none
  /-- consecutive x_total beyond JUMP_LIMIT, newest first (R70, R74) -/
  overs : List Int := []
  /-- consecutive accepted exchanges within JUMP_LIMIT while a jump is pending (R76) -/
  under : Nat := 0
  jumpPending : Bool := false
  /-- a grant is held (R75) -/
  grant : Bool := false
  /-- a grant that waits for the launch lines or the sequencers (R156, R210) -/
  grantDeferred : Bool := false
  jumpResult : JumpResult := .none
  /-- JUMP_OFFSET (R74), 2^-16 ns -/
  jumpOffset : Int := 0
  /-- the node has taken its acquisition step (R70) -/
  acquired : Bool := false
  /-- POWER_ELAPSED at entry to the stage (R70) -/
  stageSince : Nat := 0
  /-- TIME_UNC at entry to holdover, and POWER_ELAPSED at entry; none outside holdover (R112) -/
  holdEntry : Option (Word × Nat) := none
  /-- SERVO_UNC at entry to HOLD (R66) -/
  holdServoUnc : Word := 0xFFFFFFFF#32
  /-- a source has been selected since COLD reset (R66) -/
  everSelected : Bool := false
  /-- an upstream has been selected since COLD reset, or ev_rst_n (R55) -/
  everUp : Bool := false
  /-- HOPS of the node's last SYNC (R55); 15 before any selection -/
  hops : BitVec 4 := 15
  /-- the addend's history, newest first: POWER_ELAPSED from which it held, the addend, and whether the servo
  was then in SETTLE or TRACK (R111) -/
  hist : List (Nat × BitVec 64 × Bool) := []
  /-- the change of the integral path is limited by FREQ_SLOPE (R97) -/
  sloped : Bool := false
  /-- the measurement FIFO, oldest first (R72) -/
  fifo : List Meas := []
  /-- PATH_UNC of the selected upstream's last SYNC and its HOP_UNC summed (R66) -/
  pathUnc : Word := 0xFFFFFFFF#32
  deriving DecidableEq, Repr

/-- A timing port's role (R88). -/
inductive PortRole where
  | noTiming | serves | follows
  deriving DecidableEq, Repr

/-- The SYNC a downstream holds for the exchange in progress (R54). -/
structure SyncRec where
  seq : BitVec 16
  t1 : Stamp
  t2 : Stamp
  pathUnc : Word
  corr : Int
  corrSat : Bool
  icalSeq : BitVec 16
  icalSum : BitVec 32
  stage : Nat
  hops : Nat
  deriving DecidableEq, Repr

/-- The progress of one timing exchange on a port (R62). -/
structure Exch where
  sync : SyncRec
  /-- the full time of t2 (R35) -/
  begun : FabTime := ⟨0, 0, 0⟩
  /-- SEQ and t3 of the REQ, once sent -/
  req : Option (BitVec 16 × Stamp) := none
  deriving DecidableEq, Repr

/-- One timing port or tap (R49 to R65, R88, R169). -/
structure Port where
  linkUp : Bool := false
  role : PortRole := .noTiming
  /-- MODE code of PORT_TSTAT (R88) -/
  mode : BitVec 3 := 0
  asymValid : Bool := false
  calibrating : Bool := false
  /-- the ticket of the calibration in progress, if one was taken (R61) -/
  calTicket : Option Nat := none
  /-- next SEQ per sent type: SYNC, REQ, RESP, LAUNCH, ARRIVE, INTERCALATE, HEALTH, HELLO -/
  seqs : List (BitVec 16) := [0, 0, 0, 0, 0, 0, 0, 0]
  /-- downstream: the exchange in progress -/
  exch : Option Exch := none
  /-- upstream: the REQ received, its reception stamp, whether the selected link has changed since the SYNC (R64) -/
  reqIn : Option (BitVec 16 × Stamp × Bool) := none
  /-- upstream: the full fabric time of that stamp (R35) -/
  reqAt : FabTime := ⟨0, 0, 0⟩
  /-- upstream: the full fabric time of the last SYNC sent since the link came up (R62) -/
  lastTx : Option FabTime := none
  /-- upstream: the node's selection count when the last SYNC was sent (R64) -/
  selAtSync : Nat := 0
  /-- the full fabric time of the last SYNC received, or of the link coming up (R35, R62) -/
  lastSync : FabTime := ⟨0, 0, 0⟩
  /-- consecutive failed or discarded exchanges (R65) -/
  fails : Nat := 0
  /-- has this row of them been reported as loss of activity? -/
  lossTold : Bool := false
  /-- consecutive accepted exchanges (R98) -/
  oks : Nat := 0
  /-- the last 4,000 accepted delays, newest first, 2^-16 ns (R64) -/
  delays : List Int := []
  /-- consecutive delay-gate discards (R64) -/
  gateRun : Nat := 0
  /-- the delay of the latest such discard -/
  gateDly : Int := 0
  /-- ICAL_SUM differed in the previous SYNC from the selected upstream (R81) -/
  sumDiff : Bool := false
  /-- last x and dly accepted (LAST_OFFSET, LAST_DELAY) -/
  lastX : Int := 0
  lastDly : Int := 0
  /-- the latest SYNC's PATH_UNC, HOPS, VALID, and whether R55 refused it -/
  upPathUnc : Word := 0
  upHops : Nat := 15
  upValid : Bool := false
  upRefused : Bool := false
  deriving DecidableEq, Repr

/-- Reference states (R114). -/
inductive RefState where
  | freerun | acquire | locked | holdover | dispute
  deriving DecidableEq, Repr

/-- One reference source: a pin or a virtual reference (R90 to R103, R120). -/
structure Source where
  active : Bool := false
  freqOk : Bool := false
  freqRej : Bool := false
  driftRej : Bool := false
  outvoted : Bool := false
  mismatch : Bool := false
  qualified : Bool := false
  upHold : Bool := false
  /-- the last R99 frequency, 0.001 ppb -/
  freq : Option Int := none
  /-- per-second frequency values, newest first, 0.001 ppb (R101) -/
  freqs : List Int := []
  /-- the drift slope, 0.0001 ppb/s (R101) -/
  drift : Int := 0
  /-- seconds of unbroken qualification so far (R103) -/
  qualRun : Nat := 0
  /-- seconds within DISPUTE_LIMIT of the median, while OUTVOTED (R102) -/
  voteRun : Nat := 0
  /-- seconds of unbroken eligibility (R106) -/
  eligRun : Nat := 0
  /-- last e of a pin or last x_total, 2^-16 ns (SRC_PHASE) -/
  phase : Int := 0
  /-- POWER_ELAPSED of the last accepted pulse, and consecutive empty windows (R98) -/
  lastPulse : Option Nat := none
  empty : Nat := 0
  /-- POWER_ELAPSED at the last accepted pulse, and its place after that cycle of the counter, 2^-16 ns (R37, R93) -/
  lastEdge : Option (Nat × Nat) := none
  /-- POWER_ELAPSED of the edges of the last second while the pulse part is absent: two of them 1 s apart restore it (R98) -/
  edges : List Nat := []
  /-- a pin in mode PPS: the stamps of the pulses accepted over the last 10 s on the oscillator, POWER_ELAPSED and the place after that
  cycle, newest first (R99) -/
  pulses : List (Nat × Nat) := []
  /-- a virtual reference: POWER_ELAPSED, x_total and what slews had added at the monitor updates of the last 10 s, newest first
  (R99, R109) -/
  win : List (Nat × Int × Int) := []
  /-- a pin with a 10 MHz input: its frequency over each of the last 10 s, newest first, 0.001 ppb (R99) -/
  secs : List Int := []
  /-- BOTH: the pulse part and the 10 MHz part are present (R98) -/
  pulseOk : Bool := false
  freqPart : Bool := false
  /-- what the 100 ns grid is anchored at (R93): BOTH, e of the 10 MHz edge that the pulse selects as the second;
  FREQ10, the phase latched when the pin is selected; 2^-16 ns -/
  grid : Option Int := none
  /-- the place of the last 10 MHz edge of a BOTH pin, 2^-16 ns (R94) -/
  edge : Option Int := none
  deriving DecidableEq, Repr

/-- References, selection and holdover of a node (R90 to R115). -/
structure RefSt where
  /-- REF_A to REF_D are 0 to 3, UPSTREAM_A and UPSTREAM_B are 4 and 5 -/
  srcs : List Source := [{}, {}, {}, {}, {}, {}]
  /-- the port or tap each virtual reference is bound to; none is unbound (R90) -/
  bind : List (Option Nat) := [none, none]
  /-- the priority table in force: RANK and SOURCE of each entry (R105) -/
  table : List (Nat × Nat) := [(0, 15), (0, 15), (0, 15), (0, 15), (0, 15), (0, 15), (0, 15), (0, 15)]
  revertive : Bool := false
  /-- a TABLE_APPLY, a COMMIT or a PAGE_COMMIT waits for the next monitor update: the table and REVERTIVE it applies (R105) -/
  applyPend : Option (List (Nat × Nat) × Bool) := none
  force : Nat := 15
  /-- SELECTED: the entry's index -/
  selected : Option Nat := none
  /-- counts changes of the selection (R64) -/
  selCount : Nat := 0
  state : RefState := .freerun
  tableDup : Bool := false
  tableBad : Bool := false
  /-- REF_STATUS PHASE_FAR (R96) -/
  phaseFar : Bool := false
  /-- the phase relation latched when the phase was far (R96) -/
  farOfs : Int := 0
  /-- the first phase measurement after a selection has not been taken yet (R96) -/
  pullPend : Bool := false
  /-- POWER_ELAPSED at entry to holdover (R113) -/
  holdSince : Option Nat := none
  holdAged : Bool := false
  /-- WARM_TIME, ROOT_WARM, OVEN_WARM (R109, R110) -/
  warmTime : Nat := 0
  rootWarm : Bool := false
  /-- ROOT_WARM has been set since COLD reset: a root that loses it goes on serving (R110) -/
  warmed : Bool := false
  ovenWarm : Bool := false
  /-- seconds for which the disputed pair has agreed (R107) -/
  agreeRun : Nat := 0
  /-- a dispute exists (R107), between these two sources -/
  disputed : Bool := false
  pair : Nat × Nat := (0, 0)
  deriving DecidableEq, Repr

/-- The whole time side of one node. -/
structure NodeSt where
  clk : Clock := {}
  icl : IcalSt := {}
  svo : Servo := {}
  ports : Table Port := []
  ref : RefSt := {}
  deriving DecidableEq, Repr

/-- A transmit stamp entry of an edge port (R85). -/
structure TxqEntry where
  msgId : Byte
  msgType : BitVec 4
  seqId : BitVec 16
  stamp : Stamp
  /-- POWER_ELAPSED at its stamp -/
  at_ : Nat
  deriving DecidableEq, Repr

/-- States of an IEEE 1588 port that an edge port may be in (R83). -/
inductive PtpState where
  | initializing | listening | master | faulty | disabled
  deriving DecidableEq, Repr

/-- One edge port (R83 to R85, R89). Its state stays INITIALIZING, since no rule says what moves it (log entry 54). -/
structure EdgePort where
  queue : List TxqEntry := []
  found : Option TxqEntry := none
  /-- sequenceId and reception stamp of the last Pdelay_Req (R84: the turnaround of a one-step Pdelay_Resp) -/
  lastReq : Option (Nat × Stamp) := none
  state : PtpState := .initializing
  /-- Announce messages received (R83: logged) -/
  announces : List Raw := []
  deriving DecidableEq, Repr

/-- What a pulse output does once its programmed configuration is in force (R116, R117). -/
structure OutCfg where
  mode : Nat := 0
  align : Nat := 0
  offset : Int := 0
  period : Nat := 100
  width : Nat := 100000
  /-- POLARITY: active low (R121) -/
  low : Bool := false
  deriving DecidableEq, Repr

/-- One pulse output (R116 to R119). -/
structure PpsOut where
  cfg : OutCfg := {}
  /-- changes that take effect at the next second boundary (R117) -/
  next : Option OutCfg := none
  running : Bool := false
  flywheel : Bool := false
  /-- a pulse is out: the fabric time of its trailing edge, OUT_WIDTH after the leading one (R116) -/
  fall : Option (BitVec 64) := none
  /-- SQUELCHED (R118, R119) -/
  squelched : Bool := false
  /-- POWER_ELAPSED of the last pulse emitted in PPS mode (R119, R471) -/
  lastPulse : Option Nat := none
  /-- the stamp of the last edge emitted (OUT_LAST) -/
  last : Option Stamp := none
  deriving DecidableEq, Repr

/-- States of an interval channel (R136). -/
inductive TicState where
  | idle | calibrating | running | ended
  deriving DecidableEq, Repr

/-- A calibration of one delay line (R123): k1 and k2 in 1/256 tap. -/
structure TicCal where
  k1 : Nat := 0
  k2 : Nat := 0
  deriving DecidableEq, Repr

/-- The time a channel gives an event (R124), kept exact: the oscillator time in 2^-8 ps, the fabric time, and what
is taken off either, `num` / `den` in 2^-8 ps. -/
structure TicEv where
  osc : Int
  ft : BitVec 64
  num : Int
  den : Nat
  stamp : Stamp
  deriving DecidableEq, Repr

/-- The result group of a channel (R135). -/
structure TicGroup where
  count : Nat := 0
  mean : Int := 0
  sd : Nat := 0
  min : Int := 0
  max : Int := 0
  verdicts : List Nat := [0, 0, 0, 0]
  lastStart : Stamp := ⟨0, 0, false, false⟩
  lastStop : Stamp := ⟨0, 0, false, false⟩
  lastResult : Int := 0
  lastVerdict : Verdict := .void
  /-- CAL_CODES and CAL_GAIN of both lines, which lie within the group -/
  calStart : TicCal := {}
  calStop : TicCal := {}
  deriving DecidableEq, Repr

/-- One interval channel (R122 to R136). -/
structure Tic where
  state : TicState := .idle
  fault : Nat := 0
  partial_ : Bool := false
  ticket : Option Nat := none
  calStart : TicCal := {}
  calStop : TicCal := {}
  /-- the open window: its start event -/
  win : Option TicEv := none
  /-- POWER_ELAPSED at which it opened -/
  winPe : Nat := 0
  /-- a stop was accepted in the open window; an intercalation has been applied since it opened -/
  winHit : Bool := false
  winIcal : Bool := false
  /-- running results (R132) -/
  n : Nat := 0
  s1 : Int := 0
  s2 : Nat := 0
  min : Int := 0
  max : Int := 0
  verdicts : List Nat := [0, 0, 0, 0]
  lastStart : Stamp := ⟨0, 0, false, false⟩
  lastStop : Stamp := ⟨0, 0, false, false⟩
  lastResult : Int := 0
  lastVerdict : Verdict := .void
  group : TicGroup := {}
  /-- POWER_ELAPSED of the last accepted result, or of RUNNING (R131), and of the last calibration (R123) -/
  lastAccept : Nat := 0
  lastCal : Nat := 0
  /-- a recalibration is in progress: events are lost (R123) -/
  recal : Bool := false
  /-- the last event per input, by source × 2, plus 1 on the stop line, and POWER_ELAPSED at it: the dead time runs from it (R126) -/
  dead : Table (Nat × TicEv) := []
  deriving DecidableEq, Repr

end Sys2Proof.Machine
end

