-- ==== Sys2Proof/Machine/StTwin.lean ====
section
/-! DEFINITION. State of the pair, of the convoy and of the rehearsals (16), as plain data. Reset values are those of
COLD reset (R395). -/

namespace Sys2Proof.Machine

/-- The mode of a pair (R373, TWIN_STAT MODE). -/
inductive PairMode where
  | split | solo | shadow
  deriving DecidableEq, Repr

/-- The state of the twin link (R376, TWIN_STAT LINK). -/
inductive TwinLink where
  | up | linkLost | partnerLost | noPartner
  deriving DecidableEq, Repr

/-- ADMIT_STATE (R391, R395). -/
inductive AdmitStage where
  | none | bist | almanac | restore | compare | promoting
  deriving DecidableEq, Repr

/-- The state of a convoy position (R395, CONV_MEMBER). -/
inductive ConvPos where
  | current | erased | rebuilt | absent
  deriving DecidableEq, Repr

/-- CONV_STAT STATE (R395). -/
inductive ConvState where
  | healthy | rebuilding | exposed | lost
  deriving DecidableEq, Repr

/-- The drill that runs (R393). -/
structure Drill where
  code : Nat
  /-- steps left of a drill that lasts REH_STEPS -/
  steps : Nat
  number : Nat
  /-- SOLO_DRILL: this package is the one that stops; ROOT_HANDOVER: it gave the role away -/
  here : Bool := false
  /-- POWER_ELAPSED at which it fired -/
  since : Nat := 0
  /-- TWIN_CUT: LINK_LOST has been seen; the link has been let go again -/
  lost : Bool := false
  freed : Bool := false
  deriving DecidableEq, Repr

/-- A bale's parity deltas as they come in (R387): the sender's position, set, bale, the frames in, and the rows' deltas. -/
structure DeltaIn where
  src : Nat
  set : Nat
  bale : Nat
  frames : List Nat
  rows : List (Nat × List Byte)
  /-- frames of the bale, and what the stacks answer to the reads (R288) -/
  total : Nat := 1
  ecc : StackEcc := {}
  deriving DecidableEq, Repr

/-- An alternate in force: lost package, group, and the bindings and segments that stood before it (R382, R391). -/
structure ActiveAlt where
  lost : Nat
  group : Nat
  ws : List (Nat × WsCfg)
  tcam : List (Nat × Nat × Table (BitVec 128))
  deriving DecidableEq, Repr

/-- The pair, the convoy and the rehearsals (R373 to R395). -/
structure TwinSt where
  mode : PairMode := .solo
  link : TwinLink := .up
  primary : Bool := false
  roleEpoch : Word := 0
  newcomer : Bool := false
  /-- the package has left the pair's service until an admission or a hall COMMIT: its working twin was lost, its shadow ended, or it was
  reset WARM (R374, R431) -/
  stopped : Bool := false
  /-- the partner is a 700-series package (R392) -/
  partner700 : Bool := false
  /-- data lanes of the twin link, of 1 to 31, that are not trained (R375) -/
  lanesLost : List Nat := []
  /-- the last heartbeat had an unexpected chip identifier: the link counts as down (R375) -/
  badChip : Bool := false
  /-- POWER_ELAPSED of the last heartbeat received and sent; of the start of probing; of the last probe and answer -/
  lastHb : Option Nat := none
  lastTx : Option Nat := none
  probing : Option Nat := none
  lastProbe : Nat := 0
  lastAnswer : Option Nat := none
  /-- chip identifier of the last heartbeat taken (R374, R375) -/
  hbChip : Option (BitVec 64) := none
  /-- the partner is held for want of budget (R408) -/
  partnerHeld : Bool := false
  mirror : List Mirror := []
  /-- EARLIEST of the mirrored group records in full, by group (R35) -/
  mirrorFirst : Table FabTime := []
  /-- S_ALT, and s_alt per group of alternates that wait: group, step, lost package -/
  sAlt : Nat := 0
  alts : List (Nat × Nat × Nat) := []
  /-- alternates in force: lost package, group, and the bindings that stood before them (R391 retires them) -/
  activeAlts : List ActiveAlt := []
  /-- notices that alternates retire: lost package, and the step of each group (R391) -/
  retires : List (Nat × Nat × Nat) := []
  /-- the chip identifier of the newcomer that an admission took (R375) -/
  peerChip : Option (BitVec 64) := none
  adm : AdmitStage := .none
  /-- the ticket of the admission, and whether it is a compatibility admission (R392) -/
  admitTicket : Option Nat := none
  compat : Bool := false
  admitMatch : Nat := 0
  compared : Nat := 0
  restored : Nat := 0
  restoreDone : Bool := false
  /-- the state of the convoy of the newcomer's position, as the newcomer reports it to the working twin (R390) -/
  partnerConv : ConvState := .healthy
  /-- convoy positions, CONV_STEP, the set of rebuild (R388) -/
  positions : List ConvPos := [.absent, .absent, .absent, .absent, .absent, .absent, .absent, .absent]
  member : Bool := false
  convState : ConvState := .healthy
  convStep : Nat := 0
  rebuilt : Nat := 0
  rebuildTotal : Nat := 0
  /-- parity deltas whose frames are not all in (R387) -/
  deltas : List DeltaIn := []
  /-- bales that wait for a parity acknowledgement: set, bale, positions of the holders (R387) -/
  deltaPend : List (Nat × Nat × List Nat) := []
  /-- rehearsals (R393, R394): FT64 at which the next falls due, the code due, POWER_ELAPSED since when it is deferred -/
  rehNext : FabTime := ⟨0, 0, 0⟩
  rehDue : Option Nat := none
  rehNow : Option Nat := none
  deferSince : Option Nat := none
  lastCode : Nat := 0
  drill : Option Drill := none
  rehNumber : Nat := 0
  /-- the plane whose package the last SOLO_DRILL of the pair stopped (R393) -/
  soloLast : Option Nat := none
  deriving DecidableEq, Repr

end Sys2Proof.Machine
end

