-- ==== Sys2Proof/Machine/State.lean ====
section
/-! DEFINITION. The state of one Adejan package and one Evxus block, the reasons a command can stop, and the state
after COLD reset. -/

namespace Sys2Proof.Machine

/-- What is fixed in a part when it is made or placed (R1, R17, R137, R162, R452): identities, variant, the role and
the taps of the Evxus block. No command changes it. -/
structure Straps where
  /-- 0 A800, 1 A400, 2 A200 (R17, R452) -/
  variant : Nat := 0
  /-- CHIP_ID (R335, R452) -/
  chip : BitVec 64 := 1
  /-- spare columns in use, by reduce die × 256 + bank: fixed at manufacture (R278) -/
  spares : Table Nat := []
  /-- the pair's plane this package stands in: false A, true B -/
  planeB : Bool := false
  /-- EV_CONFIG: role RELAY, timing taps, the pins ev_cfg_grade (1 contract, 2 part, other values none), integrator code
  (R137, R140, R162) -/
  evRelay : Bool := false
  evTaps : Nat := 2
  evGrade : BitVec 2 := 2#2
  evBuild : Word := 0
  /-- transport of each edge port: 0 Ethernet, 1 UDP over IPv4, 2 UDP over IPv6 (R84; log entry 54) -/
  transport : Table Nat := []
  deriving DecidableEq, Repr

/-- The state. -/
structure State where
  /-- commands that wait, first in first out -/
  pending : List Instr
  straps : Straps
  /-- the stored register bits: RW, RWS, RW1C and RC fields, and results that hardware leaves in a read-only field; an
  unlisted word reads as its reset value -/
  regs : Table Word
  /-- staged words of RWC fields, by address (R9) -/
  staged : Table (Option Word)
  keel : NodeSt
  evx : NodeSt
  ptp : Table EdgePort
  outs : Table PpsOut
  tics : Table Tic
  ev : EvSt
  mus : MusterSt
  evMus : MusterSt
  die : DieSt
  cfg : HwCfg
  alm : AlmSt
  rt : RouteSt
  tw : TwinSt
  hl : HealthSt
  host : HostSt
  clks : ClkSt
  /-- what the block has sent, newest first -/
  out : List Out
  /-- the model's own counter of free values taken; the spec gives no such thing -/
  free : Nat
  deriving DecidableEq, Repr

/-- Why a command would end with a fault. The spec describes no condition on which the block stops. -/
inductive Fault where
  /-- raised by no command: the spec gives every command an effect. Safe. -/
  | stopped
  deriving DecidableEq, Repr

/-- Why a command has no meaning in the model. -/
inductive Refusal where
  /-- raised by exec for a command whose meaning is not written yet. Safe: nothing can be proved of such a step. -/
  | notModelled (mnemonic : String)
  deriving DecidableEq, Repr

/-- An answer of a command. -/
abbrev Answer := Host.Outcome State Fault Refusal

/-- The state right after COLD reset: every register at the value of the Reset column (R10), where the spec gives
none at zero (log entry 2); nothing waits. -/
def State.reset : State where
  pending := []
  straps := {}
  regs := []
  staged := []
  keel := {}
  evx := {}
  ptp := []
  outs := []
  tics := []
  ev := {}
  mus := {}
  evMus := {}
  die := {}
  cfg := {}
  alm := {}
  rt := {}
  tw := {}
  hl := {}
  host := {}
  clks := {}
  out := []
  free := 0

end Sys2Proof.Machine
end

