-- ==== Sys2Proof/Machine/Table.lean ====
section
/-! DEFINITION. Tables with numeric keys: ascending, and listing no entry equal to what an unlisted key reads as,
so that equal contents are equal data. Registers, ports, banks, tallies, memories are all kept this way. -/

namespace Sys2Proof.Machine

variable {α : Type}

/-- The entry listed under a key. -/
def tfind (k : Nat) : Table α → Option α
  | [] => none
  | (k', v) :: r => if k' = k then some v else tfind k r

/-- The value under a key; `d` is what an unlisted key reads as. -/
def tget (d : α) (t : Table α) (k : Nat) : α := (tfind k t).getD d

/-- Insert or replace an entry, in key order. -/
def tput (k : Nat) (v : α) : Table α → Table α
  | [] => [(k, v)]
  | (k', v') :: r =>
    if k' < k then (k', v') :: tput k v r
    else if k' = k then (k, v) :: r
    else (k, v) :: (k', v') :: r

/-- Remove every entry of a key. -/
def tdel (k : Nat) (t : Table α) : Table α := t.filter (fun e => e.1 != k)

/-- Write a value under a key, keeping the canonical form. -/
def tset [DecidableEq α] (d : α) (t : Table α) (k : Nat) (v : α) : Table α :=
  if v = d then tdel k t else tput k v t

/-- Keys strictly rising. -/
def tsorted : Table α → Bool
  | [] => true
  | [_] => true
  | (a, _) :: (b, v) :: r => decide (a < b) && tsorted ((b, v) :: r)

/-- The canonical form: keys strictly rising, and no entry equal to what an unlisted key reads as. -/
def twf [DecidableEq α] (d : α) (t : Table α) : Bool := tsorted t && t.all (fun e => e.2 != d)

/-- Apply a change to the value under a key. -/
def tmod [DecidableEq α] (d : α) (t : Table α) (k : Nat) (f : α → α) : Table α := tset d t k (f (tget d t k))

/-- Keep the entries whose key satisfies a test. -/
def tkeep (p : Nat → Bool) (t : Table α) : Table α := t.filter (fun e => p e.1)

end Sys2Proof.Machine
end

