-- ==== Sys2Proof/Machine/Regs.lean ====
section
/-! DEFINITION. Reading and writing stored register bits, counters and flags, the outbox, and free values. -/

namespace Sys2Proof.Machine

/-- The stored bits of a register: what was last put there, else its reset value (R10). -/
def rd (s : State) (a : Nat) : Word := (tfind a s.regs).getD (resetOf a)

/-- Store a register's bits, keeping the table canonical. -/
def wr (a : Nat) (v : Word) (s : State) : State :=
  { s with regs := if v = resetOf a then tdel a s.regs else tput a v s.regs }

/-- A field of a register. -/
def rf (s : State) (a lo len : Nat) : Nat := bits (rd s a) lo len

/-- A whole register as a number. -/
def rn (s : State) (a : Nat) : Nat := (rd s a).toNat

/-- Write a field of a register. -/
def wf (a lo len v : Nat) (s : State) : State := wr a (setBits (rd s a) lo len v) s

/-- Write a whole register with a number. -/
def wn (a v : Nat) (s : State) : State := wr a (BitVec.ofNat 32 v) s

/-- Read a flag. -/
def flag (s : State) (a i : Nat) : Bool := bit (rd s a) i

/-- Set a sticky bit (R9: hardware sets the bit). -/
def setFlag (a i : Nat) (s : State) : State := wr a (rd s a ||| BitVec.ofNat 32 (2 ^ i)) s

/-- Clear a bit. -/
def clrFlag (a i : Nat) (s : State) : State := wr a (rd s a &&& ~~~ BitVec.ofNat 32 (2 ^ i)) s

/-- Put a bit to a value. -/
def putFlag (a i : Nat) (v : Bool) (s : State) : State := if v then setFlag a i s else clrFlag a i s

/-- Count one in a counter; it wraps at its width, which the spec leaves open (log entry 7). -/
def bump (a : Nat) (s : State) : State := wr a (rd s a + 1) s

/-- Count `k` in a counter (log entry 7). -/
def bumpBy (a k : Nat) (s : State) : State := wr a (rd s a + BitVec.ofNat 32 k) s

/-- Count in a field of a counter register (log entry 7). -/
def bumpField (a lo len : Nat) (s : State) : State := wf a lo len (rf s a lo len + 1) s

/-- A 64-bit register as a number. -/
def rn64 (s : State) (a : Nat) : Nat := rn s a + 2 ^ 32 * rn s (a + 4)

/-- Write a 64-bit register. -/
def wn64 (a v : Nat) (s : State) : State := wn (a + 4) (v / 2 ^ 32) (wn a v s)

/-- Count `k` in a 64-bit counter (log entry 7). -/
def bump64 (a k : Nat) (s : State) : State := wn64 a (rn64 s a + k) s

/-- Count one timing-dependent choice: its component and the total, which stop at their largest value (R331). -/
def bumpNdet (a : Nat) (s : State) : State :=
  let up (b : Nat) (s : State) : State := wn64 b (min (rn64 s b + 1) (2 ^ 64 - 1)) s
  up a (up A.NDET_COUNT s)

/-- The RWC and RC bits of a register (R9). -/
def rwcMask (a : Nat) : Word := match regRow a with | some r => BitVec.ofNat 32 r.rwc | none => 0
def rcMask (a : Nat) : Word := match regRow a with | some r => BitVec.ofNat 32 r.rc | none => 0

/-- The staged words of a range of addresses take effect, and the stage is empty there (R9). -/
def commitStaged (lo hi : Nat) (s : State) : State :=
  let mine := s.staged.filter (fun e => decide (lo ≤ e.1) && decide (e.1 < hi))
  let s1 := { s with staged := s.staged.filter (fun e => !(decide (lo ≤ e.1) && decide (e.1 < hi))) }
  mine.foldl (fun s e => match e.2 with
    | some v => wr e.1 ((rd s e.1 &&& ~~~ rwcMask e.1) ||| (v &&& rwcMask e.1)) s
    | none => s) s1

/-- A register as the stage holds it: RWC bits as staged, if they are (R9). -/
def rdStaged (s : State) (a : Nat) : Word :=
  match tget none s.staged a with
  | some v => (rd s a &&& ~~~ rwcMask a) ||| (v &&& rwcMask a)
  | none => rd s a

/-- The read-only bits of the register at an address (R9). -/
def roMask (a : Nat) : Word := match regRow a with | some r => BitVec.ofNat 32 r.ro | none => 0

/-- The RC fields of a range of addresses are cleared. -/
def clearRc (lo hi : Nat) (s : State) : State :=
  s.regs.foldl (fun s e => if lo ≤ e.1 ∧ e.1 < hi then wr e.1 (rd s e.1 &&& ~~~ rcMask e.1) s else s) s

/-- A word from fields (value, least significant bit). -/
def packW (l : List (Nat × Nat)) : Word := BitVec.ofNat 32 (l.foldl (fun a x => a + x.1 * 2 ^ x.2) 0)

/-- Send something out. -/
def emit (o : Out) (s : State) : State := { s with out := o :: s.out }

/-- Send several things, in order. -/
def emitAll (l : List Out) (s : State) : State := l.foldl (fun s o => emit o s) s

/-- A free value, and the state that has used it up (log entry 4). -/
def takeFree (s : State) : Nat × State := (Config.freeNat s.free, { s with free := s.free + 1 })

/-- Apply a change under a condition. -/
def whenDo (c : Bool) (f : State → State) (s : State) : State := if c then f s else s

/-- Apply a change for every element of a list. -/
def forAll {α : Type} (l : List α) (f : α → State → State) (s : State) : State := l.foldl (fun s x => f x s) s

/-- The time side of a node. -/
def nd (s : State) : Node → NodeSt
  | .keel => s.keel
  | .evxus => s.evx

/-- Change the time side of a node. -/
def setNd (n : Node) (x : NodeSt) (s : State) : State :=
  match n with
  | .keel => { s with keel := x }
  | .evxus => { s with evx := x }

/-- Apply a change to the time side of a node. -/
def modNd (n : Node) (f : NodeSt → NodeSt) (s : State) : State := setNd n (f (nd s n)) s

/-- Change the counter side of a node. -/
def modClk (n : Node) (f : Clock → Clock) (s : State) : State := modNd n (fun x => { x with clk := f x.clk }) s

/-- Change the servo of a node. -/
def modSvo (n : Node) (f : Servo → Servo) (s : State) : State := modNd n (fun x => { x with svo := f x.svo }) s

/-- Change the intercalations of a node. -/
def modIcl (n : Node) (f : IcalSt → IcalSt) (s : State) : State := modNd n (fun x => { x with icl := f x.icl }) s

/-- Change the references of a node. -/
def modRef (n : Node) (f : RefSt → RefSt) (s : State) : State := modNd n (fun x => { x with ref := f x.ref }) s

/-- A port or tap of a node. -/
def port (s : State) (n : Node) (p : Nat) : Port := tget {} (nd s n).ports p

/-- Change a port or tap of a node. -/
def modPort (n : Node) (p : Nat) (f : Port → Port) (s : State) : State :=
  modNd n (fun x => { x with ports := tmod {} x.ports p f }) s

/-- The timing role of a port: what the port map says; of the twin link, in SHADOW the newcomer follows the working twin, and in a root
pair the primary root serves its twin (R373, R379, R380). -/
def portRole (s : State) (n : Node) (p : Nat) : PortRole :=
  match n with
  | .evxus => (port s n p).role
  | .keel =>
    if p ≠ 512 then (port s n p).role
    else if s.tw.mode = .shadow then (if s.tw.newcomer then .follows else .serves)
    else if s.cfg.hall.rootPair then (if s.tw.primary then .serves else .follows)
    else (port s n p).role

/-- Change the muster side of a node. -/
def mus (s : State) : Node → MusterSt
  | .keel => s.mus
  | .evxus => s.evMus

/-- Change the muster side of a node. -/
def setMus (n : Node) (m : MusterSt) (s : State) : State :=
  match n with
  | .keel => { s with mus := m }
  | .evxus => { s with evMus := m }

/-- A group at a node. -/
def grp (s : State) (n : Node) (k : Nat) : Group := tget {} (mus s n).groups k

/-- Change a group at a node. -/
def modGrp (n : Node) (k : Nat) (f : Group → Group) (s : State) : State :=
  let m := mus s n
  setMus n { m with groups := tmod {} m.groups k f } s

/-- POWER_ELAPSED of a node, in cycles of its 1.25 GHz timing clock (R41, R471). -/
def pe (s : State) (n : Node) : Nat := (nd s n).clk.pe.toNat

/-- Cycles of the 1.25 GHz timing clock in some microseconds (R41). -/
def usCyc (us : Nat) : Nat := 1250 * us

/-- Seconds in cycles of the timing clock. -/
def secC (n : Nat) : Nat := 1250000000 * n

/-- Is die `d` present (R17, R452)? -/
def diePresent (s : State) (d : Nat) : Bool :=
  match s.straps.variant with
  | 0 => decide (d < 8)
  | 1 => d == 0 || d == 1 || d == 2 || d == 5
  | _ => d == 0 || d == 1

/-- The clock side of a die. -/
def clkDie (s : State) (d : Nat) : DieClk := tget {} s.clks.dies d

/-- First and last address of the register window of the Evxus (log entry 3). -/
abbrev evLo : Nat := 0x4000000
abbrev evHi : Nat := 0x4001000

/-- The die-present mask of PKG_VARIANT (R452). -/
def dieMask (s : State) : Nat :=
  match s.straps.variant with
  | 0 => 0xFF
  | 1 => 0x27
  | _ => 0x03

/-- DET_KEY (R325): the stepping B1, the firmware, the almanac format 7, and QNT_ARITH. -/
def detKey (s : State) : BitVec 128 :=
  0x000000B1#32 ++ BitVec.ofNat 32 s.clks.fw ++ 0x00000007#32 ++ 0x00000A01#32

/-- Are the keel lane and at least 8 of the 32 lanes of the twin link trained (R375)? -/
def twinTrained (s : State) : Bool := (port s .keel 512).linkUp && decide (s.tw.lanesLost.length ≤ 24)

/-- Is the twin link up (R375)? One whose heartbeat has an unexpected chip identifier counts as down. -/
def twinUp (s : State) : Bool := twinTrained s && !s.tw.badChip

/-- The dies that are present. -/
def dies (s : State) : List Nat := (List.range 8).filter (diePresent s)

end Sys2Proof.Machine
end

