-- ==== Sys2Proof/Machine/Time.lean ====
section
/-! DEFINITION. Fabric time (02): arithmetic on full times and on FT64, the order verdict, VALID and UNSURE, stamps. -/

namespace Sys2Proof.Machine

/-- Nanoseconds in a second. -/
abbrev nsPerSec : Nat := 1000000000

/-- A full time as a count of 2^-32 ns. -/
def fabUnits (t : FabTime) : Nat := (t.sec.toNat * nsPerSec + t.ns.toNat) * 2 ^ 32 + t.frac.toNat

/-- The full time of a count of 2^-32 ns; the seconds wrap at 2^48 (R28). -/
def fabOfUnits (u : Nat) : FabTime where
  sec := BitVec.ofNat 48 (u / 2 ^ 32 / nsPerSec)
  ns := BitVec.ofNat 30 (u / 2 ^ 32 % nsPerSec)
  frac := BitVec.ofNat 32 (u % 2 ^ 32)

/-- One full cycle of FT128, in 2^-32 ns. -/
abbrev fullCycle : Nat := 2 ^ 48 * nsPerSec * 2 ^ 32

/-- A full time moved by some 2^-32 ns, with the carry of R28. -/
def fabAdd (t : FabTime) (d : Int) : FabTime := fabOfUnits (((fabUnits t : Int) + d) % (fullCycle : Int)).toNat

/-- The FT64 of a full time: 18 bits of seconds, nanoseconds, 16 bits of fraction (R32). -/
def fabFt64 (t : FabTime) : BitVec 64 :=
  BitVec.ofNat 64 ((t.sec.toNat % 2 ^ 18) * 2 ^ 46 + t.ns.toNat * 2 ^ 16 + t.frac.toNat / 2 ^ 16)

/-- The full time that an FT64 field set denotes within the first 2^18 seconds. -/
def ftSec (f : BitVec 64) : Nat := f.toNat / 2 ^ 46
def ftNs (f : BitVec 64) : Nat := f.toNat / 2 ^ 16 % 2 ^ 30
def ftFrac (f : BitVec 64) : Nat := f.toNat % 2 ^ 16

/-- One full cycle of FT64, in 2^-16 ns (R34). -/
abbrev ftCycle : Nat := 2 ^ 18 * nsPerSec * 65536

/-- The signed difference b − a of two FT64 values, in 2^-16 ns (R34). -/
def ftDiff (b a : BitVec 64) : Int :=
  let ds : Nat := (ftSec b + 2 ^ 18 - ftSec a) % 2 ^ 18
  let raw : Int := (ds * nsPerSec * 65536 : Nat) + ((ftNs b : Int) - ftNs a) * 65536 + ((ftFrac b : Int) - ftFrac a)
  let d : Int := raw % (ftCycle : Int)
  if d ≥ (ftCycle / 2 : Nat) then d - ftCycle else d

/-- The FT64 of a count of 2^-16 ns. -/
def ftOf (u : Nat) : BitVec 64 :=
  BitVec.ofNat 64 ((u / 65536 / nsPerSec % 2 ^ 18) * 2 ^ 46 + (u / 65536 % nsPerSec) * 2 ^ 16 + u % 65536)

/-- An FT64 as a count of 2^-16 ns. -/
def ftUnits (f : BitVec 64) : Nat := (ftSec f * nsPerSec + ftNs f) * 65536 + ftFrac f

/-- An FT64 moved by some 2^-16 ns. -/
def ftAdd (f : BitVec 64) (d : Int) : BitVec 64 := ftOf (((ftUnits f : Int) + d) % (ftCycle : Int)).toNat

/-- "at or after T": the signed difference from T is zero or positive (R8). -/
def atOrAfter (x t : BitVec 64) : Bool := decide (0 ≤ ftDiff x t)

/-- The signed difference of two full times, in 2^-32 ns (R34 with 2^48). -/
def fullDiff (b a : FabTime) : Int :=
  let d : Int := ((fabUnits b : Int) - fabUnits a) % (fullCycle : Int)
  if d ≥ (fullCycle / 2 : Nat) then d - fullCycle else d

/-- "at or after T" between full times, which lie further apart than an FT64 can tell (R8, R35). -/
def fullAtOrAfter (x t : FabTime) : Bool := decide (0 ≤ fullDiff x t)

/-- Widening an FT64 value near a full time (R36). -/
def ftWiden (f : BitVec 64) (r : FabTime) : FabTime :=
  let k0 : Int := ((ftSec f : Int) - (r.sec.toNat % 2 ^ 18 : Nat)) % (2 ^ 18 : Nat)
  let k : Int := if k0 ≥ (2 ^ 17 : Nat) then k0 - (2 ^ 18 : Nat) else k0
  { sec := BitVec.ofInt 48 (r.sec.toNat + k), ns := BitVec.ofNat 30 (ftNs f), frac := BitVec.ofNat 32 (ftFrac f * 65536) }

/-- A length in ns as 2^-16 ns. -/
def nsU (ns : Nat) : Nat := ns * 65536

/-- A length in µs as 2^-16 ns. -/
def usU (us : Nat) : Nat := us * 1000 * 65536

/-- A length in ps as 2^-16 ns, to nearest, ties to even. -/
def psU (ps : Int) : Int := divRNE (ps * 65536) 1000

/-- The status word of a stamp record (R33). -/
def stampStatus (t : Stamp) : Word :=
  BitVec.ofNat 32 (t.unc.toNat * 256 + b2n t.unsure * 2 + b2n t.valid)

/-- A stamp record as the 12 bytes of the wire (R33). -/
def stampBytes (t : Stamp) : List Byte := toBE 8 t.ft.toNat ++ toBE 4 (stampStatus t).toNat

/-- A stamp record read from 12 bytes of the wire (R33). -/
def stampOfBytes (l : List Byte) : Stamp where
  ft := BitVec.ofNat 64 (getBE l 0 8)
  unc := BitVec.ofNat 24 (getBE l 8 3)
  unsure := bitsN (getBE l 11 1) 1 1 == 1
  valid := bitsN (getBE l 11 1) 0 1 == 1

/-- The three register words of a stamp record (R33). -/
def stampWords (t : Stamp) : List Word := [BitVec.ofNat 32 t.ft.toNat, BitVec.ofNat 32 (t.ft.toNat / 2 ^ 32), stampStatus t]

/-- The order verdict of two stamp records: of `a` with respect to `b` (R46). -/
def orderVerdict (sa sb : Stamp) : Verdict :=
  if !sa.valid || !sb.valid then .void
  else if sa.unsure || sb.unsure then .indistinct
  else if sa.unc = 0xFFFFFF#24 || sb.unc = 0xFFFFFF#24 then .indistinct
  else
    let d := ftDiff sb.ft sa.ft
    let u : Int := (sa.unc.toNat + sb.unc.toNat) * 65536
    if d * 1000 > u then .before
    else if -d * 1000 > u then .after
    else .indistinct

/-- The 2-bit code of a verdict (R47). -/
def verdictCode : Verdict → Nat
  | .void => 0
  | .before => 1
  | .after => 2
  | .indistinct => 3

/-- The node's own time now. -/
def now (s : State) (n : Node) : FabTime := (nd s n).clk.now

/-- The node's own time now as FT64. -/
def now64 (s : State) (n : Node) : BitVec 64 := fabFt64 (now s n)

/-- The full time of an FT64 near a node's own time: how times that wait or are kept are held (R35, R36). -/
def widen (s : State) (n : Node) (t : BitVec 64) : FabTime := ftWiden t (now s n)

/-- An FT64 as a register takes it: nanoseconds past their range take its limit (R32, R472). -/
def ftClamp (f : BitVec 64) : BitVec 64 :=
  if ftNs f < nsPerSec then f else BitVec.ofNat 64 (ftSec f * 2 ^ 46 + 999999999 * 2 ^ 16 + ftFrac f)

/-- How long ago a full time of the node is, in 2^-32 ns (R35). -/
def sinceThen (s : State) (n : Node) (t : FabTime) : Int := fullDiff (now s n) t

/-- A length in µs as 2^-32 ns. -/
def usFull (us : Nat) : Nat := us * 1000 * 2 ^ 32

/-- How far the last cycle moved a counter, in 2^-32 ns. -/
def lastCycle (c : Clock) : Nat := c.moved.getD c.addend.toNat

/-- 100 ns and a second in 2^-16 ns. -/
abbrev grid100 : Nat := 6553600
abbrev secU : Nat := 65536000000000

/-- The residue of a length nearest zero, modulo `m`. -/
def cres (x : Int) (m : Nat) : Int := let r := x % (m : Int); if r * 2 > m then r - m else r

/-- Is a cause of UNSURE present, die copies apart (R44)? -/
def unsure (s : State) (n : Node) : Bool :=
  let c := (nd s n).clk
  c.causeAcq || c.causeJump || c.stepUntil.isSome || c.dipOpen || c.dipUntil.isSome

/-- TIME_UNC as it reads: unbounded while VALID = 0 (R42). -/
def timeUnc (s : State) (n : Node) : Nat :=
  let c := (nd s n).clk
  if c.valid then c.unc.toNat else 0xFFFFFFFF

/-- UNC of a stamp: the uncertainty plus the sampling period, in ps, clamped (R45). -/
def stampUnc (u period : Nat) : BitVec 24 := BitVec.ofNat 24 (min (u + period) 0xFFFFFF)

/-- A stamp of a node at an FT64, with a sampling period in ps (R45). -/
def stampAt (s : State) (n : Node) (t : BitVec 64) (period : Nat) : Stamp where
  ft := t
  unc := stampUnc (timeUnc s n) period
  unsure := unsure s n
  valid := (nd s n).clk.valid

/-- A stamp with the cause of UNSURE that a die's copy of time adds while it is out of steering (R44, R422). -/
def withCopy (s : State) (d : Nat) (t : Stamp) : Stamp :=
  { t with unsure := t.unsure || (decide (1 ≤ d) && decide (d ≤ 6) && s.keel.clk.copyLost.getLsbD d) }

/-- A stamp of a die of the package now: dies 1 to 6 keep a copy with 60 ps more, and their own cause of UNSURE; the
clock that samples is the 1.25 GHz one (R43 to R45). DESIGN CHOICE (log entry 53): the copy shows the keel's own time, where
the spec leaves it a residual of up to 60 ps, and a freewheeling value while it is out of steering. -/
def stampDie (s : State) (d : Nat) : Stamp :=
  withCopy s d (stampAt s .keel (now64 s .keel) ((if 1 ≤ d ∧ d ≤ 6 then 60 else 0) + 800))

end Sys2Proof.Machine
end

