-- ==== Sys2Proof/Machine/Group.lean ====
section
/-! DEFINITION. What a muster group's record says at a node: its planes, members and arrivals, and whether a muster is in progress
(R175 to R181, R187, R190). -/

namespace Sys2Proof.Machine

/-- The package's own plane: 0 A, 1 B. -/
def ownPlane (s : State) : Nat := b2n s.straps.planeB

/-- A plane of a group. -/
def planeOf (g : Group) (q : Nat) : Plane := g.planes.getD q {}

/-- The planes that a node aggregates. -/
def nodePlanes (s : State) : Node → List Nat
  | .keel => [ownPlane s]
  | .evxus => [0, 1]

/-- The child aggregators of a plane: those below the twin link belong to the other one. -/
def planeKids (s : State) (n : Node) (c : GroupCfg) (q : Nat) : List ChildAgg :=
  match n with
  | .keel => c.children.filter (fun y => (y.port == 512) != (q == ownPlane s))
  | .evxus => c.children

/-- Members of a plane's subtree at a node (R176): bound here, this package as a contributor, and below child aggregators. At
the root the other plane's number is the one its aggregate gives. -/
def planeExpected (s : State) (n : Node) (k q : Nat) : Nat :=
  let g := grp s n k
  if nodePlanes s n |>.contains q then
    g.cfg.members.length + b2n g.cfg.adjContrib +
      (planeKids s n g.cfg q).foldl (fun a c => a + c.below.length) 0
  else (planeOf g q).counted.foldl (fun a c => a + c.expected) 0

/-- Members counted in a plane (R178). -/
def planeArrived (g : Group) (q : Nat) : Nat := (planeOf g q).counted.foldl (fun a c => a + c.arrived) 0

/-- Is a plane COMPLETE (R176)? -/
def planeComplete (s : State) (n : Node) (k q : Nat) : Bool :=
  let g := grp s n k
  !(planeOf g q).counted.isEmpty && planeArrived g q == planeExpected s n k q

/-- The counted arrival with the latest LATEST, and that with the earliest EARLIEST, by signed difference of the full times
(R178, R35). -/
def latestOf : List Counted → Option Counted
  | [] => none
  | c :: r => some (r.foldl (fun a x => if 0 < fullDiff x.lateF a.lateF then x else a) c)
def earliestOf : List Counted → Option Counted
  | [] => none
  | c :: r => some (r.foldl (fun a x => if fullDiff x.earlyF a.earlyF < 0 then x else a) c)

/-- Has the launch of the step under muster been decided already: it waits for the twin (R183, R190)? -/
def launchDecided (g : Group) : Bool := g.toTwin.any (fun y => y.1.step == g.step + 1)

/-- The EARLIEST of the muster in progress that the twin's mirrored record gives (R187, R192), in full (R35). -/
def mirrorEarliest (s : State) (k : Nat) : Option FabTime :=
  s.tw.mirror.findSome? (fun m => match m with
    | .group k' st _ _ _ _ a b e _ _ =>
      if k' = k ∧ st = (grp s .keel k).step ∧ a + b ≠ 0 then some ((tfind k s.tw.mirrorFirst).getD (widen s .keel e)) else none
    | _ => none)

/-- Is a muster of a group in progress at a node: counted arrivals, at the primary root those of the mirrored record too, and no
launch decided (R190, R192)? -/
def musterOn (s : State) (n : Node) (k : Nat) : Bool :=
  let g := grp s n k
  let mirrored := match n with
    | .keel => s.tw.primary && (mirrorEarliest s k).isSome
    | .evxus => false
  (g.planes.any (fun x => !x.counted.isEmpty) || mirrored) && !launchDecided g

/-- The values that decide a muster, as the group record has them (R187). -/
def groupParams (s : State) (k : Nat) : Nat × Nat × Nat × Nat :=
  (rf s (A.GRP_CFG k) 8 2, rn s (A.MUSTER_TIMEOUT k), rn s (A.LAUNCH_LEAD k), rn s (A.BCAST_MIN k))

/-- Are the group's records those of the primary root (R194)? -/
def rootRecords (s : State) : Bool := s.tw.primary && s.cfg.hall.rootPair

/-- A group's record as it goes to the twin (R377). -/
def groupWords (s : State) (k : Nat) : List Nat :=
  let g := grp s .keel k
  let all := g.planes.flatMap (fun x => x.counted)
  let (pol, tmo, lead, bc) := groupParams s k
  [k, g.step, pol, tmo, lead, bc, planeArrived g 0, planeArrived g 1,
    (match earliestOf all with | some c => c.earliest.toNat | none => 0),
    (match latestOf all with | some c => c.latest.ft.toNat | none => 0),
    g.params.1, g.params.2.1, g.params.2.2.1, g.params.2.2.2]

end Sys2Proof.Machine
end

