-- ==== Sys2Proof/Machine/Live.lean ====
section
/-! DEFINITION. What the read-only fields read as of the registers whose bits and counters are events (R396): the value after the event
that a log entry holds (R401). -/

namespace Sys2Proof.Machine

/-- TIME_STATUS (R86). -/
def timeStatusView (s : State) (n : Node) : Word :=
  let c := (nd s n).clk
  packW [(b2n c.valid, 0), (b2n (unsure s n), 1), (b2n c.causeAcq, 8), (b2n c.causeJump, 9), (b2n c.stepUntil.isSome, 10),
    (b2n (c.dipOpen || c.dipUntil.isSome), 11), (b2n (c.copyLost != 0), 12)]

/-- JUMP_CTRL (R86). -/
def jumpCtrlView (s : State) (n : Node) : Word :=
  let v := (nd s n).svo
  packW [(b2n v.jumpPending, 1), (match v.jumpResult with | .none => 0 | .applied => 1 | .ignored => 2 | .granted => 3, 2)]

/-- The code of a stage (R87). -/
def stageCode : Stage → Nat
  | .hold => 0
  | .acquire => 1
  | .settle => 2
  | .track => 3

/-- SNAP_STAT (R452). -/
def snapStatLive (s : State) : Word :=
  let x := s.host.snap
  packW [(match x.state with | .idle => 0 | .armed => 1 | .taken => 2 | .failed => 3, 0), (x.fault, 8)]

/-- ERR_STAT (R418). -/
def errStatLive (s : State) : Word := packW [(rf s A.LOG_CTRL 0 1, 2), (b2n s.hl.exporting.isSome, 3)]

/-- TIME_EPOCH_STATUS (R86). -/
def epochLive (s : State) : Word :=
  BitVec.ofNat 32 (match s.keel.clk.epochStatus with
    | .idle => 0 | .armed => 1 | .done => 2 | .notRoot => 3 | .bad => 4 | .refused => 5 | .busy => 6 | .noPps => 7)

/-- TIC_STATUS (R136). -/
def ticStatLive (s : State) (c : Nat) : Word :=
  let x : Tic := tget {} s.tics c
  packW [(match x.state with | .idle => 0 | .calibrating => 1 | .running => 2 | .ended => 3, 0), (b2n x.partial_, 2), (x.fault, 8)]

/-- PORT_TSTAT (R88). -/
def portStatLive (s : State) (p : Nat) : Word :=
  let x := port s .keel p
  packW [(match portRole s .keel p with | .noTiming => 0 | .serves => 1 | .follows => 2, 0), (x.mode.toNat, 2), (b2n x.asymValid, 5),
    (b2n x.calibrating, 6)]

/-- GRP_STAT (R194). -/
def grpStatLive (s : State) (k : Nat) : Word :=
  let shows (q : Nat) : Bool := (rootRecords s || q == ownPlane s) && planeComplete s .keel k q
  packW [(match (grp s .keel k).state with | .idle => b2n (musterOn s .keel k) | .mustering => 1 | .launching => 2, 0), (b2n (shows 0), 2),
    (b2n (shows 1), 3)]

/-- SEQ_STAT (R212). -/
def seqStatLive (s : State) (q : Nat) : Word :=
  let x : Seq := tget {} s.die.seqs q
  packW [(match x.state with | .idle => 0 | .armed => 1 | .running => 2, 0), (x.fault, 9)]

/-- ALM_STAT (R351). -/
def almStatLive (s : State) : Word :=
  packW [(b2n s.alm.stage.isSome, 0), (b2n s.alm.working.isSome, 1), (s.alm.queue.length, 4)]

/-- CLK_STAT (R435). -/
def clkStatLive (s : State) : Word :=
  packW [(rf s A.SSC_CTRL 0 1, 3), (b2n (decide (s.clks.stage = 9)), 4),
    (b2n ((List.range 8).any (fun d => diePresent s d && rf s (A.DIE_CLK_STAT d) 13 3 != 0)), 5)]

/-- DIE_CLK_STAT (R435). -/
def dieClkLive (s : State) (d : Nat) : Word :=
  let x := clkDie s d
  let red (v : Nat) : Nat := if d = 5 ∨ d = 6 then v else 0
  packW [(red x.fstep, 0), (red x.target, 4), (b2n x.changing, 7), (red x.floor, 8), (b2n (x.pllLocked && !x.changing), 11), (b2n x.lor, 12)]

/-- RTE_STAT and TCAM_STAT of a route die, counted from 0 (R370, R371). -/
def rteStatLive (s : State) (d : Nat) : Word :=
  packW [(b2n s.cfg.hallActive, 0), (b2n (!(tget ({} : RouteDie) s.rt.dies d).learn.isEmpty), 1)]
def tcamStatLive (s : State) (d : Nat) : Word := packW [(b2n (tget ({} : RouteDie) s.rt.dies d).req.isSome, 0)]

/-- PSET_STAT (R240). -/
def psetStatLive (s : State) (dx u : Nat) : Word :=
  let x : Pset := tget {} s.die.psets (dx * 32 + u)
  packW [(match x.state with | .idle => 0 | .waiting => 1 | .applying => 2 | .done => 3, 0), (x.fault, 8)]

/-- DIG_STAT (R334); DIG_COUNT wraps at its width (log entry 7). -/
def digStatLive (s : State) (dx w : Nat) : Word :=
  let x : Ws := tget {} s.die.ws (dx * 512 + w)
  packW [(x.digCount % 65536, 0), (b2n x.digPartial, 16), (x.digVariant.toNat, 24)]

/-- SEG_STAT and TALLY_STAT (R295, R318). -/
def segStatLive (s : State) (dx : Nat) : Word :=
  packW [(b2n (s.die.trained.getD (2 * dx) false && s.die.trained.getD (2 * dx + 1) false), 0)]
def tallyStatLive (s : State) (dx : Nat) : Word := packW [(b2n (s.die.dumps.any (fun d => d.dx == dx)), 5)]

/-- The engines of a mask. -/
def maskEngines (m : BitVec 128) : List Nat := (List.range 108).filter (fun e => m.getLsbD e)

/-- Members arrived at a gate (R319). -/
def gateCount (x : Gate) : Nat := (maskEngines x.arrived).length

/-- GATE_STAT as it reads, its RW1C bits taken from the stored word (R319). -/
def gateStatWord (s : State) (dx g : Nat) : Nat :=
  let x : Gate := tget {} s.die.gates (dx * 16 + g)
  x.gen.toNat * 2 ^ 24 + gateCount x * 65536 + rf s (A.GATE_STAT dx g) 2 3 * 4 + b2n (decide (x.arrived ≠ 0))

/-- A slot-table entry read from its 16 bytes, most significant byte first (R200). -/
def slotEntryOf (w : BitVec 128) : SlotEntry where
  slot := bitsN w.toNat 112 16
  engine := bitsN w.toNat 105 7
  startCyc := bitsN w.toNat 95 10
  endCyc := bitsN w.toNat 85 10
  setup := bitsN w.toNat 69 16
  waitTally := bitsN w.toNat 63 6
  waitVal := bitsN w.toNat 47 16
  produces := bitsN w.toNat 46 1 == 1

/-- The entries of a slot table (R200). -/
def slotEntries (t : SlotTable) : List SlotEntry := t.raw.map slotEntryOf

/-- SCHED: a committed slot table names the engine (R311, R320). -/
def dmaScheduled (s : State) (dx k : Nat) : Bool :=
  s.cfg.seqs.any (fun q => q.1 / 4 == dx && (slotEntries q.2.table).any (fun e => e.engine == 0x58 + k))

/-- DMA_STAT (R320). -/
def dmaStatLive (s : State) (dx k : Nat) : Word :=
  let x : Dma := tget {} s.die.dmas (dx * 16 + k)
  packW [(match x.state with | .idle => 0 | .waiting => 1 | .running => 2 | .stopped => 3, 0), (b2n x.host, 3),
    (b2n (dmaScheduled s dx k), 4), (b2n x.preempt, 5), (x.fault, 8)]

/-- The read-only fields of a register whose bits or counters are events; none where it has no such field. -/
def statusLive (s : State) (a : Nat) : Option Word :=
  if a < 0x100000 then
    (if a = A.SNAP_STAT then some (snapStatLive s) else if a = A.ERR_STAT then some (errStatLive s) else none)
  else if a < 0x200000 then
    (if a = A.TIME_STATUS then some (timeStatusView s .keel)
     else if a = A.TIME_EPOCH_STATUS then some (epochLive s)
     else if a = A.JUMP_CTRL then some (jumpCtrlView s .keel)
     else if a = A.SERVO_STATUS then some (BitVec.ofNat 32 (stageCode s.keel.svo.stage))
     else if 0x140100 ≤ a ∧ a < 0x140500 ∧ a % 0x100 = 4 then some (ticStatLive s ((a - 0x140100) / 0x100))
     else if 0x151000 ≤ a ∧ a < 0x155020 ∧ a % 0x20 = 0 then some (portStatLive s ((a - 0x151000) / 0x20))
     else none)
  else if a < 0x1000000 then
    (if 0x201000 ≤ a ∧ a < 0x203000 ∧ a % 0x80 = 4 then some (grpStatLive s ((a - 0x201000) / 0x80))
     else if 0x211000 ≤ a ∧ a < 0x211400 ∧ a % 0x80 = 4 then some (seqStatLive s ((a - 0x211000) / 0x80))
     else if a = A.ALM_STAT then some (almStatLive s)
     else if a = A.CLK_STAT then some (clkStatLive s)
     else if 0x400200 ≤ a ∧ a < 0x400300 ∧ a % 0x20 = 0 then some (dieClkLive s ((a - 0x400200) / 0x20))
     else none)
  else
    let d := (a - 0x1000000) / 0x400000
    let o := (a - 0x1000000) % 0x400000
    if d < 5 then (if o = 0 then some (rteStatLive s (d - 1)) else if o = 0x100000 then some (tcamStatLive s (d - 1)) else none)
    else if 6 < d then none
    else if 0x41000 ≤ o ∧ o < 0x42000 ∧ o % 0x80 = 4 then some (psetStatLive s (d - 5) ((o - 0x41000) / 0x80))
    else if 0x60100 ≤ o ∧ o < 0x64100 ∧ o % 0x20 = 0x18 then some (digStatLive s (d - 5) ((o - 0x60100) / 0x20))
    else if o = 0xA0000 then some (segStatLive s (d - 5))
    else if o = 0xC0000 then some (tallyStatLive s (d - 5))
    else if 0xD0100 ≤ o ∧ o < 0xD0500 ∧ o % 0x40 = 0x24 then some (BitVec.ofNat 32 (gateStatWord s (d - 5) ((o - 0xD0100) / 0x40)))
    else if 0xE0100 ≤ o ∧ o < 0xE0500 ∧ o % 0x40 = 4 then some (dmaStatLive s (d - 5) ((o - 0xE0100) / 0x40))
    else none

/-- The value of a register whose bit or counter is an event (R401): what is stored, with its read-only fields as they read now. -/
def eventWord (s : State) (a : Nat) : Word :=
  match statusLive s a with
  | some v => (rd s a &&& ~~~ roMask a) ||| (v &&& roMask a)
  | none => rd s a

end Sys2Proof.Machine
end

