-- ==== Sys2Proof/Machine/Log.lean ====
section
/-! DEFINITION. Tickets (R442 to R446), and the handling of one event: its class and window, its log entry, and its
weight in the score (R396 to R404). What a score leads to stands in Health.lean. -/

namespace Sys2Proof.Machine

/-- Is an entry free to be issued (R442)? -/
def ticketFree (o : Opstat) : Bool :=
  match o.state with
  | .free => true
  | .ended => true
  | _ => false

/-- The OPSTAT entry of a ticket. -/
def opstat (s : State) (t : Nat) : Opstat := tget {} s.host.opstat t

/-- Change an OPSTAT entry; an ENDED entry changes no more until it is issued again (R445). -/
def modOp (t : Nat) (f : Opstat → Opstat) (s : State) : State :=
  if (opstat s t).state = .ended then s
  else { s with host := { s.host with opstat := tmod {} s.host.opstat t f } }

/-- The ticket that the next issue takes (R442). -/
def nextTicket (s : State) : Option Nat :=
  ((List.range 1024).map (fun i => (s.host.ticketNext + i) % 1024)).find? (fun t => ticketFree (opstat s t))

/-- Issue ticket `t` to a block, and show it in the block's ticket register (R442, R443). -/
def issueAs (t block reg : Nat) (st : TicketState) (s : State) : State :=
  let sr := s.host.serial
  wn reg (sr * 65536 + t)
    { s with host := { s.host with
        opstat := tset {} s.host.opstat t { state := st, serial := sr, block := block }
        ticketNext := (t + 1) % 1024
        serial := if sr = 0xFFFF then 1 else sr + 1 } }

/-- End an operation with a fault code (R444, R445). -/
def endTicket (t fault : Nat) (s : State) : State :=
  modOp t (fun o => { o with state := .ended, fault := fault }) s

/-- End the operation of a ticket, if there is one. -/
def endTicket? (t : Option Nat) (fault : Nat) (s : State) : State :=
  match t with
  | some t => endTicket t fault s
  | none => s

/-- Put a ticket in a state. -/
def ticketTo (t : Nat) (st : TicketState) (s : State) : State := modOp t (fun o => { o with state := st }) s

/-- Show progress; PROGRESS saturates (R444). -/
def ticketProgress (t n : Nat) (s : State) : State :=
  modOp t (fun o => { o with progress := min n 0xFFFFFF }) s

/-- Set PARTIAL (R444). -/
def ticketPartial (t : Nat) (s : State) : State := modOp t (fun o => { o with partial_ := true }) s

/-- The block code of an address (R401, R437). -/
def blockOf (a : Nat) : Nat :=
  if a < 0x10000 then 0 else if a < 0x20000 then 1 else if a < 0x30000 then 2 else if a < 0x40000 then 3
  else if a < 0x100000 then 4 else if a < 0x110000 then 5 else if a < 0x120000 then 6 else if a < 0x130000 then 7
  else if a < 0x140000 then 8 else if a < 0x150000 then 9 else if a < 0x160000 then 10 else if a < 0x200000 then 11
  else if a < 0x210000 then 12 else if a < 0x300000 then 13 else if a < 0x400000 then 14 else if a < 0x1000000 then 15
  else
    let d := (a - 0x1000000) / 0x400000
    let o := (a - 0x1000000) % 0x400000
    if d < 5 then (if o < 0x100000 then 16 else if o < 0x200000 then 17 else 18)
    else if o < 0x20000 then 19 else if o < 0x40000 then 20 else if o < 0x60000 then 21 else if o < 0x80000 then 22
    else if o < 0xA0000 then 25 else if o < 0xC0000 then 28 else if o < 0xD0000 then 26
    else if o < 0xE0000 then 27 else 24

/-- The die of an address: the die window's, else the keel (R437). -/
def dieOf (a : Nat) : Nat := if a < 0x1000000 then 0 else (a - 0x1000000) / 0x400000

/-- The ticket registers (R443). -/
def isTicket (a : Nat) : Bool :=
  let o := (a - 0x1000000) % 0x400000
  if a < 0x1000000 then
    a == 0x2001C || a == 0x40010 || a == 0x200020 || a == 0x300018 || a == 0x300050 ||
      (decide (0x140100 ≤ a) && decide (a < 0x140500) && a % 0x100 == 0x28) ||
      (decide (0x151000 ≤ a) && decide (a < 0x155020) && a % 0x20 == 0x1C)
  else if dieOf a < 5 then o == 0x100034
  else o == 0xC0034 || (decide (0xE0100 ≤ o) && decide (o < 0xE0500) && o % 0x40 == 0x1C)

/-- What an event is (R396, R401). -/
structure Event where
  die : Nat
  block : Nat
  inst : Nat
  cls : Nat
  sub : Nat
  host : Bool := false
  data0 : Word := 0
  data1 : Word := 0
  /-- mismatches under a fence in force, which count as no hard fault (R412) -/
  fenced : Bool := false
  /-- DIG_MISMATCH carries the bin of the die that produced the bale (R411) -/
  bin : Option Nat := none
  /-- of a TIME_STEP (R41) -/
  step : Option (FabTime × FabTime × BitVec 64) := none
  deriving DecidableEq, Repr

/-- The event of a flag or counter register: SUBCODE is the bit, or 0xFF for a counter (R401). -/
def regEvent (s : State) (a inst cls sub : Nat) : Event :=
  { die := dieOf a, block := blockOf a, inst := inst, cls := cls, sub := sub, data0 := BitVec.ofNat 32 a,
    data1 := eventWord s a }

/-- Is a window that of the event's source instance (R399)? -/
def winMatch (e : Event) (w : Window) : Bool :=
  w.die == e.die && w.block == e.block && w.inst == e.inst && w.cls == e.cls &&
    (decide (e.cls > 3) || w.data0 == e.data0.toNat)

/-- WINDOW and THRESH of a class (R397, R418). -/
def clsWindow (s : State) (c : Nat) : Nat := rf s (A.CLS_CFG c) 0 24
def clsThresh (s : State) (c : Nat) : Nat := rf s (A.CLS_CFG c) 24 8

/-- Is a window that of the package's digest mismatches (R397, R411)? Another source's of class 9 is none of it. -/
def digWindow (w : Window) : Bool := w.die == 0 && w.block == 3 && w.inst == 0 && w.cls == 9

/-- A source instance's window closes, and its COUNT returns to 0 (R398); with the DIG_MISMATCH window go the counts of
the bins (R411), with the last LASTING supply window SUPPLY_LASTING (R419). -/
def closeWindow (e : Event) (s : State) : State :=
  match s.hl.wins.find? (winMatch e) with
  | none => s
  | some w =>
    if pe s .keel < w.until_ then s
    else
      let ws := s.hl.wins.filter (fun x => !winMatch e x)
      { s with hl := { s.hl with
          wins := ws
          supplyLasting := s.hl.supplyLasting && ws.any (fun x => x.cls == 8 && x.lasting)
          condCnt := if digWindow w then [] else s.hl.condCnt } }

/-- Every window whose time has passed closes, with what goes with it (R398). -/
def closeDue (s : State) : State :=
  let ws := s.hl.wins.filter (fun w => decide (pe s .keel < w.until_))
  { s with hl := { s.hl with
      wins := ws
      supplyLasting := s.hl.supplyLasting && ws.any (fun x => x.cls == 8 && x.lasting)
      condCnt := if s.hl.wins.any (fun w => digWindow w && decide (w.until_ ≤ pe s .keel)) then [] else s.hl.condCnt } }

/-- Classing an event: is it LASTING, and did it turn its window LASTING (R398, R399)? -/
def classify (e : Event) (s : State) : Bool × Bool × State :=
  match s.hl.wins.find? (winMatch e) with
  | some w =>
    let n := w.count + 1
    let lasting := w.lasting || decide (clsThresh s e.cls ≤ n)
    let s1 := { s with hl := { s.hl with
      wins := s.hl.wins.map (fun x => if winMatch e x then { x with count := n, lasting := lasting } else x) } }
    (lasting, lasting && !w.lasting, s1)
  | none =>
    if s.hl.wins.length ≥ 4096 then (false, false, bump A.WIN_FULL s)
    else
      let lasting := decide (clsThresh s e.cls ≤ 1)
      let w : Window := { die := e.die, block := e.block, inst := e.inst, cls := e.cls, data0 := e.data0.toNat,
                          count := 1, until_ := pe s .keel + clsWindow s e.cls * 1250000000, lasting := lasting }
      (lasting, lasting, { s with hl := { s.hl with wins := s.hl.wins ++ [w] } })

/-- A die's log. -/
def dieLog (s : State) (d : Nat) : DieLog := tget {} s.hl.logs d

/-- Change a die's log. -/
def modLog (d : Nat) (f : DieLog → DieLog) (s : State) : State :=
  { s with hl := { s.hl with logs := tmod {} s.hl.logs d f } }

/-- May a new event coalesce into an entry (R402)? -/
def coalesces (e : Event) (nowPe : Nat) (l : LogEntry) : Bool :=
  l.die == e.die && l.block == e.block && l.inst == e.inst && l.cls == e.cls && l.sub == e.sub &&
    l.data0 == e.data0 && decide (nowPe - l.firstPe ≤ 1250000)

/-- The place in a list, oldest first, of the newest entry into which an event coalesces (R402). -/
def coalAt (e : Event) (nowPe : Nat) (l : List LogEntry) : Option Nat :=
  (l.reverse.findIdx? (coalesces e nowPe)).map (fun i => l.length - 1 - i)

/-- An entry after one more event has coalesced into it (R401, R402). -/
def coalesced (t : Nat) (lasting hard : Bool) (x : LogEntry) : LogEntry :=
  { x with
    count := min (x.count + 1) 65535, lasting := x.lasting || lasting, hard := x.hard || hard,
    lastDt := min ((t - x.firstPe) * 4 / 5) 1000000 }

/-- The entry at a place of a list changed. -/
def entryMod (i : Nat) (f : LogEntry → LogEntry) (l : List LogEntry) : List LogEntry :=
  match l[i]? with
  | some x => l.set i (f x)
  | none => l

/-- An event is lost from the log (R403). -/
def logLost (d : Nat) (s : State) : State := setFlag A.ERR_STAT 1 (bump (A.LOG_FILL d + 4) s)

/-- Cycles of the timing clock in which a die writes one new entry: 64 ns (R403). -/
abbrev logSlot : Nat := 80

/-- Write the event into its die's log: coalesce, or take a new entry of the head or the ring, or lose it (R401 to
R403). -/
def logWrite (e : Event) (lasting hard : Bool) (s : State) : State :=
  let t := pe s .keel
  let l := dieLog s e.die
  match coalAt e t l.ring, coalAt e t l.head with
  | some i, _ =>
    bump (A.LOG_FILL e.die + 12) (modLog e.die (fun l => { l with ring := entryMod i (coalesced t lasting hard) l.ring }) s)
  | none, some i =>
    bump (A.LOG_FILL e.die + 12) (modLog e.die (fun l => { l with head := entryMod i (coalesced t lasting hard) l.head }) s)
  | none, none => logNew e lasting hard l t s
where
  logNew (e : Event) (lasting hard : Bool) (l : DieLog) (t : Nat) (s : State) : State :=
    let waiting := (l.slotAt - t + (logSlot - 1)) / logSlot
    let full := decide (l.head.length ≥ 1024) && decide (l.ring.length ≥ 3072)
    if waiting > 16 ∨ (full ∧ flag s A.LOG_CTRL 0) then logLost e.die s
    else
      let reh := s.tw.drill.isSome
      let bin := match e.bin with
        | some b => b
        | none => if e.die = 5 ∨ e.die = 6 then s.hl.bins.getD (e.die - 5) 0 else 0
      let x : LogEntry := {
        stamp := stampDie s e.die, die := e.die, block := e.block, inst := e.inst, cls := e.cls, sub := e.sub,
        count := 1, lasting := lasting, hard := hard, reh := reh, dip := s.hl.dipWin.contains e.die, host := e.host,
        bin := bin, data0 := e.data0, data1 := e.data1,
        rehNo := if reh then (s.tw.drill.map (fun d => d.number)).getD 0 % 256 else 0, firstPe := t, lastDt := 0,
        step := e.step }
      let s1 := modLog e.die (fun l => { l with
        slotAt := max l.slotAt t + logSlot
        head := if l.head.length < 1024 then l.head ++ [x] else l.head
        ring := if l.head.length < 1024 then l.ring else (if full then l.ring.drop 1 else l.ring) ++ [x]
        ringNext := if l.head.length < 1024 then l.ringNext else l.ringNext + 1 }) s
      whenDo full (bump (A.LOG_FILL e.die + 8)) s1

/-- WATCH_LEVEL and EXPEL_LEVEL (R405). -/
def watchLevel (s : State) : Nat := rf s A.WATCH_LEVEL 0 10
def expelLevel (s : State) : Nat := rf s A.EXPEL_LEVEL 0 10

/-- Is the event's class one whose LASTING events are hard faults (R397, R400, CLS_WEIGHT bit 31)? -/
def clsHard (s : State) (c : Nat) : Bool := flag s (A.CLS_WEIGHT c) 31

/-- Purpose of a CTRL frame that carries a mirrored item: its kind and its words (R378; log entry 6). -/
abbrev ctrlMirror : Nat := 0x10007

/-- An item for the twin: over the twin link where that is up, or while LINK is LINK_LOST over the probe paths (R375, R377, R378). -/
def mirrorOut (kind : Nat) (words : List Nat) (s : State) : State :=
  if s.tw.link ≠ .linkLost then whenDo (twinUp s) (emit (.mirror kind words)) s
  else
    match s.cfg.hall.partner with
    | some p => emit (.ctrl p.1 ctrlMirror (kind :: words)) s
    | none => s

/-- What a package mirrors in SPLIT, and the working twin of a SHADOW pair to the newcomer (R373, R377). -/
def mirrorSplit (kind : Nat) (words : List Nat) (s : State) : State :=
  whenDo (s.tw.mode == .split || (s.tw.mode == .shadow && !s.tw.newcomer)) (mirrorOut kind words) s

/-- SCORE and the expulsion records as an item for the twin (R377, R406). -/
def scoreOut (s : State) : State :=
  mirrorOut 6 (s.hl.score :: s.hl.records.flatMap (fun r => [r.sec.toNat, r.ns.toNat, r.frac.toNat])) s

/-- Each package of a pair that is not SOLO mirrors SCORE and the expulsion records to the other, a newcomer too, whose SCORE its
promotion asks for (R377, R404, R406, R408). -/
def scoreMirror (s : State) : State := whenDo (s.tw.mode != .solo) scoreOut s

/-- Put SCORE to a value and let STATE follow: ENTER_WATCH when the score comes to WATCH_LEVEL (R405). -/
def setScore (v : Nat) (s : State) : State :=
  let was := s.hl.score
  let s0 := { s with hl := { s.hl with score := v } }
  let s1 := whenDo (decide (was ≠ v)) scoreMirror s0
  whenDo (decide (was < watchLevel s) && decide (watchLevel s ≤ v)) (setFlag A.HLTH_HIST 0) s1

/-- Are events of this package left out of the score: a drill runs, or it is the working twin of a SHADOW pair (R404)? -/
def unscored (s : State) : Bool := s.tw.drill.isSome || (s.tw.mode == .shadow && !s.tw.newcomer)

/-- One event: stamp, class, log, weights (R396 to R404); the windows whose time has passed close first (R398). A hard fault is one
in a drill too, though it then adds nothing to the score (R394, R400, R404; log entry 47). Where the score or a
hard fault asks for an expulsion, `due` says so; what follows from it is done at the end of the command (Settle.lean). -/
def eventOne (e : Event) (s : State) : State :=
  let (lasting, turned, s1) := classify e (closeDue s)
  let hard := lasting && clsHard s e.cls && !e.fenced
  let s2 := whenDo lasting (fun s => setFlag A.ERR_STAT 0 (bump (A.CLS_LASTING e.cls) s)) (bump (A.CLS_EVENTS e.cls) s1)
  let s3 := logWrite e lasting hard s2
  let add := rf s (A.CLS_WEIGHT e.cls) 0 10 + (if turned then rf s (A.CLS_WEIGHT e.cls) 16 10 else 0)
  let s4 := whenDo (!unscored s) (fun s => setScore (if hard then 1023 else min (s.hl.score + add) 1023) s) s3
  let s5 := whenDo hard
    (fun s => setFlag A.HLTH_HIST 3 { s with hl := { s.hl with hard := true } }) s4
  let s6 := whenDo (e.cls == 8 && lasting && !s5.hl.supplyLasting)
    (fun s => setFlag A.HLTH_HIST 5 { s with hl := { s.hl with supplyLasting := true } }) s5
  { s6 with hl := { s6.hl with
      due := s6.hl.due || hard || (!unscored s && decide (expelLevel s6 ≤ s6.hl.score))
      dueHard := s6.hl.dueHard || hard } }

/-- The sticky bits that the handling of an event itself can set: LASTING_SEEN and OVF_SEEN of ERR_STAT (R418), and HLTH_HIST (R419).
They raise interrupts, so that their setting is an event too (R396). The class table lists no class for it: DESIGN CHOICE: RECORD
(log entry 64). -/
def seenBits : List (Nat × Nat) := [(A.ERR_STAT, 0), (A.ERR_STAT, 1)] ++ (List.range 9).map (fun i => (A.HLTH_HIST, i))

/-- The events of those bits that are newly set, of the bits that these set in turn, and so on: a bit is new once. -/
def seenEvents : Nat → State → State → State
  | 0, _, after => after
  | n + 1, before, after =>
    let l := seenBits.filter (fun b => flag after b.1 b.2 && !flag before b.1 b.2)
    if l.isEmpty then after
    else seenEvents n after (forAll l (fun b s => eventOne (regEvent s b.1 0 13 b.2) s) after)

/-- Handle an event (R396), and those of the sticky bits that handling it sets. -/
def event (e : Event) (s : State) : State := seenEvents seenBits.length s (eventOne e s)

/-- A sticky bit of a register that stands in the keel's block but belongs to another die, with its event, which is that die's
(R396). -/
def raiseFlagAt (die a i inst cls : Nat) (s : State) : State :=
  let s1 := setFlag a i s
  event { regEvent s1 a inst cls i with die := die } s1

/-- A sticky bit that hardware sets, with its event (R396). -/
def raiseFlag (a i inst cls : Nat) (s : State) : State :=
  let s1 := setFlag a i s
  event (regEvent s1 a inst cls i) s1

/-- A counter that counts, with its event (R396). -/
def countEvent (a inst cls : Nat) (s : State) : State :=
  let s1 := bump a s
  event (regEvent s1 a inst cls 0xFF) s1

/-- No ticket is free: TICKET_EXHAUST counts it and NO_TICKET is set (R442). -/
def noTicket (s : State) : State := raiseFlag A.HOST_STAT 0 0 12 (bump A.TICKET_EXHAUST s)

/-- A write that expert lock refuses: counted, EXPERT_SEEN, an event (R441). -/
def expertDenied (s : State) : State := setFlag A.HOST_STAT 2 (countEvent A.EXPERT_DENIED 0 12 s)

/-- A write to what a block reserves for unlock (R441). -/
def onExpert (base : Nat) (f : State → State) (s : State) : State :=
  if s.host.unlocked.contains base then f s else expertDenied s

/-- REG_ERR of the Evxus, at an address of its window (R141, R170). -/
def evRegErr (addr : Nat) (s : State) : State :=
  wn A.E_REG_ERR_ADDR (addr % 4096) (setFlag A.EV_ERR_STAT 3 s)

/-- A write to the expert page of the Evxus (R141, R164). -/
def onEvExpert (addr : Nat) (f : State → State) (s : State) : State :=
  if s.ev.unlocked then f s else evRegErr addr s

/-- Change the host side. -/
def modHost (f : HostSt → HostSt) (s : State) : State := { s with host := f s.host }

/-- A malformed access: a read returns zero, a write is ignored; it is counted and recorded (R438). -/
def accErr (addr : Nat) (write : Bool) (s : State) : State :=
  let s1 := modHost (fun h => { h with
    accErrAddr := BitVec.ofNat 32 (b2n write * 2 ^ 31 + addr % 2 ^ 26), rdata := if write then h.rdata else 0 }) s
  raiseFlag A.HOST_STAT 1 0 12 (bump A.ACC_ERR s1)

/-- A PCIe access of the package's ends in a completion error or a timeout, a non-fatal uncorrectable error that is reported (R314,
R453). -/
def pcieFail (s : State) : State := bump A.PCIE_UERR s

end Sys2Proof.Machine
end

