-- ==== Sys2Proof/Machine/Fabric.lean ====
section
/-! DEFINITION. The parts of a reduce die that hand work to one another (11, 12), as shared operations: tallies, gates,
banks, segments, the stop of a DMA chain, an engine's fault, the abort of a sequencer. `dx` is 0 for die 5 and 1 for
die 6. -/

namespace Sys2Proof.Machine

/-- The clock of a frequency step in MHz: 500 at F0, 1,000 to 1,600 from F1 to F7 (R198, R424). -/
def stepMhz (f : Nat) : Nat := if f = 0 then 500 else 900 + 100 * f

/-- U of a frequency step: the whole cycles of 512 ns at 0.995 of its clock, less one (R198). -/
def usable (f : Nat) : Nat := 512 * stepMhz f * 995 / 1000000 - 1

/-- B of a frequency step: the whole part of 0.96 × U (R198). -/
def budget (f : Nat) : Nat := usable f * 96 / 100

/-- Change the reduce dies. -/
def modDie (f : DieSt → DieSt) (s : State) : State := { s with die := f s.die }

def seqOf (s : State) (q : Nat) : Seq := tget {} s.die.seqs q
def modSeq (q : Nat) (f : Seq → Seq) (s : State) : State := modDie (fun x => { x with seqs := tmod {} x.seqs q f }) s
def engOf (s : State) (dx e : Nat) : Engine := tget {} s.die.engines (dx * 108 + e)
def modEng (dx e : Nat) (f : Engine → Engine) (s : State) : State :=
  modDie (fun x => { x with engines := tmod {} x.engines (dx * 108 + e) f }) s
def bankOf (s : State) (dx b : Nat) : Bank := tget {} s.die.banks (dx * 256 + b)
def modBank (dx b : Nat) (f : Bank → Bank) (s : State) : State :=
  modDie (fun x => { x with banks := tmod {} x.banks (dx * 256 + b) f }) s
def segOf (s : State) (dx i : Nat) : Seg := tget {} s.die.segs (dx * 256 + i)
def modSeg (dx i : Nat) (f : Seg → Seg) (s : State) : State :=
  modDie (fun x => { x with segs := tmod {} x.segs (dx * 256 + i) f }) s
def tallyOf (s : State) (k : Nat) : Tally := tget {} s.die.tallies k
def modTally (k : Nat) (f : Tally → Tally) (s : State) : State :=
  modDie (fun x => { x with tallies := tmod {} x.tallies k f }) s
def gateOf (s : State) (dx g : Nat) : Gate := tget {} s.die.gates (dx * 16 + g)
def modGate (dx g : Nat) (f : Gate → Gate) (s : State) : State :=
  modDie (fun x => { x with gates := tmod {} x.gates (dx * 16 + g) f }) s
def dmaOf (s : State) (dx k : Nat) : Dma := tget {} s.die.dmas (dx * 16 + k)
def modDma (dx k : Nat) (f : Dma → Dma) (s : State) : State :=
  modDie (fun x => { x with dmas := tmod {} x.dmas (dx * 16 + k) f }) s

/-- Does the package carry the reduce die (R17)? -/
def reduceDie (s : State) (dx : Nat) : Bool := diePresent s (5 + dx)

/-- An access to the window of a die that the variant omits: ignored, and logged in the ERR block (R19). -/
def absentDie (addr : Nat) (s : State) : State :=
  event { die := 0, block := 2, inst := 0, cls := 12, sub := 0xFF, data0 := BitVec.ofNat 32 addr } s

/-- A command at a reduce die's register: the die is there, or the access is one to an absent die (R19). -/
def onReduce (die addr : Nat) (f : Nat → State → State) (s : State) : State :=
  if 5 ≤ die ∧ die < 7 ∧ diePresent s die then f (die - 5) s else absentDie addr s

/-- Does the core clock of a reduce die run: no change of its step, no THERMTRIP, no reset held by its supply? While it does not, its
engines stand still (R426, R428, R429). -/
def coreOn (s : State) (dx : Nat) : Bool :=
  let c := clkDie s (5 + dx)
  !c.changing && !c.tripped && !c.heldReset

/-- A command that is work of a reduce die's engine. -/
def onCore (die addr : Nat) (f : Nat → State → State) (s : State) : State :=
  onReduce die addr (fun dx s => if coreOn s dx then f dx s else s) s

/-- A SEQ engine is the slot sequencer (R212, R272): one resource under two names. -/
def resNorm : Res → Res
  | .engine d e => if 5 ≤ d ∧ 0x68 ≤ e ∧ e < 0x6C then .seq (4 * (d - 5) + (e - 0x68)) else .engine d e
  | r => r

/-- The partition that an ownership table gives a resource; 0xFF where it gives none (R273, R347). -/
def ownerIn (l : List (Res × Nat)) (r : Res) : Nat :=
  match l.find? (fun x => resNorm x.1 == resNorm r) with
  | some x => x.2
  | none => 0xFF

/-- The partition that owns a resource (R273, R347). -/
def ownerPart (s : State) (r : Res) : Nat := ownerIn s.cfg.owners r

/-- The partition of an engine (R273). -/
def engPart (s : State) (dx e : Nat) : Nat := ownerPart s (.engine (5 + dx) e)

/-- The identity of an engine as a signaller: its die in bit 7. -/
def srcOf (dx e : Nat) : Nat := dx * 128 + e

/-- The host as a signaller. -/
abbrev srcHost : Nat := 0xFF

/-- LAST_SIG as the tally's die writes it (R318). -/
def lastSigOf (dx src : Nat) : Nat :=
  if src = srcHost then srcHost else if src / 128 = dx then src % 128 else 0x80 + src % 128

/-- The fields of a tally reference (R296). -/
def refDie (r : Nat) : Nat := bitsN r 15 1
def refEng (r : Nat) : Nat := bitsN r 8 7
def refIdx (r : Nat) : Nat := bitsN r 0 6

/-- A reference whose form is valid (R296); INDEX 63 names no tally. -/
def refForm (s : State) (r : Nat) : Bool :=
  decide (refEng r ≤ 0x6B) && decide (bitsN r 6 2 = 0) && (decide (refIdx r < 48) || refIdx r == 63) &&
    reduceDie s (refDie r)

/-- Does the reference name a tally (R296)? -/
def refTally (s : State) (r : Nat) : Bool := refForm s r && decide (refIdx r < 48)

/-- The key of a tally. -/
def tallyKey (r : Nat) : Nat := refDie r * 5184 + refEng r * 48 + refIdx r

/-- The reference of a tally's key. -/
def keyRef (k : Nat) : Nat := (k / 5184) * 0x8000 + (k % 5184 / 48) * 0x100 + k % 48

/-- Record what an engine waits on (R318, WAIT_STAT): kind 1 WAIT, 2 TAKE, 3 GATE. -/
def waitStart (dx e target kind : Nat) (s : State) : State :=
  wn (A.WAIT_STAT dx e) (target * 65536 + kind * 16384 + rf s (A.WAIT_STAT dx e) 8 3 * 256) s

/-- Record a release: 0 OK, 1 ORPHANED, 2 TALLY_ERR, 3 CANCELLED, 4 NOT_MEMBER (R318). -/
def waitEnd (dx e status : Nat) (s : State) : State :=
  wf (A.WAIT_STAT dx e) 14 2 0 (wf (A.WAIT_STAT dx e) 8 3 status s)

/-- An engine faults: ENG_MAP shows FAULT; what follows from it is settled at the end of the command (R305, R308,
R211). -/
def engFault (dx e : Nat) (s : State) : State :=
  modDie (fun d => { d with fresh := d.fresh ++ [dx * 108 + e] })
    (modEng dx e (fun x => { x with state := .fault, gate := none }) s)

/-- Is the engine a DMA engine (R272)? -/
def isDma (e : Nat) : Bool := decide (0x58 ≤ e) && decide (e < 0x68)

/-- Words 12 and 13 as a DMA engine writes them back (R312). -/
def dmaWord13 (x : Dma) (status : Nat) : Nat :=
  (match x.ticket with | some t => 2 ^ 31 + t * 65536 | none => 0) + b2n x.waitDone * 32768 + b2n x.sigDone * 16384 +
    status

/-- Put bytes into a memory table, from an address. -/
def putBytes (a : Nat) (l : List Byte) (t : Table Byte) : Table Byte :=
  (l.foldl (fun (x : Nat × Table Byte) b => (x.1 + 1, tset 0 x.2 x.1 b)) (a, t)).2

/-- Bytes of a memory table. -/
def getBytes (t : Table Byte) (a n : Nat) : List Byte := (List.range n).map (fun i => tget 0 t (a + i))

/-- The canonical form of a memory: addresses strictly rising, and no byte listed that an unlisted address reads as, zero (R279). -/
def Memory.wf (t : Table Byte) : Bool := twf 0 t

/-- BASE, LIMIT and PARTITION of a segment descriptor in force (R290, R295). -/
def segBase (s : State) (dx i : Nat) : Nat := rn64 s (A.SEG_BASE dx i)
def segLimit (s : State) (dx i : Nat) : Nat := rn64 s (A.SEG_LIMIT dx i)
def segPart (s : State) (dx i : Nat) : Nat := rf s (A.SEG_CFG dx i) 16 8
def segRegion (s : State) (dx i : Nat) : Nat := rf s (A.SEG_CFG dx i) 8 2

/-- The segment check of a burst (R291): the cause of a failure, if any. `part` is the requester's partition; `host` says
that the host issued the DMA. -/
def segCheck (s : State) (dx i : Nat) (host : Bool) (part : Nat) (write : Bool) (addr len : Nat) : Option Nat :=
  let c := A.SEG_CFG dx i
  if ¬ (segOf s dx i).active then some 4
  else if ¬ host ∧ (part = 0xFF ∨ part ≠ segPart s dx i) then some 2
  else if ¬ flag s c (match host, write with | true, true => 1 | true, false => 0 | false, true => 3 | false, false => 2)
    then some 3
  else if addr < segBase s dx i ∨ segLimit s dx i < addr + len - 1 then some 1
  else none

/-- A burst has failed its segment check (R291, R295). -/
def segViol (dx i cause who : Nat) (write : Bool) (addr : Nat) (s : State) : State :=
  let s1 := bump (A.SEG_VIOL dx i) (bump (A.SEG_VIOL_CNT dx) s)
  let s2 := whenDo (decide (rn s (A.VIOL_INFO dx) = 0)) (fun s =>
    wn64 (A.VIOL_ADDR dx) addr (wn (A.VIOL_INFO dx) (cause * 2 ^ 29 + i * 65536 + who * 256 + b2n write) s)) s1
  raiseFlag (A.SEG_STAT dx) 1 i 12 (setFlag (A.SEG_STATE dx i) 5 s2)

/-- The bursts of a stack access: addresses and lengths, at most 256 bytes each (R291). -/
def bursts (addr len : Nat) : List (Nat × Nat) :=
  (List.range ((len + 255) / 256)).map (fun i => (addr + 256 * i, min 256 (len - 256 * i)))

/-- The first burst of an engine's access that fails its check: the cause and the address (R291). -/
def burstFails (s : State) (dx i e : Nat) (write : Bool) (addr len : Nat) : Option (Nat × Nat) :=
  (bursts addr len).findSome? (fun b => (segCheck s dx i false (engPart s dx e) write b.1 b.2).map (fun c => (c, b.1)))

/-- The cause that refuses the write-back of a scheduled chain, which lies in a segment (R291, R311). -/
def writeBackFails (s : State) (dx k : Nat) : Option Nat :=
  let x := dmaOf s dx k
  if x.host then none else segCheck s dx x.seg false (engPart s dx (0x58 + k)) true (x.cur + 48) 8

/-- Write back words 12 and 13 of the descriptor in hand (R312, R313): of a scheduled chain in the stack, under the check of its
segment (R291); a descriptor that was never fetched is not touched. -/
def dmaWriteBack (dx k status : Nat) (s : State) : State :=
  let x := dmaOf s dx k
  let b := toLE 4 x.bytes ++ toLE 4 (dmaWord13 x status)
  if x.desc.isNone then s
  else if x.host then emit (.hostWrite (BitVec.ofNat 64 (x.cur + 48)) b) s
  else match writeBackFails s dx k with
    | some cause => segViol dx x.seg cause (0x58 + k) true (x.cur + 48) s
    | none => modDie (fun d => { d with stack := putBytes (x.cur + 48) b d.stack }) s

/-- The chain stops with a status (R314, R317): a scheduled one aborts its sequencer, PREEMPTED too. -/
def dmaHalt (dx k status : Nat) (s : State) : State :=
  let x := dmaOf s dx k
  let s2 := modDma dx k (fun x => { x with state := .stopped, fault := status, preempt := false, fetched := none }) s
  let s3 := endTicket? x.ticket status s2
  if status = 7 then
    modDie (fun d => { d with fresh := if x.seq.isSome then d.fresh ++ [dx * 108 + 0x58 + k] else d.fresh })
      (modEng dx (0x58 + k) (fun y => { y with state := .idle, gate := none }) s3)
  else raiseFlag (A.DMA_STAT dx k) 7 k 12 (engFault dx (0x58 + k) s3)

/-- The descriptor in hand does not complete: its words are written back, and the chain stops (R314, R317). -/
def dmaStop (dx k status : Nat) (s : State) : State := dmaHalt dx k status (dmaWriteBack dx k status s)

/-- Does a DMA engine have a descriptor in hand (R320)? A stopped one, or one in reset, has not: its status stands (R314). -/
def dmaWorks (s : State) (dx k : Nat) : Bool :=
  let x := dmaOf s dx k
  decide (x.state = .waiting) || decide (x.state = .running)

/-- The gate that the descriptor in hand of a DMA engine names (R312); none where it is no GATE. -/
def descGate (s : State) (dx e : Nat) : Option Nat :=
  if isDma e ∧ dmaWorks s dx (e - 0x58) then
    match (dmaOf s dx (e - 0x58)).desc with
    | some ⟨d⟩ => if bits (d.getD 0 0) 28 4 = 4 then some (bits (d.getD 7 0) 0 4) else none
    | none => none
  else none

/-- An engine that waited on a tally is released with status OK (R300). -/
def releaseOk (dx e : Nat) (s : State) : State :=
  let s1 := waitEnd dx e 0 s
  if isDma e ∧ dmaWorks s dx (e - 0x58) then modDma dx (e - 0x58) (fun x => { x with waitDone := true, state := .running }) s1
  else s1

/-- An engine that waited at a gate is released with status OK (R307): of a GATE descriptor, that completes it. -/
def gateOk (dx e : Nat) (s : State) : State :=
  let s1 := modEng dx e (fun x => { x with gate := none }) (waitEnd dx e 0 s)
  if (descGate s dx e).isSome then modDma dx (e - 0x58) (fun x => { x with gateDone := true, state := .running }) s1 else s1

/-- A waiting engine is released with a status that is not OK: 1 ORPHANED, 2 TALLY_ERR, 3 CANCELLED, 4 NOT_MEMBER; it
never proceeds as if satisfied (R305, R314). -/
def releaseBad (dx e status : Nat) (s : State) : State :=
  let s1 := waitEnd dx e status s
  if isDma e ∧ dmaWorks s dx (e - 0x58) then
    dmaStop dx (e - 0x58) (7 + status) (modEng dx e (fun x => { x with gate := none }) s1)
  else engFault dx e s1

/-- A gate's MASK, ENABLE and PARTITION (R306, R319). -/
def gateMask (s : State) (dx g : Nat) : BitVec 128 :=
  let a := A.GATE_MASK dx g
  BitVec.ofNat 128 (rn64 s a + 2 ^ 64 * rn64 s (a + 8))
def gatePart (s : State) (dx g : Nat) : Nat := rf s (A.GATE_CFG dx g) 16 8
def gateEnabled (s : State) (dx g : Nat) : Bool := flag s (A.GATE_CFG dx g) 31

/-- A FILLING gate breaks, or is cancelled (R308): status 1 ORPHANED, 3 CANCELLED. An IDLE one is untouched. -/
def gateBreak (dx g status : Nat) (s : State) : State :=
  let x := gateOf s dx g
  if x.arrived = 0 then s
  else
    let s1 := modGate dx g (fun x => { x with arrived := 0, gen := x.gen + 1 }) s
    let s2 := forAll (maskEngines x.arrived) (fun e s => releaseBad dx e status s) s1
    if status = 3 then s2 else raiseFlag (A.GATE_STAT dx g) 3 g 12 s2

/-- An engine arrives at a gate (R307): one that waits at another gate arrives at no second one. -/
def gateArrive (dx g e : Nat) (s : State) : State :=
  let x := gateOf s dx g
  let m := gateMask s dx g
  let s1 := waitStart dx e g 3 s
  if (engOf s dx e).gate.any (fun h => h != g) then s
  else if ¬ gateEnabled s dx g ∨ ¬ m.getLsbD e then releaseBad dx e 4 (bump (A.GATE_NM dx) s1)
  else
    let a := x.arrived ||| BitVec.ofNat 128 (2 ^ e)
    if a = m then
      let s2 := modGate dx g (fun x => { x with arrived := 0, gen := x.gen + 1 }) s1
      bump (A.GATE_OPENS dx g) (forAll (maskEngines m) (fun e s => gateOk dx e s) s2)
    else
      let s2 := modEng dx e (fun y => { y with gate := some g }) (modGate dx g (fun x => { x with arrived := a }) s1)
      if isDma e ∧ dmaWorks s dx (e - 0x58) then modDma dx (e - 0x58) (fun x => { x with state := .waiting }) s2 else s2

/-- A DMA engine whose descriptor's wait is over arrives at the gate that the descriptor names (R306, R312, R313). -/
def descArrive (dx e : Nat) (s : State) : State :=
  match descGate s dx e with
  | some g => if (dmaOf s dx (e - 0x58)).waitDone then gateArrive dx g e s else s
  | none => s

/-- The waiters at the head of a queue that are satisfied, in order: the engines released, the value and the queue left
(R300). -/
def drainWaiters : List Waiter → Nat → List Nat × Nat × List Waiter
  | [], v => ([], v, [])
  | w :: r, v =>
    if w.v ≤ v then
      let (es, v', q) := drainWaiters r (if w.take then v - w.v else v)
      (w.engine :: es, v', q)
    else ([], v, w :: r)

/-- After signals are applied, the tally tests its head waiter, and so on (R300). -/
def testWaiters (k : Nat) (s : State) : State :=
  let t := tallyOf s k
  let (es, v, q) := drainWaiters t.waiters t.value
  forAll es (fun e s => descArrive (k / 5184) e (releaseOk (k / 5184) e s)) (modTally k (fun t => { t with value := v, waiters := q }) s)

/-- Every queued waiter is released with a status (R299, R302). -/
def releaseAll (k status : Nat) (s : State) : State :=
  let t := tallyOf s k
  forAll t.waiters (fun w s => releaseBad (k / 5184) w.engine status s)
    (modTally k (fun t => { t with waiters := [] }) s)

/-- A result outside 0 to 65,535: ERR, the counter, LAST_ERR, the waiters (R299). `sub` is 1 UNDER, 2 OVER. -/
def tallyErr (k src sub : Nat) (s : State) : State :=
  let dx := k / 5184
  let s1 := modTally k (fun t => { t with err := true }) s
  let s2 := bump (if sub = 1 then A.TALLY_UNDER dx else A.TALLY_OVER dx) s1
  let s3 := wn (A.LAST_ERR dx) (lastSigOf dx src * 2 ^ 24 + sub * 65536 + keyRef k) s2
  releaseAll k 2 (raiseFlag (A.TALLY_STAT dx) (sub - 1) (k % 5184 / 48) 12 s3)

/-- Apply a signal that has reached its tally (R297, R299, R300). -/
def applySignal (k src : Nat) (d : Int) (s : State) : State :=
  let t := tallyOf s k
  let v : Int := t.value + d
  if v < 0 then tallyErr k src 1 s
  else if v > 65535 then tallyErr k src 2 s
  else testWaiters k (modTally k (fun t => { t with value := v.toNat, lastSig := lastSigOf (k / 5184) src }) s)

/-- GEN of a tally as die `dx` sees it (R302, R303). -/
def genSeen (s : State) (dx ref : Nat) : BitVec 8 :=
  let t := tallyOf s (tallyKey ref)
  if refDie ref = dx then t.gen else t.genCopy

/-- A signal arrives: stale or foreign ones are discarded and counted (R303, R304). -/
def signalArrive (ref src : Nat) (gen : BitVec 8) (d : Int) (s : State) : State :=
  let k := tallyKey ref
  let dx := refDie ref
  let sp := engPart s (src / 128) (src % 128)
  if (tallyOf s k).gen ≠ gen then setFlag (A.TALLY_STAT dx) 3 (bump (A.STALE_SIG dx) s)
  else if src ≠ srcHost ∧ sp ≠ engPart s dx (refEng ref) then
    let s1 := countEvent (A.XPART_SIG dx) (refEng ref) 12 s
    setFlag (A.TALLY_STAT dx) 4 s1
  else applySignal k src d s

/-- A signal leaves for a tally (R298, R303): it carries the GEN that the signaller's die saw when its work item began. A reference
that names no tally signals nothing (R296). -/
def sendSignal (src ref : Nat) (gen : BitVec 8) (d : Int) (s : State) : State :=
  if refTally s ref then modDie (fun x => { x with sigs := x.sigs ++ [(src, ref, gen, d)] }) s else s

/-- The signals on their way from a signaller to a tally arrive, in issue order (R298). -/
def sigFlush (src ref : Nat) (s : State) : State :=
  forAll (s.die.sigs.filter (fun x => x.1 == src && x.2.1 == ref))
    (fun x s => signalArrive ref src x.2.2.1 x.2.2.2 (modDie (fun d => { d with sigs := d.sigs.erase x }) s)) s

/-- A signal that an engine gives alone, or behind data that is written (R298): on the tally's own die it is applied, after the
earlier ones from the same signaller; across dies it travels. -/
def signalOut (src ref : Nat) (gen : BitVec 8) (d : Int) (s : State) : State :=
  if ¬ refTally s ref then s
  else if src / 128 = refDie ref then signalArrive ref src gen d (sigFlush src ref s)
  else sendSignal src ref gen d s

/-- Clear a tally (R302). -/
def clearTally (k : Nat) (s : State) : State :=
  let dx := k / 5184
  let n := (tallyOf s k).waiters.length
  let s1 := whenDo (decide (n ≠ 0)) (fun s => setFlag (A.TALLY_STAT dx) 2 (bumpBy (A.ORPHAN_CNT dx) n s)) s
  let s2 := releaseAll k 1 s1
  modTally k (fun t => { t with value := 0, err := false, gen := t.gen + 1, clearing := reduceDie s (1 - dx),
                                genCopy := if reduceDie s (1 - dx) then t.genCopy else t.gen + 1 }) s2

/-- Clear an engine's 48 tallies (R301). -/
def clearEngTallies (dx e : Nat) (s : State) : State :=
  forAll ((List.range 48).map (fun i => dx * 5184 + e * 48 + i)) clearTally s

/-- An engine begins to wait on a tally: WAIT or TAKE of `v` (R297, R299, R300). -/
def tallyWait (k e : Nat) (take : Bool) (v : Nat) (s : State) : State :=
  let dx := k / 5184
  let s1 := waitStart dx e (keyRef k) (if take then 2 else 1) s
  if (tallyOf s k).err then releaseBad dx e 2 s1
  else testWaiters k (modTally k (fun t => { t with waiters := t.waiters ++ [⟨e, take, v⟩] }) s1)

/-- A probe of a tally by a slot sequencer (R297). -/
def probe (s : State) (k v : Nat) : Bool :=
  let t := tallyOf s k
  !t.err && !t.clearing && decide (v ≤ t.value)

/-- The partition of a sequencer. -/
def seqPart (s : State) (q : Nat) : Nat := ownerPart s (.seq q)

/-- A waystation binding and its state; record `w` of reduce die `dx`. -/
def wsKey (dx w : Nat) : Nat := dx * 512 + w
def wsCfg (s : State) (dx w : Nat) : WsCfg := tget {} s.cfg.ws (wsKey dx w)
def wsOf (s : State) (dx w : Nat) : Ws := tget {} s.die.ws (wsKey dx w)
def modWs (dx w : Nat) (f : Ws → Ws) (s : State) : State := modDie (fun x => { x with ws := tmod {} x.ws (wsKey dx w) f }) s

/-- Insert a digest record in ascending BALE order. -/
def insertRec (x : OutRec) : List OutRec → List OutRec
  | [] => [x]
  | y :: r => if x.bale ≤ y.bale then x :: y :: r else y :: insertRec x r

/-- WS_DIGEST over the records in ascending BALE order (R328). -/
def wsDigest (l : List OutRec) : BitVec 64 :=
  BitVec.ofNat 64 (crc64 ((l.foldr insertRec []).flatMap (fun x =>
    toBE 4 x.bale ++ toBE 4 (x.cause * 2 ^ 24 + x.contrib % 2 ^ 24) ++ toBE 8 x.d.toNat)))

/-- The step digest of a waystation, over the bales that it has handed off in the step so far (R328). -/
def wsDigestNow (dx w : Nat) (partial_ : Bool) (s : State) : State :=
  modWs dx w (fun x => { x with
    digest := wsDigest x.outs, digDip := x.outs.any (fun o => o.dip), digBin := x.handBin, digStep := x.step, digCount := x.outs.length, digPartial := partial_
    digVariant := (wsCfg s dx w).variant }) s

/-- The step digest of a waystation changes as its sequencer returns to IDLE (R328). -/
def wsDigestEnd (dx w : Nat) (partial_ : Bool) (s : State) : State :=
  modWs dx w (fun x => { x with outs := [] }) (wsDigestNow dx w partial_ s)

/-- Does a waystation hand off the return bales of a set: is it the top of an UPDATE tree (R229, R234)? -/
def wsReturns (s : State) (dx w : Nat) : Bool := (wsCfg s dx w).pset.isSome

/-- A reduce table ends at a waystation: its digest, and, of a step that was completed, the landing peak (R238, R328). The bales of the
top of an UPDATE tree are those of its return table, whose end completes their digest; only an abort of the reduce table shows before. -/
def wsStepEnd (dx w : Nat) (partial_ : Bool) (s : State) : State :=
  modWs dx w (fun x => { x with landPeak := if partial_ then x.landPeak else x.landNow, landNow := 0, running := false })
    (if wsReturns s dx w then whenDo partial_ (wsDigestNow dx w true) s else wsDigestEnd dx w partial_ s)

/-- The waystation records of a table. -/
def tableWs (t : SeqTable) : List Nat :=
  (((slotEntries t.table).map (fun e => t.setups[e.setup]?)).filterMap (fun x => match x with
    | some ⟨.reduce w _, _, _, _, _⟩ => some w
    | _ => none)).eraseDups

/-- The waystation that hands off the return bales of a set: the top of its UPDATE tree on the die (R229, R234). -/
def returnStation (s : State) (dx u : Nat) : Option Nat :=
  (s.cfg.ws.find? (fun e => e.1 / 512 == dx && e.2.enable && e.2.pset == some u &&
    e.2.tree == (tget {} s.cfg.psets (dx * 32 + u)).tree)).map (fun e => e.1 % 512)

/-- The waystation of a return table. -/
def tableRet (s : State) (dx : Nat) (t : SeqTable) : List Nat := (t.pset.bind (returnStation s dx)).toList

/-- Work in hand of a running table. -/
def inHand (x : Seq) (clear : List Nat) : Leftover := ⟨x.run, x.step, x.active, x.late, x.flagged, x.gens, clear, x.stale, x.sent, []⟩

/-- The bubbles of a sequencer's entries that are not made up concern no later step (R208). -/
def owedDrop (q : Nat) (s : State) : State :=
  modDie (fun d => { d with crossings := d.crossings.map (fun c => (c.1, { c.2 with owed := c.2.owed.filter (fun o => o.1 != q) })) }) s

/-- A sequencer aborts with a fault code (R211): it returns to IDLE, its ABORTED is set, PART_ABORT shows the partition,
and the tallies of every engine named in its table are cleared once the entries already issued have finished. -/
def seqAbort (q fault : Nat) (s : State) : State :=
  let x := seqOf s q
  if x.state = .idle then s
  else
    let dx := q / 4
    let es := ((slotEntries x.run.table).map (fun e => e.engine)).eraseDups
    let p := seqPart s q
    let s1 := modSeq q (fun x => { x with
      state := .idle, fault := fault, next := none, guarding := false, holding := false, started := false, active := [], stalls := []
      left := if x.active.isEmpty then x.left else x.left ++ [inHand x es] }) (owedDrop q s)
    let s2 := whenDo x.active.isEmpty (fun s => forAll es (fun e s => clearEngTallies dx e s) s) s1
    let s3 := whenDo (decide (p < 64)) (fun s => setFlag (A.PART_ABORT + 4 * (p / 32)) (p % 32) s) s2
    let s3 := whenDo x.started (fun s => forAll (tableRet s dx x.run) (fun w s => wsDigestEnd dx w true s)
      (forAll (tableWs x.run) (fun w s => wsStepEnd dx w true s) s)) s3
    let s4 := modDie (fun d => { d with dmas := d.dmas.map (fun y => if y.2.seq = some q then (y.1, { y.2 with seq := none }) else y) }) s3
    raiseFlag (A.SEQ_STAT q) 8 q 13 s4

/-- Abort every sequencer (R431). -/
def abortAll (fault : Nat) (s : State) : State := forAll (List.range 8) (fun q s => seqAbort q fault s) s

/-- The RUNNING sequencers abort (R210). -/
def abortRunning (fault : Nat) (s : State) : State :=
  forAll ((List.range 8).filter (fun q => (seqOf s q).state == .running)) (fun q s => seqAbort q fault s) s

/-- Abort the sequencers of a partition (R211, R348). -/
def abortPart (p fault : Nat) (s : State) : State :=
  forAll ((List.range 8).filter (fun q => seqPart s q == p)) (fun q s => seqAbort q fault s) s

/-- Is every sequencer IDLE? -/
def allIdle (s : State) : Bool := (List.range 8).all (fun q => decide ((seqOf s q).state = .idle))

/-- The entries of aborted tables that an engine still runs have ended with its fault or its reset: nothing of theirs follows (R305). -/
def entriesDie (dx e : Nat) (s : State) : State :=
  let mine (h : Leftover) (i : Nat) : Bool := ((slotEntries h.run.table)[i]?.map (fun y => y.engine)) == some e
  forAll ((List.range 4).map (fun i => dx * 4 + i)) (fun q s => modSeq q (fun x => { x with
    left := x.left.map (fun h => { h with dead := h.dead ++ h.active.filter (mine h) }) }) s) s

/-- What an engine's fault brings with it: its FILLING gates break, its entry's sequencer aborts (R305, R308, R211, R314). -/
def engFaultActs (key : Nat) (s : State) : State :=
  let dx := key / 108
  let e := key % 108
  let s1 := forAll ((List.range 16).filter (fun g => (gateMask s dx g).getLsbD e)) (fun g s => gateBreak dx g 1 s) s
  let qs := (List.range 4).map (fun i => dx * 4 + i) |>.filter (fun q =>
    let x := seqOf s q
    x.active.any (fun i => ((slotEntries x.run.table)[i]?.map (fun y => y.engine)) == some e) ||
      (isDma e && (dmaOf s dx (e - 0x58)).seq == some q))
  entriesDie dx e (forAll qs (fun q s => seqAbort q 4 s) s1)

/-- Settle the engine faults raised in a command, oldest first. -/
def settleFaults : Nat → State → State
  | 0, s => s
  | n + 1, s =>
    match s.die.fresh with
    | [] => s
    | k :: r => settleFaults n (engFaultActs k (modDie (fun d => { d with fresh := r }) s))

/-- Is a bank being cleared: by itself, or with every bank of its die until READY (R279, R284)? -/
def bankBusy (s : State) (dx b : Nat) : Bool := (bankOf s dx b).clearing || !s.die.ready.getD dx false

/-- The owner a bank reads (R279, R284, R294). -/
def bankOwner (s : State) (dx b : Nat) : Nat := if bankBusy s dx b then 0xFE else (bankOf s dx b).owner

/-- A refused access to a bank, or owner write: LAST_REFUSAL, the counter, REFUSE_SEEN (R280, R281, R294). Causes:
1 OWNER, 2 SPAN, 3 CLEARING, 4 OWN_WRITE. -/
def bankRefuse (dx b cause who : Nat) (s : State) : State :=
  let s1 := wn (A.LAST_REFUSAL dx) (cause * 2 ^ 24 + who * 65536 + b) s
  let s2 := setFlag (A.BANK_STAT dx) 2 s1
  let a := if cause = 4 then A.OWN_REFUSED dx else A.ACC_REFUSED dx
  countEvent a b 12 s2

/-- May `who` hand the bank to `v` (R281)? `who` is the host, 0xFF, or an engine of the die. -/
def ownerWriteOk (s : State) (dx b who v : Nat) : Bool :=
  let cur := bankOwner s dx b
  let vBound := decide (v < 0x6C) && decide (engPart s dx v ≠ 0xFF)
  if cur = 0xFE then false
  else if who = 0xFF then vBound || v == 0xFF
  else cur == who && (v == 0xFF || (vBound && engPart s dx v == engPart s dx who))

/-- A write of BANK_OWNER (R281, R282). -/
def ownerWrite (dx b who v : Nat) (s : State) : State :=
  if ownerWriteOk s dx b who v then modBank dx b (fun x => { x with owner := v }) s
  else bankRefuse dx b 4 who s

/-- Does the bank accept an access of `who` (R279, R280)? None, or the cause of the refusal. -/
def bankAccess (s : State) (dx b who : Nat) : Option Nat :=
  if bankBusy s dx b then some 3 else if (bankOf s dx b).owner = who then none else some 1

/-- A corrected error of a line of bank `b` (R277). -/
def bankCe (dx b : Nat) (s : State) : State :=
  countEvent (A.SRAM_CE dx) b 0 (modBank dx b (fun y => { y with ce := y.ce + 1 }) s)

/-- An uncorrectable error of line `l` of the die, 8,192 lines a bank (R277). -/
def lineUe (dx l : Nat) (s : State) : State :=
  let b := l / 8192 % 256
  let s1 := countEvent (A.SRAM_UE dx) b 1 s
  raiseFlag (A.BANK_STAT dx) 3 b 13 (modBank dx b (fun y => { y with ueLine := some (l % 8192) }) s1)

/-- The accesses of at most 64 bytes, one line each, that a run of `n` bytes from `a` takes (R276). -/
def lineRuns (a n : Nat) : List (Nat × Nat) :=
  (List.range ((n + 63) / 64)).map (fun i => (a + 64 * i, min 64 (n - 64 * i)))

/-- The first access of a run that is refused, with its bank and the cause (R276, R279, R280): CLEARING, SPAN where its second
line lies in the next bank, OWNER. -/
def runRefused (s : State) (dx who a n : Nat) : Option (Nat × Nat) :=
  (lineRuns a n).findSome? (fun r =>
    let b := r.1 / 2 ^ 19
    match bankAccess s dx b who with
    | some 3 => some (b, 3)
    | c => if b ≠ (r.1 + r.2 - 1) / 2 ^ 19 then some (b, 2) else c.map (fun k => (b, k)))

/-- The banks of an engine's run of bytes are tried; a refusal is recorded, and the engine faults (R276, R280). The answer says
whether the run may go on. -/
def runTry (dx who a n : Nat) (s : State) : Bool × State :=
  match runRefused s dx who a n with
  | some (b, cause) => (false, engFault dx who (bankRefuse dx b cause who s))
  | none => (true, s)

/-- An engine writes a run of bytes to a stack under a segment (R291): bursts before one that fails stand; that one is recorded,
and the engine faults. The answer says whether every byte was written. -/
def stackWrite (dx i e addr : Nat) (l : List Byte) (s : State) : Bool × State :=
  match burstFails s dx i e true addr l.length with
  | none => (true, modDie (fun d => { d with stack := putBytes addr l d.stack }) s)
  | some (cause, a) =>
    (false, engFault dx e (segViol dx i cause e true a
      (modDie (fun d => { d with stack := putBytes addr (l.take (a - addr)) d.stack }) s)))

/-- An engine reads a run of bytes of a stack under a segment (R291): nothing, the violation and the fault of the engine where a
burst fails. -/
def stackRead (dx i e addr len : Nat) (s : State) : Option (List Byte) × State :=
  match burstFails s dx i e false addr len with
  | none => (some (getBytes s.die.stack addr len), s)
  | some (cause, a) => (none, engFault dx e (segViol dx i cause e false a s))

/-- Errors of stack `st` of a die: corrected ones count in STK_CE, an uncorrectable one in STK_UE, which is logged (R288). -/
def stkCe (dx st n : Nat) (s : State) : State :=
  forAll (List.replicate n ()) (fun _ s => countEvent (A.STK_CE dx st) (2 * dx + st) 2 s) s
def stkUe (dx st : Nat) (s : State) : State := countEvent (A.STK_UE dx st) (2 * dx + st) 3 s

/-- The first engine of a kind, of `n` from `e0`, that is bound to a partition, else the first of all (log entry 55). -/
def kindEngine (s : State) (dx part e0 n : Nat) : Nat :=
  e0 + ((List.range n).find? (fun j => engPart s dx (e0 + j) == part)).getD 0

/-- The descriptor that an access to the convoy parity or to the capture area names, and the engine that makes it: for these the spec
names neither. DESIGN CHOICE (log entry 55): the lowest valid descriptor that holds the range, else descriptor 0; the first engine
of the kind, from `e0`, that is bound to its partition, else the first of all. -/
def segNamed (s : State) (dx addr len e0 n : Nat) : Nat × Nat :=
  let i := ((List.range 256).find? (fun i => (segOf s dx i).active && decide (segBase s dx i ≤ addr) &&
    decide (addr + len ≤ segLimit s dx i + 1))).getD 0
  (i, kindEngine s dx (segPart s dx i) e0 n)

/-- The regions of a stack: code, first and last offset (R287). -/
def stackRegion (off : Nat) : Option Nat :=
  if off ≤ 0x0EE6B27FFF then some 0
  else if off ≤ 0x12A05F1FFF then some 1
  else if off ≤ 0x156BA097FF then some 2
  else if off ≤ 0x165A0BBFFF then some 3
  else none

/-- The region of a 40-bit address on a reduce die: its stack must be one of the die's (R286, R287). -/
def regionOf (dx addr : Nat) : Option Nat :=
  let st := addr / 2 ^ 37
  if st / 2 = dx ∧ st < 4 then stackRegion (addr % 2 ^ 37) else none

/-- The form of a valid descriptor (R290), overlap with other partitions and scrubs apart. -/
def segShape (s : State) (dx i : Nat) : Bool :=
  let b := segBase s dx i
  let l := segLimit s dx i
  flag s (A.SEG_CFG dx i) 31 && b % 4096 == 0 && l % 4096 == 0xFFF && decide (b ≤ l) &&
    regionOf dx b == some (segRegion s dx i) && regionOf dx l == some (segRegion s dx i) && b / 2 ^ 37 == l / 2 ^ 37

/-- May a descriptor be valid (R290, R434)? On a stack that failed training none is. -/
def segForm (s : State) (dx i : Nat) : Bool := segShape s dx i && s.die.trained.getD (segBase s dx i / 2 ^ 37) false

/-- Does the range of a descriptor overlap a range still under scrub (R293)? -/
def segUnderScrub (s : State) (dx i : Nat) : Bool :=
  s.die.scrubs.any (fun r => r.1 == dx && decide (segBase s dx i ≤ r.2.2.1) && decide (r.2.1 ≤ segLimit s dx i))

/-- Does it overlap a valid descriptor of another partition (R290)? -/
def segOverlaps (s : State) (dx i : Nat) : Bool :=
  (List.range 256).any (fun j => j != i && (segOf s dx j).active && segPart s dx j != segPart s dx i &&
    decide (segBase s dx i ≤ segLimit s dx j) && decide (segBase s dx j ≤ segLimit s dx i))

/-- Put a descriptor in force as its fields now stand: ACTIVE, HELD, or CFG_BAD (R290, R293). -/
def segInstall (dx i : Nat) (s : State) : State :=
  let v := flag s (A.SEG_CFG dx i) 31
  let s0 := modSeg dx i (fun x => { x with active := false, held := false }) s
  if ¬ v then s0
  else if ¬ segForm s dx i ∨ segOverlaps s0 dx i then setFlag (A.SEG_STATE dx i) 4 s0
  else if segUnderScrub s dx i then modSeg dx i (fun x => { x with held := true }) s0
  else modSeg dx i (fun x => { x with active := true }) s0

end Sys2Proof.Machine
end

