-- ==== Sys2Proof/Machine/Cold.lean ====
section
/-! DEFINITION. COLD reset (R431), and the package held in it while VAUX is low (R457). -/

namespace Sys2Proof.Machine

/-- The part of a stack that WARM and COLD zero-fill: regions 0 to 2 (R431, R287). -/
abbrev scrubTop : Nat := 0x156BA097FF

/-- The zero fill of regions 0 to 2 of every stack of the package (R293, R431). -/
def wholeScrubs (s : State) : List (Nat × Nat × Nat × Nat) :=
  ((List.range 4).filter (fun k => reduceDie s (k / 2))).map (fun k => (k / 2, k * 2 ^ 37, k * 2 ^ 37 + scrubTop, 0xFF))

/-- What a snapshot shows after a reset (R451). -/
def snapReset (x : SnapSt) : SnapSt :=
  match x.state with
  | .armed => { state := .failed, fault := 2 }
  | .taken => { state := .failed, fault := 2 }
  | _ => {}

/-- COLD (R431): everything of the package at its reset value but POWER_ELAPSED, the fuses, stack region 3, what the supplies
hold, and the firmware that runs until stage 4; POWER_ELAPSED runs on, so the decay of SCORE starts anew from here (R404); the Evxus
block has its own resets. Start-up goes on at stage 2 (R433). -/
def coldReset (cause : Nat) (s : State) : State :=
  let z := State.reset
  { z with
    pending := s.pending, straps := s.straps, out := s.out, free := s.free
    regs := s.regs.filter (fun e => decide (evLo ≤ e.1) && decide (e.1 < evHi))
    staged := s.staged.filter (fun e => decide (evLo ≤ e.1) && decide (e.1 < evHi))
    keel := { clk := { pe := s.keel.clk.pe, oscOk := s.keel.clk.oscOk } }
    evx := s.evx, ev := s.ev, evMus := s.evMus
    die := { z.die with
      stack := s.die.stack.filter (fun e => stackRegion (e.1 % 2 ^ 37) == some 3), scrubs := wholeScrubs s }
    alm := { z.alm with keys := s.alm.keys, revoked := s.alm.revoked }
    hl := { z.hl with lastDecay := s.keel.clk.pe.toNat }
    host := { z.host with snap := snapReset s.host.snap }
    clks := { z.clks with
      dies := (s.clks.dies.map (fun e => (e.1, ({ heldReset := e.2.heldReset, tripped := e.2.tripped } : DieClk)))).filter
        (fun e => e.2 != {})
      stage := if s.clks.powered then 2 else 1
      powered := s.clks.powered, vauxLow := s.clks.vauxLow, thermtrip := s.clks.thermtrip, fw := s.clks.fw, outMark := s.clks.outMark
      busy := some .cold, lastLevel := .cold, coldCause := cause } }

/-- Is something sent that comes from the Evxus block? -/
def evOut : Out → Bool
  | .msg n _ _ => n == .evxus
  | .markers n _ _ => n == .evxus
  | .calResult n _ _ => n == .evxus
  | .pin (.launch _) _ | .pin .irq _ | .pin .wakeReq _ | .pin .ready _ | .pin .valid _ => true
  | .edge (.launch _) _ => true
  | _ => false

/-- What a command leaves while VAUX is low: the package stands in COLD reset and sends nothing; a snapshot that the reset failed
stays FAILED (R457). -/
def coldHold (s : State) : State :=
  let k := s.out.length - s.clks.outMark
  let out := (s.out.take k).filter evOut ++ s.out.drop k
  let x := coldReset s.clks.coldCause s
  { x with
    out := out, clks := { x.clks with outMark := out.length }
    host := { x.host with snap := if s.host.snap.state = .failed then { state := .failed, fault := s.host.snap.fault } else {} } }

end Sys2Proof.Machine
end

