-- ==== Sys2Proof/Machine/Irq.lean ====
section
/-! DEFINITION. Interrupts (R417, R447, R448): which sticky bits raise one, ERR_IRQ_SUM, the levels of the four vectors, and
their pending bits as a command leaves them. -/

namespace Sys2Proof.Machine

/-- The sticky bits of the register at an address that raise an interrupt, with the code of their block (R401, R417): those
their tables mark, and the history bits that an enable register of the block lets through. LOR_SEEN and THERM_WARN of a
die are enabled by the bit of DIE_EVT in CLK_IRQ_EN (log entry 40). -/
def irqBits (s : State) (a : Nat) : Option (Nat × Word) :=
  if a < 0x1000000 then
    if a = 0x10000 then some (1, 0x3#32 &&& rd s A.HOST_IRQ_EN)
    else if a = 0x20000 then some (2, 0x3#32)
    else if a = 0x30004 then some (3, rd s A.HLTH_IRQ_EN)
    else if a = 0x40004 then some (4, rd s A.TWIN_IRQ_EN)
    else if a = 0x10004C then some (5, 0x1#32)
    else if a = 0x110004 then some (6, 0x3F0#32)
    else if a = 0x120008 then some (7, rd s A.REF_IRQ_EN)
    else if 0x201000 ≤ a ∧ a < 0x203000 ∧ a % 0x80 = 4 then some (12, 0x8700#32)
    else if 0x211000 ≤ a ∧ a < 0x211400 ∧ a % 0x80 = 4 then some (13, 0x140#32)
    else if a = 0x300000 then some (14, 0x8#32)
    else if a = 0x400000 then some (15, 0x6#32 &&& rd s A.CLK_IRQ_EN)
    else if 0x400200 ≤ a ∧ a < 0x400300 ∧ a % 0x20 = 0 then (if flag s A.CLK_IRQ_EN 5 then some (15, 0x6000#32) else none)
    else none
  else
    let d := dieOf a
    let o := (a - 0x1000000) % 0x400000
    if d < 5 then
      if o = 0 then some (16, 0x4#32) else if o = 0x100000 then some (17, 0x2#32) else none
    else if 0x20100 ≤ o ∧ o < 0x28100 ∧ (o - 0x20100) % 0x40 = 0x3C then some (20, 0x1#32)
    else if 0x41000 ≤ o ∧ o < 0x42000 ∧ o % 0x80 = 4 then some (21, 0xA0#32)
    else if 0xE0100 ≤ o ∧ o < 0xE0500 ∧ o % 0x40 = 4 then some (24, 0x80#32)
    else if o = 0x80000 then some (25, 0x8#32)
    else if o = 0xC0000 then some (26, 0x3#32)
    else if 0xD0100 ≤ o ∧ o < 0xD0500 ∧ o % 0x40 = 0x24 then some (27, 0x8#32)
    else if o = 0xA0000 then some (28, 0x2#32)
    else none

/-- ERR_IRQ_SUM (R417). -/
def irqSum (s : State) : Word :=
  s.regs.foldl (fun w e => match irqBits s e.1 with
    | some (b, m) => if e.2 &&& m = 0 then w else w ||| BitVec.ofNat 32 (2 ^ b)
    | none => w) 0

/-- LEVEL_v (R448). -/
def irqLevel (s : State) (v : Nat) : Bool :=
  let l := irqSum s &&& rd s A.ERR_IRQ_EN
  let m := rn64 s A.IRQ_VEC_MAP
  (List.range 32).any (fun b => bit l b && bitsN m (2 * b) 2 == v)

/-- The four levels (R448). -/
def irqLevels (s : State) : List Bool := (List.range 4).map (irqLevel s)

/-- A vector whose level rises becomes pending (R448). -/
def settleIrq (s : State) : State :=
  let l := irqLevels s
  if l = s.host.level then s
  else { s with host := { s.host with
    level := l
    pendVec := (List.range 4).map (fun v => s.host.pendVec.getD v false || (l.getD v false && !s.host.level.getD v false)) } }

end Sys2Proof.Machine
end

