-- ==== Sys2Proof/Machine/Settle.lean ====
section
/-! DEFINITION. What a command leaves to be settled at its end: engine faults (R305, R308, R211), and an expulsion or a
hold that a score or a hard fault asks for (R405 to R410). -/

namespace Sys2Proof.Machine

/-- Expulsion records of the pair that have not lapsed (R406). -/
def budgetUsed (s : State) : Nat := s.hl.records.length

/-- The fabric time that lies `h` hours after another (R406). -/
def hoursAfter (f : FabTime) (h : Nat) : FabTime := fabAdd f (h * 3600 * nsPerSec * 2 ^ 32 : Nat)

/-- MODE code (R395). -/
def modeCode : PairMode → Nat
  | .split => 0
  | .solo => 1
  | .shadow => 2

/-- Send a heartbeat; `mark` 1 shows an expulsion (R407), 2 a WARM reset (R431), 3 a hold (R408; log entry 30). -/
def sendHeartbeatMarked (mark : Nat) (s : State) : State :=
  emit (.heartbeat (modeCode s.tw.mode) s.tw.primary s.tw.roleEpoch s.straps.chip mark) s

/-- Send a heartbeat (R375). -/
def sendHeartbeat (s : State) : State := sendHeartbeatMarked (if s.hl.expelled then 1 else if s.hl.held then 3 else 0) s

/-- The package is expelled (R406, R407): recorded, EXPELLED set, a last heartbeat sent, its sequencers abort. -/
def expel (s : State) : State :=
  let s1 := scoreOut { s with hl := { s.hl with
    expelled := true, held := false, deferred := false, records := s.hl.records ++ [now s .keel] } }
  let s2 := sendHeartbeat (raiseFlag A.HLTH_HIST 1 0 13 s1)
  let solo := s2.tw.mode == .split
  let s3 := whenDo solo (raiseFlag A.TWIN_HIST 0 0 13) s2
  abortAll 3 { s3 with tw := { s3.tw with primary := false, mode := if solo then .solo else s3.tw.mode } }

/-- EXPEL_HELD (R408 to R410, R419). -/
def expelHeld (s : State) : Bool := s.hl.held || s.hl.deferred

/-- HELD of HLTH_HIST where EXPEL_HELD came to be set. -/
def heldHist (was : Bool) (s : State) : State := whenDo (!was) (raiseFlag A.HLTH_HIST 2 0 13) s

/-- An expulsion or a hold that would give a convoy row a third erasure is deferred, and one of a hard fault in the working twin is left
to the host: EXPEL_HELD is set, and the package goes on (R409, R410). -/
def expelDefer (s : State) : State := heldHist (expelHeld s) { s with hl := { s.hl with deferred := true } }

/-- A package held for want of budget: its twin acts as if DEMOTE_PARTNER had been written, and this package becomes the
newcomer of a SHADOW pair (R408). -/
def expelHold (s : State) : State :=
  let s1 := heldHist (expelHeld s) { s with hl := { s.hl with held := true, deferred := false } }
  sendHeartbeat (raiseFlag A.TWIN_HIST 1 0 13 { s1 with tw := { s1.tw with
    mode := .shadow, newcomer := true, primary := false, adm := .almanac, admitMatch := 0, compared := 0
    restoreDone := false, compat := false
    positions := if s1.tw.member then s1.tw.positions.set s1.cfg.hall.pos .erased else s1.tw.positions } })

/-- Erasures in the rows r with r mod 4 = m: erased positions, and rebuilt ones whose parity chunk stands there, which is not
rebuilt (R385, R388). -/
def rowErasures (s : State) (m : Nat) : Nat :=
  ((List.range 8).filter (fun p => match s.tw.positions.getD p .absent with
    | .erased => true
    | .rebuilt => p / 2 == m
    | _ => false)).length

/-- Would this package's loss give a convoy row a third erasure (R410)? -/
def thirdErasure (s : State) : Bool :=
  s.tw.member && s.tw.positions.getD s.cfg.hall.pos .absent == .current && (List.range 4).any (fun m => decide (2 ≤ rowErasures s m))

/-- Is the partner the one to act on, of two at EXPEL_LEVEL, a hard fault's 1,023 among them (R400, R409)? -/
def partnerFirst (s : State) : Bool :=
  decide (expelLevel s ≤ s.hl.partnerScore) &&
    (decide (s.hl.score < s.hl.partnerScore) || (s.hl.partnerScore == s.hl.score && !s.straps.planeB))

/-- Act on a score at EXPEL_LEVEL, or on a hard fault (R405 to R410). -/
def expelAct (hard : Bool) (s : State) : State :=
  if s.hl.expelled then s
  else if s.tw.mode = .split then
    if partnerFirst s then s
    else if s.hl.partnerExpelled then (if hard then expelDefer s else s)
    else if thirdErasure s then expelDefer s
    else if hard ∨ budgetUsed s < rn s A.EXPEL_BUDGET then expel s
    else expelHold s
  else if s.tw.mode = .shadow ∧ s.tw.newcomer then
    (if hard then (if thirdErasure s then expelDefer s else expel s) else s)
  else if hard then expelDefer s
  else s

/-- The score is held to the levels anew: a level was written, or the package came into SPLIT (R405). `was`: STATE was WATCH before. -/
def levelCheck (was : Bool) (s : State) : State :=
  let s1 := whenDo (!was && decide (watchLevel s ≤ s.hl.score)) (raiseFlag A.HLTH_HIST 0 0 13) s
  { s1 with hl := { s1.hl with due := s1.hl.due || decide (expelLevel s1 ≤ s1.hl.score) } }

/-- Settle what a score asks for. -/
def settleHealth (s : State) : State :=
  if s.hl.due then
    let t := expelAct s.hl.dueHard s
    { t with hl := { t.hl with due := false, dueHard := false } }
  else s

/-- Settle everything a command leaves to be settled: faults of engines, an expulsion that is due, the interrupt levels; while VAUX is
low the package is held in COLD reset (R457). -/
def settle (s : State) : State :=
  if s.clks.vauxLow then coldHold s else settleIrq (settleFaults 256 (settleHealth (settleFaults 256 s)))

/-- The answer of a command whose effect is `s`. -/
def done (s : State) : Answer := .next (settle s)

/-- No fault of an engine and no expulsion is left to be settled, and VAUX is there. -/
def quiet (s : State) : Bool := s.die.fresh.isEmpty && !s.hl.due && !s.clks.vauxLow

theorem settleFaults_quiet {s : State} (h : s.die.fresh = []) : ∀ n, settleFaults n s = s
  | 0 => rfl
  | n + 1 => by simp [settleFaults, h]

theorem settle_quiet {s : State} (h : quiet s = true) : settle s = settleIrq s := by
  simp only [quiet, Bool.and_eq_true, List.isEmpty_iff, Bool.not_eq_true'] at h
  simp [settle, settleHealth, settleFaults_quiet h.1.1, h.1.2, h.2]

end Sys2Proof.Machine
end

