-- ==== Sys2Proof/Machine/Health.lean ====
section
/-! DEFINITION. Commands on windows, the score, the budget, the logs and the verdicts of dips (17). -/

namespace Sys2Proof.Machine

/-- CLASS_WINDOW_CLOSE (R398). -/
def execClassWindowClose (die block inst cls data0 : Nat) (s : State) : Answer :=
  done (closeWindow { die := die, block := block, inst := inst, cls := cls, sub := 0, data0 := BitVec.ofNat 32 data0 } s)

/-- Every 600 s SCORE falls by DECAY, never below 0 (R404). -/
def scoreDecay (s : State) : State :=
  if pe s .keel - s.hl.lastDecay < secC 600 then s
  else setScore (s.hl.score - rf s A.DECAY 0 8) { s with hl := { s.hl with lastDecay := s.hl.lastDecay + secC 600 } }

/-- SCORE_DECAY (R404). -/
def execScoreDecay (s : State) : Answer := done (scoreDecay s)

/-- Has an expulsion record lapsed, BUDGET_HOURS after its time (R406)? -/
def recordLapsed (s : State) (r : FabTime) : Bool := fullAtOrAfter (now s .keel) (hoursAfter r (rn s A.BUDGET_HOURS))

/-- Expulsion records lapse; a held package still at EXPEL_LEVEL is then expelled (R406, R408). -/
def budgetLapse (s : State) : State :=
  if ¬ s.hl.records.any (recordLapsed s) then s
  else
    let s1 := scoreMirror { s with hl := { s.hl with records := s.hl.records.filter (fun r => !recordLapsed s r) } }
    if s1.hl.held ∧ expelLevel s1 ≤ s1.hl.score then expel s1 else s1

/-- BUDGET_LAPSE (R406). -/
def execBudgetLapse (s : State) : Answer := done (budgetLapse s)

/-- EXPEL_NOW expels at once, bypasses the budget and is recorded (R406); at most one package of a pair is expelled or held at a time, so
that it does nothing while the partner is (R409). -/
def expelNow (s : State) : State := if s.hl.expelled ∨ s.hl.partnerExpelled ∨ s.tw.partnerHeld then s else expel s

/-- EXPEL_NOW (R406). -/
def execExpelNow (s : State) : Answer := done (expelNow s)

/-- CLEAR_EXPELLED clears EXPELLED and sets SCORE to 0 (R407). -/
def execClearExpelled (s : State) : Answer :=
  done (setScore 0 { s with hl := { s.hl with expelled := false } })

/-- SCORE_CLEAR clears SCORE and HARD (R419). -/
def execScoreClear (s : State) : Answer := done (setScore 0 { s with hl := { s.hl with hard := false } })

/-- A host event (R396, R419); the reserved classes 14 and 15 are unlisted codes and are ignored (R472). -/
def swEvent (v : Word) (s : State) : State :=
  if 14 ≤ bits v 28 4 then s
  else if ¬ diePresent s (bits v 25 3) then absentDie A.SW_EVENT s
  else event { die := bits v 25 3, block := 3, inst := bits v 15 10, cls := bits v 28 4, sub := bits v 0 8,
               host := true, data0 := BitVec.ofNat 32 A.SW_EVENT } s

/-- SW_EVENT (R396). -/
def execSwEvent (v : Word) (s : State) : Answer := done (swEvent v s)

/-- EXPORT takes a ticket; while an export runs, or with no ticket free, nothing happens (R403, R442). -/
def logExport (s : State) : State :=
  if s.hl.exporting.isSome then s
  else
    match nextTicket s with
    | none => noTicket s
    | some t => let s1 := issueAs t 2 A.LOG_TICKET .running s
                { s1 with hl := { s1.hl with exporting := some t } }

/-- LOG_EXPORT (R403). -/
def execLogExport (s : State) : Answer := done (logExport s)

/-- An entry's eight words (R401). -/
def entryWords (x : LogEntry) : List Nat :=
  (stampWords x.stamp).map (fun w => w.toNat) ++
  [x.die * 2 ^ 29 + x.block * 2 ^ 24 + x.inst * 2 ^ 14 + x.cls * 1024 + x.sub,
   x.count * 65536 + b2n x.lasting * 32768 + b2n x.hard * 16384 + b2n x.reh * 8192 + b2n x.dip * 4096 +
     b2n x.host * 2048 + x.bin,
   x.data0.toNat, x.data1.toNat, x.rehNo * 2 ^ 24 + x.lastDt]

/-- The entry at an index of a die's log, as LOG_RD_SEL names it: the head, then the ring by slot (R403). -/
def logAt (l : DieLog) (i : Nat) : Option LogEntry :=
  if i < 1024 then l.head[i]?
  else
    let first := l.ringNext - l.ring.length
    let j := (i - 1024 + 3072 - first % 3072) % 3072
    l.ring[j]?

/-- The 128 KiB of a die's log: the entries in the order of handling, unused ones as zero (R403). -/
def logImage (l : DieLog) : List Byte :=
  let all := l.head ++ l.ring
  (List.range 4096).flatMap (fun i => match all[i]? with
    | some x => (entryWords x).flatMap (toLE 4)
    | none => List.replicate 32 0)

/-- The first `n` bytes of an export: the logs of the present dies, in die order (R403). -/
def exportWrites (s : State) (n : Nat) : List Out :=
  let ds := dies s
  (List.range ds.length).filterMap (fun i =>
    if i * 131072 < n then some (.hostWrite (BitVec.ofNat 64 (rn64 s A.LOG_EXPORT_ADDR + i * 131072))
      ((logImage (dieLog s (ds.getD i 0))).take (n - i * 131072)))
    else none)

/-- The export ends (R403): whole, or with fault 1 HOST after the bytes that were written before a PCIe write failed. The progress
counts KiB, and the partial-results bit is set once the log of a first die is written. -/
def logExportDone (failed : Option Nat) (s : State) : State :=
  match s.hl.exporting with
  | none => s
  | some t =>
    let all := 131072 * (dies s).length
    let n := match failed with | some k => min k all | none => all
    let s1 := emitAll (exportWrites s n) { s with hl := { s.hl with exporting := none } }
    endTicket t (if failed.isSome then 1 else 0)
      (whenDo failed.isSome pcieFail (whenDo (decide (131072 ≤ n)) (ticketPartial t) (ticketProgress t (n / 1024) s1)))

/-- LOG_EXPORT_DONE: `failed` gives the bytes written before a PCIe write that failed, if one did (R403). -/
def execLogExportDone (failed : Option Nat) (s : State) : Answer := done (logExportDone failed s)

/-- CLEAR empties the logs and their counters (R403). -/
def logClear (s : State) : State :=
  let s1 := { s with hl := { s.hl with logs := [] } }
  forAll (List.range 8) (fun d s => wn (A.LOG_FILL d + 4) 0 (wn (A.LOG_FILL d + 8) 0 (wn (A.LOG_FILL d + 12) 0 s))) s1

/-- LOG_CLEAR (R403). -/
def execLogClear (s : State) : Answer := done (logClear s)

/-- Mismatches of the current window in a bin (R411). -/
def condCnt (s : State) (b : Nat) : Nat := tget 0 s.hl.condCnt b

/-- COND_BIN, while the package is CONDITIONAL: at least 3 mismatches in the window, all in one bin (R412). -/
def condBin (s : State) : Option Nat :=
  match s.hl.condCnt with
  | [(b, n)] => if 3 ≤ n then some b else none
  | _ => none

/-- COND_FENCE of a bin (R412). -/
def condFence (s : State) (b : Nat) : Nat := rf s (A.COND_FENCE b) 0 3

/-- Is the fence of a bin set and in force: no reduce die whose bin it is runs above it, as one does while its cap is blocked or
waits for the sequencers (R412, R426)? -/
def fenceInForce (s : State) (b : Nat) : Bool :=
  condFence s b != 0 && [0, 1].all (fun dx => !reduceDie s dx || s.hl.bins.getD dx 0 != b ||
    decide ((tget {} s.clks.dies (5 + dx)).fstep ≤ condFence s b))

/-- A DIG_MISMATCH event in a condition bin (R411, R412). -/
def digMismatch (bin : Nat) (data0 data1 : Word) (s : State) : State :=
  let fenced := condBin s == some bin && fenceInForce s bin
  let s1 := event { die := 0, block := 3, inst := 0, cls := 9, sub := 7, data0 := data0, data1 := data1,
                    fenced := fenced, bin := some bin } s
  let was := (condBin s1).isSome
  let s2 := { s1 with hl := { s1.hl with condCnt := tmod 0 s1.hl.condCnt bin (· + 1) } }
  whenDo ((condBin s2).isSome && !was) (raiseFlag A.HLTH_HIST 4 0 13) s2

/-- DATA1 of a dip verdict: 1 MISMATCH, 2 UNVERIFIED (R401). -/
def verdictData (v : Nat) (x : DipBale) : Word :=
  BitVec.ofNat 32 (v * 2 ^ 30 + x.step % 65536 * 4096 + x.tree % 4096)

/-- Is a bale under verification the one named? -/
def dipMatch (die tree bale step : Nat) (x : DipBale) : Bool :=
  x.die == die && x.tree == tree && x.bale == bale && x.step == step

/-- A bale is UNVERIFIED: counted, and logged with its verdict (R415). -/
def dipUnverified (x : DipBale) (s : State) : State :=
  event { die := 0, block := 3, inst := 0, cls := 13, sub := 0xFF, data0 := BitVec.ofNat 32 x.bale,
          data1 := verdictData 2 x, bin := some x.bin } (bump A.DIP_UNVER s)

/-- The twin's result for a bale: an equal D clears it, an unequal one is a MISMATCH (R415). -/
def dipResult (die tree bale step : Nat) (d : BitVec 64) (s : State) : State :=
  match s.hl.dipBales.find? (fun x => dipMatch die tree bale step x && x.limit.isSome) with
  | none => s
  | some x =>
    let s1 := { s with hl := { s.hl with dipBales := s.hl.dipBales.erase x } }
    if x.digest = d then bump A.DIP_CLEARED s1
    else raiseFlag A.HLTH_HIST 7 0 13 (digMismatch x.bin (BitVec.ofNat 32 bale) (verdictData 1 x) (bump A.DIP_MISMATCH s1))

/-- DIP_VERIFY_RESULT (R415). -/
def execDipVerifyResult (die tree bale step : Nat) (d : BitVec 64) (s : State) : Answer :=
  done (dipResult die tree bale step d s)

/-- No result within DIP_VERIFY_LIMIT (R415). -/
def dipTimeout (die tree bale step : Nat) (s : State) : State :=
  match s.hl.dipBales.find? (dipMatch die tree bale step) with
  | none => s
  | some x =>
    match x.limit with
    | none => s
    | some l =>
      if pe s .keel < l then s
      else dipUnverified x { s with hl := { s.hl with dipBales := s.hl.dipBales.erase x } }

/-- DIP_VERIFY_TIMEOUT (R415). -/
def execDipVerifyTimeout (die tree bale step : Nat) (s : State) : Answer := done (dipTimeout die tree bale step s)

end Sys2Proof.Machine
end

