-- ==== Sys2Proof/Machine/NodeRegs.lean ====
section
/-! DEFINITION. The registers that both timing nodes have, each at its place (R86 to R88, R120; R163 to R171), and how
either node counts and raises flags. Events go to the logs of the package only; an Evxus has none. -/

namespace Sys2Proof.Machine

/-- The address of a register at a node. -/
def nr (n : Node) (k e : Nat) : Nat :=
  match n with
  | .keel => k
  | .evxus => e

/-- A register of a node as a number. -/
def nrn (s : State) (n : Node) (k e : Nat) : Nat := rn s (nr n k e)

/-- Set a flag that raises no event. -/
def nFlag (n : Node) (k e i : Nat) (s : State) : State := setFlag (nr n k e) i s

/-- Set a flag that is an event on the package (R396). -/
def nRaise (n : Node) (k e i inst cls : Nat) (s : State) : State :=
  match n with
  | .keel => raiseFlag k i inst cls s
  | .evxus => setFlag e i s

/-- Count in a field of eight bits that saturates at 255 (R163, R169). -/
def bumpSat (a lo : Nat) (s : State) : State := if rf s a lo 8 = 255 then s else bumpField a lo 8 s

/-- INTERCAL_DROP, INTERCAL_LATE, INTERCAL_MISSED (R79 to R81); the last is a TIMING event (R397). -/
def icalDrop (n : Node) (s : State) : State :=
  match n with
  | .keel => bump A.INTERCAL_DROP s
  | .evxus => bumpSat A.E_ICAL_CNT 16 s

def icalLate (n : Node) (s : State) : State :=
  match n with
  | .keel => bump A.INTERCAL_LATE s
  | .evxus => bumpSat A.E_ICAL_CNT 8 s

def icalMissed (n : Node) (s : State) : State :=
  match n with
  | .keel => countEvent A.INTERCAL_MISSED 0 11 s
  | .evxus => bumpSat A.E_ICAL_CNT 0 s

/-- Count in a 32-bit counter that saturates (SRC_MISS, R120). -/
def bumpSat32 (a : Nat) (s : State) : State := if rd s a = 0xFFFFFFFF#32 then s else bump a s

/-- The virtual references bound to a port: 0 for UPSTREAM_A, 1 for UPSTREAM_B (R90). -/
def boundTo (s : State) (n : Node) (p : Nat) : List Nat :=
  (List.range 2).filter (fun v => (nd s n).ref.bind.getD v none == some p)

/-- A failed or discarded exchange is counted (R62, R64; SRC_MISS of R120; R169). -/
def exchFailCount (n : Node) (p : Nat) (s : State) : State :=
  let s1 := match n with
    | .keel => bump (A.EXCH_FAIL p) s
    | .evxus => bumpSat (A.E_PORT_STAT p) 16 s
  forAll (boundTo s n p) (fun v s => bumpSat32 (nr n (A.V_SRC_MISS v) (A.EVU_SRC_MISS v)) s) s1

/-- The limits and gains of the servo at a node. -/
def jumpLimit (s : State) (n : Node) : Nat := nrn s n A.JUMP_LIMIT A.E_JUMP_LIMIT
def acqThresh (s : State) (n : Node) : Nat := nrn s n A.ACQ_THRESH A.E_ACQ_THRESH
def acqDwell (s : State) (n : Node) : Nat := nrn s n A.ACQ_DWELL A.E_ACQ_DWELL
def trackThresh (s : State) (n : Node) : Nat := nrn s n A.TRACK_THRESH A.E_TRACK_THRESH
def trackDwell (s : State) (n : Node) : Nat := nrn s n A.TRACK_DWELL A.E_TRACK_DWELL
def trackExit (s : State) (n : Node) : Nat := nrn s n A.TRACK_EXIT A.E_TRACK_EXIT
def delayGate (s : State) (n : Node) : Nat := nrn s n A.DELAY_GATE A.E_DELAY_GATE

/-- Does the package act as primary root (R38)? An Evxus never does (R139). -/
def isRoot (s : State) (n : Node) : Bool :=
  match n with
  | .keel => s.tw.primary
  | .evxus => false

/-- The node identifier of a node, and of the primary root it knows (R52, R55, R162). -/
def nodeId (s : State) (n : Node) : Nat :=
  match n with
  | .keel => s.cfg.hall.node
  | .evxus => s.ev.node.toNat

def rootId (s : State) (n : Node) : Nat :=
  match n with
  | .keel => s.cfg.hall.rootNode
  | .evxus => s.ev.root.toNat

/-- HOP_UNC of a port or tap in ps (R67, R171). -/
def hopUnc (s : State) (n : Node) (p : Nat) : Nat :=
  match n with
  | .keel => rn s (A.HOP_UNC p)
  | .evxus => rn s A.EV_HOP_UNC

/-- The source of the selected entry, and the port or tap a virtual source is bound to (R105, R106). -/
def selSource (s : State) (n : Node) : Option Nat :=
  match (nd s n).ref.selected with
  | some e => some ((nd s n).ref.table.getD e (0, 15)).2
  | none => none

def selPort (s : State) (n : Node) : Option Nat :=
  match selSource s n with
  | some 4 => (nd s n).ref.bind.getD 0 none
  | some 5 => (nd s n).ref.bind.getD 1 none
  | _ => none

/-- Is the node running: an Evxus from READY to the loss of its reference clock (R153, R154); the package until its keel die has
stopped its clocks (R428). -/
def nodeRuns (s : State) (n : Node) : Bool :=
  match n with
  | .keel => !(clkDie s 0).tripped
  | .evxus => s.ev.ready && s.ev.refclkOk

/-- The die of a port: 128 lanes each on route dies 1 to 4; the twin link is on route die 1 (R17, R56). -/
def portDie (p : Nat) : Nat := if p < 512 then p / 128 + 1 else 1

/-- Does the package serve: not expelled, not the newcomer of a SHADOW pair nor one that has left the pair's service, not stopped by a
SOLO_DRILL (R373, R374, R393, R407, R431)? -/
def serving (s : State) : Bool :=
  !s.hl.expelled && !s.tw.stopped && !(s.tw.mode == .shadow && s.tw.newcomer) &&
    !(s.tw.drill.any (fun d => d.code == 2 && d.here && decide (0 < d.steps)))

/-- Is a lane the keel lane of its port, under a port map (R49, R353)? Groupings lie within the eight lanes from 8n on. -/
def laneKeel (ports : Table PortCfg) (l : Nat) : Bool :=
  l % max 1 (tget {} ports (l - l % 8)).lanes == 0

/-- Has the part a port: its die, and a keel lane of its number under the grouping in force (R17, R353), or the twin link (R56); or a
tap (R137)? -/
def portThere (s : State) (n : Node) (p : Nat) : Bool :=
  match n with
  | .keel => diePresent s (portDie p) && (p == 512 || (decide (p < 512) && laneKeel s.cfg.ports p))
  | .evxus => decide (p < s.straps.evTaps)

/-- Is the part of a port there, and not held in reset by its supply (R429)? Its timing runs on where the die's own trip has stopped the
core clocks (R428). -/
def portWorks (s : State) (n : Node) (p : Nat) : Bool :=
  portThere s n p && (match n with
    | .keel => !(clkDie s (portDie p)).heldReset
    | .evxus => true)

/-- Is a port not a twin link that counts as down (R375)? -/
def linkStands (s : State) (n : Node) (p : Nat) : Bool :=
  match n with
  | .keel => p != 512 || twinUp s
  | .evxus => true

/-- Does the route die of a port take and send frames: neither held in reset nor with its core clocks stopped (R428, R429)? -/
def portMoves (s : State) (p : Nat) : Bool := portWorks s .keel p && !(clkDie s (portDie p)).tripped

/-- An access to a register of the Evxus while READY is clear is held, and completes once READY is set (R141, R153). -/
def evHold (n : Node) (i : Instr) (f : State → State) (s : State) : State :=
  match n with
  | .keel => f s
  | .evxus => if s.ev.ready && s.ev.refclkOk then f s else { s with ev := { s.ev with held := s.ev.held ++ [i] } }

end Sys2Proof.Machine
end

