-- ==== Sys2Proof/Machine/Tic.lean ====
section
/-! DEFINITION. The interval channels (05): calibration, events, windows, results, latches, and the commands on them. -/

namespace Sys2Proof.Machine

/-- A channel. -/
def tic (s : State) (c : Nat) : Tic := tget {} s.tics c

/-- Change a channel. -/
def modTic (c : Nat) (f : Tic → Tic) (s : State) : State := { s with tics := tmod {} s.tics c f }

/-- The integer square root, rounded down (R132). -/
def isqrt (x : Nat) : Nat :=
  ((List.range 96).reverse).foldl (fun r b => let q := r + 2 ^ b; if q * q ≤ x then q else r) 0

/-- TIMEBASE is FT (R124). -/
def ticFt (s : State) (c : Nat) : Bool := flag s (A.TIC_CTRL c) 4

/-- MODE is MULTI (R129). -/
def ticMulti (s : State) (c : Nat) : Bool := rf s (A.TIC_CTRL c) 0 2 == 1

/-- START_SEL and STOP_SEL. -/
def startSel (s : State) (c : Nat) : Nat := rf s (A.TIC_SRC c) 0 8
def stopSel (s : State) (c : Nat) : Nat := rf s (A.TIC_SRC c) 8 8

/-- SKEW of a source in 2^-8 ps; zero for computed and stamp sources (R125, R127). DESIGN CHOICE: the factory's value of a sampled
source is zero, before and after every reset (log entry 20). -/
def skewOf (s : State) (src : Nat) : Int := if src < 0x0E then (rd s (A.SKEW src)).toInt else 0

/-- Copy the running state into the result group (R132, R135). DESIGN CHOICE: RES_SD is rounded to nearest with ties to even, and
EVT_LOST, START_IGN and EMPTY_WIN, which lie among the group's addresses, stay counters of their own that no latch holds (log entry
20). -/
def ticGroup (x : Tic) : TicGroup where
  count := x.n
  mean := divRNE x.s1 x.n
  sd := if x.n = 0 then 0 else (divRNE (isqrt ((x.n * x.s2 : Int) - x.s1 * x.s1).toNat) x.n).toNat
  min := x.min
  max := x.max
  verdicts := x.verdicts
  lastStart := x.lastStart
  lastStop := x.lastStop
  lastResult := x.lastResult
  lastVerdict := x.lastVerdict
  calStart := x.calStart
  calStop := x.calStop

/-- Latch the result group of a channel that measures (R135). -/
def ticLatch (c : Nat) (s : State) : State :=
  let x := tic s c
  if x.state = .calibrating ∨ x.state = .running then modTic c (fun x => { x with group := ticGroup x }) s else s

/-- A measurement ends with a fault code; the end latches the group (R131, R135). -/
def ticEnd (c fault : Nat) (s : State) : State :=
  let x := tic s c
  if x.state = .calibrating ∨ x.state = .running then
    endTicket? x.ticket fault
      (modTic c (fun x => { x with state := .ended, fault := fault, win := none, recal := false, ticket := none })
        (ticLatch c s))
  else s

/-- A jump or an epoch set ends every measurement in timebase FT with fault STEP (R135). -/
def ticStep (s : State) : State :=
  forAll (List.range 4) (fun c s => whenDo (ticFt s c) (ticEnd c 3) s) s

/-- An intercalation falls inside the open windows of timebase FT. -/
def ticIcal (s : State) : State :=
  forAll (List.range 4) (fun c s =>
    whenDo (ticFt s c && (tic s c).win.isSome) (modTic c (fun x => { x with winIcal := true })) s) s

/-- A supply dip: every channel that measures recalibrates at once, and DIP is set. -/
def ticDip (s : State) : State :=
  forAll (List.range 4) (fun c s =>
    let x := tic s c
    if x.state = .running then setFlag (A.TIC_STATUS c) 7 (modTic c (fun x => { x with recal := true }) s)
    else if x.state = .calibrating then setFlag (A.TIC_STATUS c) 7 (modTic c (fun x => { x with recal := true }) s)
    else s) s

/-- The interval from `a` to `b` as a fraction, in 2^-8 ps (R124, R125). -/
def ticInterval (ft : Bool) (a b : TicEv) : Int × Nat :=
  let base : Int := if ft then ftDiff b.ft a.ft * 125 else (b.osc - a.osc) * 32
  (base * (a.den * b.den : Nat) - 32 * b.num * a.den + 32 * a.num * b.den, 32 * a.den * b.den)

/-- The value of the keel's counter at the last edge of the sampling clock, which falls in every second cycle of the timing
clock (R122, R124). DESIGN CHOICE: these are the even counts of POWER_ELAPSED (log entry 20). -/
def ticEdgeTime (s : State) : BitVec 64 :=
  if pe s .keel % 2 = 0 then now64 s .keel
  else fabFt64 (fabAdd (now s .keel) (-(lastCycle s.keel.clk : Int)))

/-- An event that a line samples now, with its tap code (R123, R124): 2^-8 ps off the sampling edge, and the stamp with
the keel's TIME_UNC plus 4 ps (R130). -/
def ticSampled (s : State) (cal : TicCal) (tap : Nat) : TicEv :=
  let den := cal.k2 - cal.k1
  let num : Int := ((256 * tap : Int) - 2 * cal.k1 + cal.k2) * 204800
  { osc := (pe s .keel / 2 : Nat) * 409600, ft := ticEdgeTime s, num := num, den := den,
    stamp := stampAt s .keel (ftAdd (ticEdgeTime s) (-(divRNE (num * 32) (den * 125)))) 4 }

/-- An event that lies at a fabric time, computed from the counter (R127, R128). -/
def ticComputed (s : State) (t : BitVec 64) : TicEv :=
  let back : Int := ftDiff (now64 s .keel) t
  { osc := (pe s .keel : Nat) * 204800, ft := t, num := if back = 0 then 0 else back * 65536 * 204800,
    den := if back = 0 then 1 else s.keel.clk.addend.toNat, stamp := stampAt s .keel t 0 }

/-- What the channel takes off the fabric time of an event: nothing where its fabric time is exact. -/
def ticFtEv (e : TicEv) : TicEv := { e with num := 0, den := 1 }

/-- An event of a stamp source: its record (R127, R130). -/
def ticStampEv (t : Stamp) : TicEv := { osc := 0, ft := t.ft, num := 0, den := 1, stamp := t }

/-- WIN_OPEN ≤ interval < WIN_CLOSE, exactly (R129). -/
def ticInWindow (s : State) (c : Nat) (i : Int × Nat) : Bool :=
  decide ((rn64 s (A.WIN_OPEN c) * 256000 : Nat) * (i.2 : Int) ≤ i.1) &&
    decide (i.1 < (rn64 s (A.WIN_CLOSE c) * 256000 : Nat) * (i.2 : Int))

/-- Has the window reached WIN_CLOSE at an event (R129)? One that opened 20 s of POWER_ELAPSED ago has, since WIN_CLOSE is 10 s at
most; fabric times further apart are not compared (R35). -/
def ticPast (s : State) (c : Nat) (i : Int × Nat) : Bool :=
  decide ((tic s c).winPe + secC 20 ≤ pe s .keel) ||
    decide ((rn64 s (A.WIN_CLOSE c) * 256000 : Nat) * (i.2 : Int) ≤ i.1)

/-- The open window closes; one without an accepted stop is counted (R129). -/
def ticClose (c : Nat) (s : State) : State :=
  let x := tic s c
  if x.win.isSome then
    whenDo (!x.winHit) (bump (A.EMPTY_WIN c)) (modTic c (fun x => { x with win := none }) s)
  else s

/-- A start event opens a window (R129). -/
def ticOpen (c : Nat) (e : TicEv) (s : State) : State :=
  modTic c (fun x => { x with win := some e, winPe := pe s .keel, winHit := false, winIcal := false }) s

/-- Add one to a count of a list. -/
def countAt (l : List Nat) (i : Nat) : List Nat := l.set i (l.getD i 0 + 1)

/-- An accepted pair gives a result, two records and a verdict; the Nth ends the measurement (R125, R130 to R132). -/
def ticAccept (c : Nat) (a b : TicEv) (s : State) : State :=
  let i := ticInterval (ticFt s c) a b
  let ofs : Int := skewOf s (startSel s c) + (rd s (A.START_OFS c)).toInt - skewOf s (stopSel s c) - (rd s (A.STOP_OFS c)).toInt
  let r := divRNE (i.1 + ofs * i.2) i.2
  let v := orderVerdict a.stamp b.stamp
  let hadIcal := (tic s c).winIcal
  let s1 := modTic c (fun x => { x with
    n := x.n + 1
    s1 := x.s1 + r
    s2 := x.s2 + (r * r).toNat
    min := if x.n = 0 then r else min x.min r
    max := if x.n = 0 then r else max x.max r
    verdicts := countAt x.verdicts (verdictCode v)
    lastStart := a.stamp, lastStop := b.stamp, lastResult := r, lastVerdict := v
    partial_ := true, winHit := true, lastAccept := pe s .keel }) s
  let s2 := whenDo hadIcal (setFlag (A.TIC_STATUS c) 6) s1
  let x := tic s2 c
  let s3 := match x.ticket with
    | some t => ticketPartial t (ticketProgress t x.n s2)
    | none => s2
  if rf s (A.TIC_N c) 0 25 ≤ x.n then ticEnd c 0 s3
  else if ticMulti s c then s3
  else modTic c (fun x => { x with win := none }) s3

/-- Two periods of the sampling clock, in 2^-8 ps (R126). -/
abbrev ticDeadTime : Nat := 819200

/-- Does an event arrive within the dead time after an earlier one on its input? A stamp source is told by its records; an event
of more than 1 s of POWER_ELAPSED ago is not compared (R35). -/
def ticIsDead (src : Nat) (x : Tic) (key at_ : Nat) (e : TicEv) : Bool :=
  match tfind key x.dead with
  | some (p, a) =>
    let i := ticInterval (decide (0x10 ≤ src)) a e
    decide (at_ < p + secC 1) && decide (i.1 < (ticDeadTime * i.2 : Nat))
  | none => false

/-- A line of a channel takes an event of its source: one within the dead time, or during a recalibration, is lost and counted
(R126, R135). Of a source that both lines time, the stop line counts. DESIGN CHOICE: an event that is lost is an earlier event for
the next one, and its dead time runs anew from it; one that comes while the channel is IDLE, ENDED or in its initial calibration is none (log entry
20). -/
def ticArrive (c src : Nat) (stop : Bool) (e : TicEv) (f : State → State) (s : State) : State :=
  let x := tic s c
  if ¬ (x.state = .running ∨ (x.state = .calibrating ∧ x.recal)) then s
  else
    let key := 2 * src + stop.toNat
    let s1 := modTic c (fun x => { x with dead := tput key (pe s .keel, e) x.dead }) s
    if x.recal || ticIsDead src x key (pe s .keel) e then whenDo (stop || startSel s c != stopSel s c) (bump (A.EVT_LOST c)) s1
    else
      match x.win with
      | some a => f (whenDo (ticPast s c (ticInterval (ticFt s c) a e)) (ticClose c) s1)
      | none => f s1

/-- A start event opens a window, or is ignored while one is open (R129). -/
def ticTakeStart (c : Nat) (e : TicEv) (s : State) : State :=
  if (tic s c).win.isNone then ticOpen c e s else bump (A.START_IGN c) s

/-- A stop event in the open window gives a result (R129). -/
def ticTakeStop (c : Nat) (e : TicEv) (s : State) : State :=
  match (tic s c).win with
  | some a => whenDo (ticInWindow s c (ticInterval (ticFt s c) a e)) (ticAccept c a e) s
  | none => s

/-- An event of a source that no line samples reaches a channel: as its stop event first, so that in mode PAIR the event that
gives a result also opens the next window (R129). -/
def ticEvent (c src : Nat) (e : TicEv) (s : State) : State :=
  whenDo (src == startSel s c) (ticArrive c src false e (ticTakeStart c e))
    (whenDo (src == stopSel s c) (ticArrive c src true e (ticTakeStop c e)) s)

/-- An event whose time is exact reaches every channel (R127). -/
def ticAll (src : Nat) (e : TicEv) (s : State) : State :=
  forAll (List.range 4) (fun c s => ticEvent c src (if ticFt s c then ticFtEv e else e) s) s

/-- A transmit (0x10) or receive (0x11) stamp of a timing message on a keel port reaches the channels (R127). -/
def ticStamp (src p : Nat) (t : Stamp) (s : State) : State :=
  forAll (List.range 4) (fun c s =>
    whenDo (ticFt s c && rf s (A.TIC_SRC c) 16 10 == p) (ticEvent c src (ticStampEv t)) s) s

/-- Does a channel that runs, or that recalibrates and loses what comes (R136), wait for records of a stamp source on a port (R127)? -/
def ticHears (s : State) (src p : Nat) : Bool :=
  (List.range 4).any (fun c => (decide ((tic s c).state = .running) || (decide ((tic s c).state = .calibrating) && (tic s c).recal)) && ticFt s c &&
    rf s (A.TIC_SRC c) 16 10 == p && (startSel s c == src || stopSel s c == src))

/-- Sources that a line samples (R127). -/
def ticLineSrc (src : Nat) : Bool := decide (src < 0x0A) || src == 0x0C || src == 0x0D

/-- Can the current configuration supply a source (R127)? DESIGN CHOICE: PPS_OUT0 and PPS_OUT1 are taken in every mode of the output,
OFF too (log entry 20). -/
def ticSrcOk (s : State) (c src : Nat) : Bool :=
  if src < 4 then let m := rf s (A.SRC_CFG src) 0 2; m == 1 || m == 3
  else if src < 8 then let m := rf s (A.SRC_CFG (src - 4)) 0 2; m == 2 || m == 3
  else if src < 0x0E then true
  else if src = 0x10 ∨ src = 0x11 then ticFt s c && portRole s .keel (rf s (A.TIC_SRC c) 16 10) != .noTiming
  else false

/-- START takes a ticket and calibrates, or is refused (R127, R134). DESIGN CHOICE: a START that CFG_BAD refuses leaves an ENDED channel
ENDED, with its group (log entry 20). -/
def ticStart (c : Nat) (s : State) : State :=
  if 4 ≤ c then s
  else if (tic s c).state = .calibrating ∨ (tic s c).state = .running then raiseFlag (A.TIC_STATUS c) 5 c 12 s
  else if ¬ (ticSrcOk s c (startSel s c) ∧ ticSrcOk s c (stopSel s c)) then setFlag (A.TIC_STATUS c) 4 s
  else
    match nextTicket s with
    | none => raiseFlag (A.TIC_STATUS c) 5 c 12 (noTicket s)
    | some t =>
      modTic c (fun _ => { state := .calibrating, ticket := some t }) (issueAs t 9 (A.TIC_TICKET c) .running s)

/-- TIC_START (R134). -/
def execTicStart (t : Nat) (s : State) : Answer := done (ticStart t s)

/-- Is the calibration of one line accepted (R123)? -/
def calOk (k : TicCal) : Bool :=
  decide (k.k1 + 51200 ≤ k.k2) && decide (k.k2 ≤ k.k1 + 61440) && decide (k.k2 + 128 ≤ 2 * k.k1) && decide (k.k2 ≤ 114560)

/-- A calibration ends: RUNNING, or fault CAL_FAIL (R123). -/
def ticCalDone (c : Nat) (a b : TicCal) (s : State) : State :=
  let x := tic s c
  if ¬ (x.state = .calibrating ∨ (x.state = .running ∧ x.recal)) then s
  else if calOk a ∧ calOk b then
    modTic c (fun x => { x with
      state := .running, recal := false, calStart := a, calStop := b, lastCal := pe s .keel
      lastAccept := if x.state = .calibrating then pe s .keel else x.lastAccept }) s
  else
    ticEnd c 1 (raiseFlag (A.TIC_STATUS c) 3 c 11 (modTic c (fun x => { x with calStart := a, calStop := b }) s))

/-- TIC_CALIBRATION_DONE (R123). -/
def execTicCalibrationDone (t k1s k2s k1e k2e : Nat) (s : State) : Answer :=
  done (ticCalDone t ⟨k1s, k2s⟩ ⟨k1e, k2e⟩ s)

/-- Taps of a delay line: an edge that has left the line by the next sampling edge is not sampled (R122). -/
abbrev ticTaps : Nat := 448

/-- The start line samples an event of the start source. Of a source that both lines time, the stop line's event comes first
(R129). -/
def ticStartEvent (c tap : Nat) (s : State) : State :=
  let e := ticSampled s (tic s c).calStart tap
  if ticLineSrc (startSel s c) ∧ tap < ticTaps then ticArrive c (startSel s c) false e (ticTakeStart c e) s else s

/-- TIC_START_EVENT (R129). -/
def execTicStartEvent (t tap : Nat) (s : State) : Answer := done (ticStartEvent t tap s)

/-- The stop line samples an event of the stop source (R129). -/
def ticStopEvent (c tap : Nat) (s : State) : State :=
  let e := ticSampled s (tic s c).calStop tap
  if ticLineSrc (stopSel s c) ∧ tap < ticTaps then ticArrive c (stopSel s c) true e (ticTakeStop c e) s else s

/-- TIC_STOP_EVENT (R129). -/
def execTicStopEvent (t tap : Nat) (s : State) : Answer := done (ticStopEvent t tap s)

/-- WIN_CLOSE passes (R129). -/
def ticWindowClose (c : Nat) (s : State) : State :=
  match (tic s c).win with
  | some a => if ticPast s c (ticInterval (ticFt s c) a (ticComputed s (now64 s .keel))) then ticClose c s else s
  | none => s

/-- TIC_WINDOW_CLOSE (R129). -/
def execTicWindowClose (t : Nat) (s : State) : Answer := done (ticWindowClose t s)

/-- TIC_TIMEOUT seconds of POWER_ELAPSED without an accepted result (R131). -/
def ticTimeout (c : Nat) (s : State) : State :=
  let x := tic s c
  let n := rn s (A.TIC_TIMEOUT c)
  if x.state = .running ∧ n ≠ 0 ∧ x.lastAccept + 1250000000 * n ≤ pe s .keel then ticEnd c 2 s else s

/-- TIC_TIMEOUT (R131). -/
def execTicTimeout (t : Nat) (s : State) : Answer := done (ticTimeout t s)

/-- ABORT (R131). -/
def execTicAbort (t : Nat) (s : State) : Answer := done (ticEnd t 4 s)

/-- LATCH (R135). -/
def execTicLatch (t : Nat) (s : State) : Answer := done (ticLatch t s)

/-- The channel recalibrates every RECAL_PER seconds, at the first moment with no window open. -/
def ticPeriodic (c : Nat) (s : State) : State :=
  let x := tic s c
  let r := rf s (A.TIC_CTRL c) 16 8
  if x.state = .running ∧ r ≠ 0 ∧ x.win.isNone ∧ x.lastCal + 1250000000 * r ≤ pe s .keel then
    modTic c (fun x => { x with recal := true }) s
  else s

/-- TIC_PERIODIC_RECAL (R123). -/
def execTicPeriodicRecal (t : Nat) (s : State) : Answer := done (ticPeriodic t s)

/-- The launch of a group as this keel has computed it: the one decided that still waits for the twin, else the last one (R128, R183). -/
def tapLaunch (g : Group) : Option Launch :=
  match (g.toTwin.filter (fun y => !y.2.2)).getLast? with
  | some y => some y.1
  | none => g.latest

/-- LAUNCH_TAP of the group in LMON_GROUP fires TAP_LEAD before T, once per launch; its event time is T (R128). -/
def launchTap (k : Nat) (s : State) : State :=
  let g := grp s .keel k
  match tapLaunch g with
  | none => s
  | some l =>
    if k ≠ rf s A.LMON_GROUP 0 6 ∨ g.state ≠ .launching ∨ tfind k s.mus.lastTap = some l.step ∨
        ¬ atOrAfter (now64 s .keel) (ftAdd l.t (-(nsU (rn s A.TAP_LEAD) : Int))) then s
    else
      let s1 := emit (.tap 0x0B l.t) { s with mus := { s.mus with lastTap := tput k l.step s.mus.lastTap } }
      ticAll 0x0B (ticComputed s1 l.t) s1

/-- LAUNCH_TAP_FIRE (R128). -/
def execLaunchTapFire (k : Nat) (s : State) : Answer := done (launchTap k s)

/-- FT_SEC fires at a second boundary while VALID: in the cycle that comes to or past it (R128). -/
def ftSecond (s : State) : State :=
  let t := now s .keel
  if ¬ s.keel.clk.valid ∨ lastCycle s.keel.clk ≤ t.ns.toNat * 2 ^ 32 + t.frac.toNat then s
  else
    let b := fabFt64 { t with ns := 0, frac := 0 }
    ticAll 0x0A (ticComputed s b) (emit (.tap 0x0A b) s)

/-- FT_SEC (R128). -/
def execFtSec (s : State) : Answer := done (ftSecond s)

end Sys2Proof.Machine
end

