-- ==== Sys2Proof/Machine/Msg.lean ====
section
/-! DEFINITION. Timing messages (R52 to R54) and link stamps (R56 to R58, R148). -/

namespace Sys2Proof.Machine

/-- Message types (R52). -/
abbrev tSync : Nat := 1
abbrev tReq : Nat := 2
abbrev tResp : Nat := 3
abbrev tLaunch : Nat := 4
abbrev tArrive : Nat := 5
abbrev tIcal : Nat := 6
abbrev tHealth : Nat := 7
abbrev tHello : Nat := 8

/-- A body of 48 bytes from fields at byte offsets of the message, all other bytes zero. -/
def bodyOf (fields : List (Nat × List Byte)) : List Byte :=
  fields.foldl (fun b f => putAt b (f.1 - 12) f.2) (List.replicate 48 0)

/-- A message: header, body, CRC-32 most significant byte first (R52). -/
def mkMsg (type seq sender : Nat) (body : List Byte) : Raw :=
  let m := toBE 1 type ++ [0x04] ++ toBE 2 seq ++ toBE 4 sender ++ [0, 0, 0, 0] ++ body
  m ++ toBE 4 (crc32 m)

/-- Header fields of a message (R52). -/
def mType (m : Raw) : Nat := getBE m 0 1
def mSeq (m : Raw) : BitVec 16 := BitVec.ofNat 16 (getBE m 2 2)
def mSender (m : Raw) : Nat := getBE m 4 4
def mNode (m : Raw) : Nat := mSender m / 4096
def mPort (m : Raw) : Nat := mSender m % 4096

/-- Is the message whole and its CRC right? -/
def mCrcOk (m : Raw) : Bool := m.length == 64 && getBE m 60 4 == crc32 (m.take 60)

/-- SENDER of a node's messages on a port (R52). -/
def senderOf (s : State) (n : Node) (p : Nat) : Nat := nodeId s n * 4096 + p

/-- Send a message on a port; it takes the next sequence number of its type on the port (R52). -/
def sendMsg (n : Node) (p type : Nat) (body : List Byte) (s : State) : State :=
  let q := (port s n p).seqs.getD (type - 1) 0
  emit (.msg n p (mkMsg type q.toNat (senderOf s n p) body))
    (modPort n p (fun x => { x with seqs := x.seqs.set (type - 1) (q + 1) }) s)

/-- A message that the twin link would carry, as a CTRL frame to a node (R378). -/
def ctrlMsg (dst type : Nat) (body : List Byte) (s : State) : State :=
  let q := (port s .keel 512).seqs.getD (type - 1) 0
  emit (.ctrl dst type ((mkMsg type q.toNat (senderOf s .keel 512) body).map (fun b => b.toNat)))
    (modPort .keel 512 (fun x => { x with seqs := x.seqs.set (type - 1) (q + 1) }) s)

/-- Does a message come in place of the twin link's, by CTRL, while LINK_LOST holds: an ARRIVE (R378)? -/
def byCtrl (s : State) (n : Node) (p type : Nat) : Bool :=
  match n with
  | .keel => p == 512 && type == tArrive && s.tw.link == .linkLost
  | .evxus => false

/-- The pair of pipeline corrections of a port's lane mode: 8-, 4-, 2-, 1-lane, twin link (R58, R88). -/
def pipeAt (s : State) (p : Nat) : Nat :=
  let m := (port s .keel p).mode.toNat
  A.TX_PIPE + 8 * (if m = 4 then 4 else 3 - m)

/-- A length in fs as 2^-16 ns, to nearest, ties to even. -/
def fsU (fs : Nat) : Int := divRNE (fs * 65536 : Nat) 1000000

/-- An edge of a tap's txclk (true) or rxclk in the present cycle, interpolated (R148). -/
def tapEdge (s : State) (tx : Bool) (p : Nat) : BitVec 64 :=
  ftAdd (now64 s .evxus) (Config.tapPhase tx p (pe s .evxus) % 52429 : Nat)

/-- The stamp of a transmission now, at the reference plane, by the route die's copy of time (R56, R148). -/
def txStamp (s : State) (n : Node) (p barrel : Nat) : Stamp :=
  match n with
  | .keel =>
    -- one PAM4 symbol is 1/106.25 ns
    withCopy s (portDie p) (stampAt s .keel (ftAdd (now64 s .keel) (rn s (pipeAt s p) + divRNE (barrel * 262144 : Nat) 425)) 10)
  | .evxus =>
    stampAt s .evxus (ftAdd (tapEdge s true p) (rn s (A.E_TX_LAT p))) ((rn s (A.E_UI_FS p) + 999) / 1000)

/-- The stamp of a reception now, at the reference plane, by the route die's copy of time (R56, R148). -/
def rxStamp (s : State) (n : Node) (p barrel : Nat) : Stamp :=
  match n with
  | .keel =>
    withCopy s (portDie p) (stampAt s .keel (ftAdd (now64 s .keel) (-(rn s (pipeAt s p + 4) + divRNE (barrel * 262144 : Nat) 425))) 10)
  | .evxus =>
    stampAt s .evxus (ftAdd (tapEdge s false p) (-(rn s (A.E_RX_LAT p) + fsU (barrel * rn s (A.E_UI_FS p)))))
      ((rn s (A.E_UI_FS p) + 999) / 1000)

/-- A stamp of a message sent or received on a keel port also reaches the interval channels (R127). -/
def tapStamp (n : Node) (src p : Nat) (t : Stamp) (s : State) : State :=
  match n with
  | .keel => ticStamp src p t s
  | .evxus => s

/-- Every timing message received reaches them with its receive stamp, whatever the node makes of it (R127). -/
def tapHeard (n : Node) (p barrel : Nat) (s : State) : State := tapStamp n 0x11 p (rxStamp s n p barrel) s

/-- The receive stamp of a timing message whose row carries no barrel position, where a channel waits for it (R56,
R127): the position, 0 to 63, is free (log entry 16). -/
def tapOther (n : Node) (p : Nat) (s : State) : State :=
  match n with
  | .keel =>
    if ticHears s 0x11 p then
      let (v, s1) := takeFree s
      ticStamp 0x11 p (rxStamp s .keel p (v % 64)) s1
    else s
  | .evxus => s

/-- A message arrives (R53): with a bad CRC it is discarded and counted, a LINK_ERR event (R397); so is one of an unlisted
TYPE; a node that is out of service takes none (R153). SYNC, REQ and ARRIVE bring their barrel position and
reach the interval channels with their stamp. A message of another listed type does not concern the command. -/
def onMsg (n : Node) (p type : Nat) (m : Raw) (f : State → State) (s : State) : State :=
  if ¬ (nodeRuns s n ∧ (((port s n p).linkUp ∧ portWorks s n p ∧ linkStands s n p) ∨ byCtrl s n p type)) then s
  else if ¬ mCrcOk m then
    (match n with
     | .keel => countEvent A.ETX_CRC_ERR p 4 s
     | .evxus => bump A.E_ETX_CRC_ERR s)
  else if ¬ (1 ≤ mType m ∧ mType m ≤ 8) then bump (nr n A.ETX_UNKNOWN A.E_ETX_UNKNOWN) s
  else if mType m = type then f (if type = tSync ∨ type = tReq ∨ type = tArrive then s else tapOther n p s)
  else s

end Sys2Proof.Machine
end

