-- ==== Sys2Proof/Machine/Egress.lean ====
section
/-! DEFINITION. The way out of the package (15): neighbours, by-pass groups and SPLIT ports, the fabric frame, and the egress queues of
the ports. Route dies count from 0 for die 1. -/

namespace Sys2Proof.Machine

/-- Change the routing side. -/
def modRt (f : RouteSt → RouteSt) (s : State) : State := { s with rt := f s.rt }

/-- A route die. -/
def rdie (s : State) (d : Nat) : RouteDie := tget {} s.rt.dies d
def modRdie (d : Nat) (f : RouteDie → RouteDie) (s : State) : State := modRt (fun r => { r with dies := tmod {} r.dies d f }) s

/-- The neighbour at a port or tap of a node. -/
def nbrOf (s : State) (n : Node) (p : Nat) : Nbr :=
  match n with
  | .keel => tget {} s.rt.nbrs p
  | .evxus => tget {} s.ev.nbrs p

/-- Change the neighbour at a port or tap. -/
def modNbr (n : Node) (p : Nat) (f : Nbr → Nbr) (s : State) : State :=
  match n with
  | .keel => modRt (fun r => { r with nbrs := tmod {} r.nbrs p f }) s
  | .evxus => { s with ev := { s.ev with nbrs := tmod {} s.ev.nbrs p f } }

/-- A by-pass group. -/
def bypOf (s : State) (g : Nat) : Byp := tget {} s.rt.byps g
def modByp (g : Nat) (f : Byp → Byp) (s : State) : State := modRt (fun r => { r with byps := tmod {} r.byps g f }) s

/-- The ports that have a lane of a by-pass group: global group, listed by local lanes (R353, R367). -/
def groupPorts (s : State) (g : Nat) : List Nat :=
  let ls := (tget [] s.cfg.byps g).map (fun l => 128 * (g / 16) + l)
  (s.cfg.ports.filter (fun e => ls.any (fun l => decide (e.1 ≤ l) && decide (l < e.1 + e.2.lanes)))).map (fun e => e.1)

/-- Is a port SPLIT: one of its lanes is on a circuit (R367, R368)? -/
def portSplit (s : State) (p : Nat) : Bool :=
  s.rt.byps.any (fun e => e.2.state != .idle && (groupPorts s e.1).contains p)

/-! Frames (R357). -/

/-- A frame's fabric header and payload (R357). -/
structure Frame where
  dst : Nat
  src : Nat
  cls : Nat
  part : Nat
  ttl : Nat
  flow : Nat
  payload : Raw
  deriving DecidableEq, Repr

def frameOf (m : Raw) : Frame where
  dst := getBE m 0 4
  src := getBE m 4 4
  cls := getBE m 8 1 % 8
  part := getBE m 9 1
  ttl := getBE m 12 1
  flow := getBE m 13 1
  payload := (m.drop 16).take (m.length - 20)

/-- The header check of a frame (R357, R359): whole, its LENGTH its own and within the maximum of its class, bits 7:3 of
CLASS zero, HCRC right. What a frame meets that is malformed otherwise than by its HCRC the spec does not say: DESIGN CHOICE, as where
the HCRC fails (log entry 63). -/
def frameHeadOk (m : Raw) : Bool :=
  decide (20 ≤ m.length) && getBE m 14 2 == crc16 (m.take 14) && getBE m 10 2 == m.length - 20 && decide (getBE m 8 1 < 8) &&
    decide (getBE m 10 2 ≤ if getBE m 8 1 = 2 then 30752 else 4096)

/-- The trailer of a frame, and whether it is the inverted correct one of a stomped frame (R357, R359). -/
def frameTrailOk (m : Raw) : Bool := getBE m (m.length - 4) 4 == crc32 (m.take (m.length - 4))
def frameStomped (m : Raw) : Bool := getBE m (m.length - 4) 4 == 0xFFFFFFFF - crc32 (m.take (m.length - 4))

/-- The frame as it leaves: TTL decremented, HCRC and the trailer formed anew; a stomped one with the inverted trailer. -/
def frameOut (stomp : Bool) (m : Raw) : Raw :=
  let h := putAt m 12 (toBE 1 (getBE m 12 1 - 1))
  let b := putAt h 14 (toBE 2 (crc16 (h.take 14)))
  let body := b.take (b.length - 4)
  body ++ toBE 4 (if stomp then 0xFFFFFFFF - crc32 body else crc32 body)

/-- A frame that the package forms: header and trailer around its payload (R357). -/
def frameMake (f : Frame) : Raw :=
  let h := toBE 4 f.dst ++ toBE 4 f.src ++ toBE 1 f.cls ++ toBE 1 f.part ++ toBE 2 f.payload.length ++ toBE 1 f.ttl ++ toBE 1 f.flow
  let b := h ++ toBE 2 (crc16 h) ++ f.payload
  b ++ toBE 4 (crc32 b)

/-! Egress. -/

/-- Queued bytes of a port, of one class (R366). -/
def queuedBytes (s : State) (p cls : Nat) : Nat :=
  ((tget {} s.rt.egress p).queue.filter (fun f => f.cls == cls)).foldl (fun a f => a + f.bytes) 0

/-- Queue a frame that came in at port `q` for egress at port `p` (R358, R360). -/
def enqueue (p q cls : Nat) (m : Raw) (s : State) : State :=
  modRt (fun r => { r with egress := tmod {} r.egress p (fun e => { e with queue := e.queue ++ [⟨cls, m.length, m, q⟩] }) }) s

/-- Is the class BULK; is it fenced (R347, R358)? -/
def isBulk (c : Nat) : Bool := decide (3 ≤ c) && decide (c ≤ 6)
def isFenced (c : Nat) : Bool := decide (2 ≤ c) && decide (c ≤ 6)

/-- A frame dropped at a fence (R347): counted by the die and by the almanac block. -/
def fenceDrop (d : Nat) (s : State) : State := bump A.FENCE_DROP (bump (A.FENCE_DROP_R370 d) s)

/-- Does a partition own a resource (R347)? A PART of 64 or more is no partition, and owns nothing. -/
def partOwns (s : State) (part : Nat) (r : Res) : Bool := decide (part < 64) && ownerPart s r == part

/-- Ownership of the port that a fenced frame leaves by: a destination (R347). -/
def portOwned (s : State) (f : Frame) (p : Nat) : Bool := partOwns s f.part (.dest p)

/-- A frame leaves through a port `p` of the package, having come in at `q` on route die `d`: fences, a lane that the variant lacks
(R17), MISWIRE, SPLIT, an expelled package, the buffer (R347, R356, R358, R367, R407). One that goes out with the inverted trailer is
counted (R359). -/
def frameToPort (d q p : Nat) (f : Frame) (noBuffer stomp : Bool) (m : Raw) (s : State) : State :=
  if isFenced f.cls ∧ ¬ portOwned s f p then fenceDrop d s
  else if ¬ portMoves s p then s
  else if (tget {} s.rt.nbrs p).miswire ∨ (isFenced f.cls ∧ s.hl.expelled) then s
  else if isFenced f.cls ∧ portSplit s p then bump (A.SPLIT_DROP d) s
  else if f.cls = 2 ∧ noBuffer then bump (A.SCHED_DROP d) s
  else enqueue p q f.cls m (whenDo stomp (bump (A.CT_STOMP d)) s)

/-- The ingress port of a frame that the package itself forms. -/
abbrev fromHere : Nat := 1023

end Sys2Proof.Machine
end

