-- ==== Sys2Proof/Machine/Servo.lean ====
section
/-! DEFINITION. The servo (R66 to R76, R95, R97), steps of fabric time (R29, R41, R44), holdover (R111 to R113), and the
reference states that follow the servo (R114, R115). Offsets are in 2^-16 ns. -/

namespace Sys2Proof.Machine

/-- |x| ≤ a limit in ps, exactly. -/
def absLePs (x : Int) (ps : Nat) : Bool := decide (x.natAbs * 1000 ≤ ps * 65536)

/-- The filtered offset f: the mean of the values kept (R68), as sum and count. -/
def filtSum (v : Servo) : Int := v.filt.foldl (· + ·) 0

/-- f rounded to a unit of 2^-16 ns, as it is reported and sent. -/
def filtMean (v : Servo) : Int := if v.filt.isEmpty then 0 else divRNE (filtSum v) v.filt.length

/-- |f| ≤ a limit in ps, on the exact mean. -/
def filtLe (v : Servo) (ps : Nat) : Bool := decide ((filtSum v).natAbs * 1000 ≤ ps * 65536 * v.filt.length)

/-- |f| < a limit in ps: "below" a dwell's threshold (R69). -/
def filtLt (v : Servo) (ps : Nat) : Bool := decide ((filtSum v).natAbs * 1000 < ps * 65536 * v.filt.length)

/-- Is the node in holdover: nothing selected after a selection, or a jump refusal pending (R111)? -/
def inHoldover (s : State) (n : Node) : Bool := (nd s n).svo.holdEntry.isSome

/-- SERVO_UNC (R66). -/
def servoUnc (s : State) (n : Node) : Nat :=
  let v := (nd s n).svo
  if ¬ (nd s n).clk.valid then 0xFFFFFFFF
  else if isRoot s n then 0
  else if v.open_ then nrn s n A.SW_SERVO_UNC A.E_SW_SERVO_UNC
  else
    match v.stage with
    | .acquire => 0xFFFFFFFF
    | .settle => min (2 * acqThresh s n) 0xFFFFFFFF
    | .track => trackExit s n
    | .hold => v.holdServoUnc.toNat

/-- |Q| of late intercalations still in TIME_UNC (R80), in ps, rounded up. -/
def lateUnc (s : State) (n : Node) : Nat :=
  ((nd s n).icl.late.map (fun x => x.1)).foldl (· + ·) 0 * 1000 / 65536 +
    (if (nd s n).icl.late.isEmpty then 0 else 1)

/-- TIME_UNC in holdover (R112), in ps, rounded down as the figures of R112 and R113 have it: `u0` at entry, `c` cycles since
(log entry 15). -/
def holdUnc (s : State) (n : Node) (u0 c : Nat) : Nat :=
  let f := nrn s n A.HOLD_FERR A.EVU_HOLD_FERR
  let a := nrn s n A.HOLD_AGING A.EVU_HOLD_AGING
  -- ps: f·c·8/10^9 + a·c²·64/(172800·10^19)
  let num := f * c * 8 * 1728000000000000 + a * c * c * 64
  let den := 1728000000000000000000000
  u0 + num / den

/-- PATH_UNC (R66): from the moment a source is selected it is the sum again, though TIME_UNC follows R112 until the servo leaves
HOLD. DESIGN CHOICE: a pin that was selected counts, so that a demoted root that never had an upstream shows its TIME_UNC in
holdover, and not all ones (log entry 15). -/
def pathUnc (s : State) (n : Node) : Nat :=
  let v := (nd s n).svo
  if isRoot s n ∧ (nd s n).clk.valid then 0
  else if inHoldover s n ∧ ((nd s n).ref.selected.isNone ∨ v.jumpPending) then timeUnc s n
  else if ¬ v.everSelected then 0xFFFFFFFF
  else
    match selPort s n with
    | some p => min ((port s n p).upPathUnc.toNat + hopUnc s n p) 0xFFFFFFFF
    | none => timeUnc s n

/-- Recompute TIME_UNC (R42, R66, R112). -/
def uncUpdate (n : Node) (s : State) : State :=
  let c := (nd s n).clk
  let u : Nat :=
    if ¬ c.valid then 0xFFFFFFFF
    else if isRoot s n then 0
    else
      match (nd s n).svo.holdEntry with
      | some (u0, e) => holdUnc s n u0.toNat (c.pe.toNat - e) + lateUnc s n
      | none => pathUnc s n + servoUnc s n + lateUnc s n
  modClk n (fun c => { c with unc := BitVec.ofNat 32 (min u 0xFFFFFFFF) }) s

/-- TIME_UNC_UPDATE: every 1 ms (R42). -/
def execTimeUncUpdate (n : Node) (s : State) : Answer := done (uncUpdate n s)

/-- Note in the addend's history what holds from now on (R111). -/
def histNote (n : Node) (s : State) : State :=
  let c := (nd s n).clk
  modSvo n (fun v =>
    let settled := v.stage = .settle ∨ v.stage = .track
    match v.hist with
    | (_, a, b) :: _ => if a = c.addend ∧ b = decide settled then v
                        else { v with hist := (c.pe.toNat, c.addend, decide settled) :: v.hist }
    | [] => { v with hist := [(c.pe.toNat, c.addend, decide settled)] }) s

/-- The limits of TIME_ADDEND (R27). -/
abbrev addendMin : Nat := 0xCCC25072
abbrev addendMax : Nat := 0xCCD74928
/-- The nominal TIME_ADDEND (R26). -/
abbrev addendNom : Nat := 0xCCCCCCCD

/-- Set TIME_ADDEND, clamped with ADDEND_CLAMP (R27). -/
def setAddend (n : Node) (v : Int) (s : State) : State :=
  let x := clampInt addendMin addendMax v
  let s1 := whenDo (decide (x ≠ v)) (nFlag n A.TIME_STATUS A.E_TIME_STATUS 2) s
  histNote n (modClk n (fun c => { c with addend := BitVec.ofInt 64 x }) s1)

/-- Cycles of settled history, and the sum of addend × cycles over them, no more than `lim` cycles: walked back from
cycle `stop`, `until_` being the end of the entry in hand (R111). -/
def histSum : List (Nat × BitVec 64 × Bool) → Nat → Nat → Nat → Nat × Nat
  | [], _, _, _ => (0, 0)
  | (from_, a, b) :: r, until_, stop, lim =>
    let d := if b then min (min until_ stop - from_) lim else 0
    let (c, t) := histSum r from_ stop (lim - d)
    (c + d, t + d * a.toNat)

/-- The holdover value of TIME_ADDEND at this moment (R111). -/
def holdoverValue (s : State) (n : Node) : Int :=
  let c := (nd s n).clk
  let (k, t) := histSum (nd s n).svo.hist c.pe.toNat (c.pe.toNat - secC 2)
    (secC (nrn s n A.HOLD_AVG A.EVU_HOLD_AVG))
  if k < secC 2 then c.addend.toNat else divRNE t k

/-- The sum of TIME_ADDEND over the cycles from `e0` to `e1`, in 2^-32 ns: nominal before its first change. -/
def addendSum (v : Servo) (e0 e1 : Nat) : Nat :=
  let (k, t) := histSum (v.hist.map (fun x => (x.1, x.2.1, true))) e1 e1 (e1 - e0)
  t + (e1 - e0 - k) * 0xCCCCCCCD

/-- Has the servo spent 2 s in SETTLE or TRACK since COLD reset (R99)? -/
def hasHoldover (s : State) (n : Node) : Bool :=
  let e := (nd s n).clk.pe.toNat
  decide (secC 2 ≤ (histSum (nd s n).svo.hist e e e).1)

/-- REF_HIST bit of a node (R120, R166); on the package its setting is an event, of class RECORD (R115, R396; log entry 64). -/
def refHist (n : Node) (i : Nat) (s : State) : State := nRaise n A.REF_HIST A.EVU_HIST i 0 13 s

/-- Put REF_STATE, with the history bit of the entry (R115). -/
def refTo (n : Node) (t : RefState) (s : State) : State :=
  let was := (nd s n).ref.state
  if was = t then s
  else
    let s1 := modRef n (fun r => { r with state := t }) s
    let s2 := match t with
      | .acquire => refHist n 0 s1
      | .locked => refHist n 1 s1
      | .holdover => refHist n 2 s1
      | .dispute => refHist n 3 s1
      | .freerun => s1
    uncUpdate n s2

/-- REF_STATE by stage, while something is selected and no dispute or refusal is pending (R114, R115). -/
def refByStage (n : Node) (s : State) : State :=
  let r := (nd s n).ref
  if r.disputed then refTo n .dispute s
  else if (nd s n).svo.jumpPending then refTo n .holdover s
  else if r.selected.isSome then
    (if (nd s n).svo.stage = .track then refTo n .locked s else refTo n .acquire s)
  else s

/-- Leave holdover: a source is selected and no jump refusal is pending (R111, R112). -/
def leaveHoldover (n : Node) (s : State) : State :=
  modSvo n (fun v => { v with holdEntry := none }) (modRef n (fun r => { r with holdSince := none, holdAged := false }) s)

/-- Is VALID set at an entry to SETTLE or TRACK: on the way out of ACQUIRE, straight or by HOLD, with the oscillator present
(R40, R423)? The root takes VALID from an epoch set only. -/
def entryValid (s : State) (n : Node) : Bool :=
  let st := (nd s n).svo.stage
  !isRoot s n && (nd s n).clk.oscOk && (st == .acquire || st == .hold)

/-- Enter a stage (R70): its history bit, the ACQUIRE cause of UNSURE, VALID (R40), the reference state, TIME_UNC. Holdover
lasts while nothing is selected or a jump refusal is pending (R111). The cause is set on entry to ACQUIRE alone, so a root that
stands in ACQUIRE when an epoch set makes it VALID has none (R44, log entry 15). -/
def enterStage (n : Node) (t : Stage) (s : State) : State :=
  let e := pe s n
  let ok := entryValid s n
  let still := t == .hold || (nd s n).svo.jumpPending || (nd s n).ref.selected.isNone
  let s0 := modRef n (fun r => { r with
    holdSince := if still then r.holdSince else none, holdAged := r.holdAged && still }) s
  let s1 := nRaise n A.SERVO_STATUS A.E_SERVO_STATUS (4 + stageCode t) 0 13 s0
  let s2 := modSvo n (fun v => { v with
    stage := t, stageSince := e, dwell := 0
    holdEntry := if still then v.holdEntry else none }) s1
  let s3 := match t with
    | .acquire => modClk n (fun c => { c with causeAcq := c.causeAcq || c.valid }) s2
    | .settle => modClk n (fun c => { c with causeAcq := false, valid := c.valid || (ok && c.oscOk) }) s2
    | .track => modClk n (fun c => { c with causeAcq := false, valid := c.valid || (ok && c.oscOk) }) s2
    | .hold => s2
  uncUpdate n (refByStage n (histNote n s3))

/-- Entry to holdover: TIME_UNC and SERVO_UNC as they stand, the addend at its holdover value (R66, R111, R112). A node that
has not left HOLD since its last holdover goes on with the growth of TIME_UNC. -/
def enterHoldover (n : Node) (s : State) : State :=
  let a := holdoverValue s n
  let u := timeUnc s n
  let su := servoUnc s n
  let e := pe s n
  if (nd s n).ref.holdSince.isSome then s
  else
    let s1 := whenDo (nd s n).svo.holdEntry.isNone
      (modSvo n (fun v => { v with holdEntry := some (BitVec.ofNat 32 u, e), holdServoUnc := BitVec.ofNat 32 su })) s
    setAddend n a (modRef n (fun r => { r with holdSince := some e, holdAged := false }) s1)

/-- No upstream is selected any more: HOLD (R70). -/
def toHold (n : Node) (s : State) : State :=
  enterStage n .hold (modSvo n (fun v => { v with change := none, overs := [], under := 0 }) (enterHoldover n s))

/-- Log a step of the package's time (R471). DESIGN CHOICE (log entry 53): the entry of R401 has no place for the values before
and after and for POWER_ELAPSED; they stand in the entry's `step`, which no read and no export shows. -/
def logStep (n : Node) (before after : FabTime) (s : State) : State :=
  match n with
  | .evxus => s
  | .keel => event { regEvent s A.TIME_STATUS 0 13 3 with step := some (before, after, s.keel.clk.pe) } s

/-- Is a snapshot armed whose T_snap had not come at a time (R451)? -/
def snapAhead (x : SnapSt) (t : FabTime) : Bool := x.state == .armed && !fullAtOrAfter t x.time

/-- A jump or an epoch set has stepped the node's time, which was `b` (R44; R135 for channels; R451 for a snapshot that waits for its
T_snap). -/
def stepMark (n : Node) (b : FabTime) (s : State) : State :=
  let s1 := nFlag n A.TIME_STATUS A.E_TIME_STATUS 3
    (modClk n (fun c => { c with stepUntil := some (c.pe.toNat + 12500000) }) s)
  match n with
  | .evxus => s1
  | .keel =>
    let s2 := ticStep s1
    if snapAhead s2.host.snap b then
      { s2 with host := { s2.host with snap := { s2.host.snap with state := .failed, fault := 1, shadow := [] } } }
    else s2

/-- The anchors of a pin's 100 ns grid move with fabric time: the edges themselves did not (R93). What a virtual reference's
window holds of x_total from before the step measures nothing (R99). -/
def srcStep (d : Int) (x : Source) : Source :=
  { x with win := [], grid := x.grid.map (fun g => cres (g + d) secU), edge := x.edge.map (fun g => cres (g + d) grid100) }

/-- The time of the last intercalation moves with a step, so that the spacing of R77 goes on over the time since it; one still to
come keeps its APPLY time. -/
def applyStep (d : Int) (i : IcalSt) : IcalSt :=
  if i.pend.isEmpty then { i with lastApply := i.lastApply.map (fun l => fabAdd l d) } else i

/-- The node's time becomes another in one cycle, and the step is logged. What was latched of a far pin's phase moves with it, as
the grid of a FREQ10 pin does (R96). -/
def stepTo (n : Node) (a : FabTime) (s : State) : State :=
  let b := now s n
  let d := fullDiff a b
  let s1 := modIcl n (applyStep d) (modClk n (fun c => { c with now := a, moved := some 1 }) s)
  logStep n b a (modRef n (fun r => { r with
    srcs := r.srcs.map (srcStep (d / 65536)), farOfs := if r.phaseFar then cres (r.farOfs + d / 65536) secU else r.farOfs }) s1)

/-- The latched phase relations as they stood before a step. -/
def phaseKept (n : Node) (s t : State) : State :=
  let was := (nd s n).ref
  modRef n (fun r => { r with
    farOfs := was.farOfs
    srcs := (r.srcs.zip was.srcs).map (fun x => if x.2.edge.isNone then { x.1 with grid := x.2.grid } else x.1) }) t

/-- Step the node's time by some 2^-16 ns, and log it. -/
def stepTime (n : Node) (d : Int) (s : State) : State := stepTo n (fabAdd (now s n) (d * 65536)) s

/-- Discard every pending intercalation, each counted (R75); the last one that counts for the spacing is then the last applied
(R77). -/
def icalDiscard (n : Node) (s : State) : State :=
  modIcl n (fun i => { i with
    pend := [], lastApply := if i.pend.isEmpty then i.lastApply else i.recent.head?.map (fun x => x.1) })
    (forAll (nd s n).icl.pend (fun _ s => icalDrop n s) s)

/-- Adopt an upstream's ICAL_SEQ and ICAL_SUM (R75, R79, R81). -/
def icalAdopt (n : Node) (seq : BitVec 16) (sum : BitVec 32) (s : State) : State :=
  modIcl n (fun i => { i with known := true, seq := seq, sum := sum, recent := [],
                              pend := i.pend.filter (fun x => decide (0 < seqDiff x.seq seq)) }) s

/-- The last sequence number applied or pending, and the sum with it (R79). -/
def icalLast (i : IcalSt) : BitVec 16 :=
  match i.pend.getLast? with
  | some x => x.seq
  | none => i.seq
def icalSumLast (i : IcalSt) : BitVec 32 := i.pend.foldl (fun a y => a + BitVec.ofInt 32 y.q) i.sum

/-- What the twin needs to continue the sequence and the pull goes over the twin link: the last sequence number and the sum with it,
the remainder, and the last APPLY time, which the spacing of R77 starts from (R82, R377). -/
def icalMirror (s : State) : State :=
  let i := s.keel.icl
  mirrorSplit 2 ([(icalLast i).toNat, (icalSumLast i).toNat, enc 64 i.remain] ++
    (i.lastApply.toList.flatMap (fun t => [t.sec.toNat, t.ns.toNat, t.frac.toNat]))) s

/-- The later of two APPLY times: a sequence adopted from a SYNC came without one (R77, R81). -/
def laterApply (a b : Option FabTime) : Option FabTime :=
  match a, b with
  | some x, some y => if fullAtOrAfter x y then some x else some y
  | x, y => x.or y

/-- Continue from a mirrored sequence number, sum, remainder and APPLY time where they are ahead of the own ones, or none are known
(R82): what the mirror shows applied and this package has not seen stands in its sum at once; its own pending ones are still
applied. -/
def icalContinue (seq : BitVec 16) (sum : BitVec 32) (remain : Int) (last : Option FabTime) (s : State) : State :=
  modIcl .keel (fun i =>
    let apply := laterApply last i.lastApply
    if i.known ∧ seqDiff seq (icalLast i) ≤ 0 then { i with remain := remain, lastApply := apply }
    else
      match i.pend.getLast? with
      | none => { i with known := true, seq := seq, sum := sum, recent := [], remain := remain, lastApply := apply }
      | some x => { i with
          known := true, sum := i.sum + (sum - icalSumLast i), recent := [], remain := remain, lastApply := apply
          pend := i.pend.dropLast ++ [{ x with seq := seq }] }) s

/-- A far phase is resolved: by PULL_REQ, or by an epoch set with ALIGN_PPS (R96). -/
def phaseResolved (s : State) : State := modRef .keel (fun r => { r with phaseFar := false, farOfs := 0 }) s

/-- Gains of a stage, 8.24: kp, ki (R69, R87). -/
def gains (s : State) (n : Node) : Stage → Nat × Nat
  | .hold => (0, 0)
  | .acquire => (nrn s n A.KP_ACQ A.E_KP_ACQ, nrn s n A.KI_ACQ A.E_KI_ACQ)
  | .settle => (nrn s n A.KP_SET A.E_KP_SET, nrn s n A.KI_SET A.E_KI_SET)
  | .track => (nrn s n A.KP_TRK A.E_KP_TRK, nrn s n A.KI_TRK A.E_KI_TRK)

/-- The addend of a correction y in 2^-40 ppb: nominal × (1 − y·10⁻⁹), to nearest, ties to even (R68). -/
def addendOf (y : Int) : Int :=
  divRNE (addendNom * (2 ^ 40 * 1000000000) - addendNom * y) (2 ^ 40 * 1000000000)

/-- acc of an addend: the inverse, to nearest (R73). -/
def accOf (a : BitVec 64) : Int := divRNE (((addendNom : Int) - a.toNat) * (2 ^ 40 * 1000000000)) addendNom

/-- One update of the loop (R68); at the primary root only the integral path drives the addend (R71), a PPS-mode pin
takes the TRACK gains with ki × 4,000 (R95), and after a change of source the integral path moves by at most
FREQ_SLOPE per second (R97). `per` is the time since the last update in units of 250 µs. -/
def loopUpdate (n : Node) (e : Int) (per : Nat) (s : State) : State :=
  let v := (nd s n).svo
  let (kp0, ki0) := gains s n (if per = 4000 then .track else v.stage)
  let kp := if isRoot s n then 0 else kp0
  let ki := if per = 4000 then ki0 * 4000 else ki0
  let d : Int := ki * e
  -- FREQ_SLOPE, 0.1 ppb/s over `per` × 250 µs, in 2^-40 ppb
  let lim : Int := (rn s A.FREQ_SLOPE * per * 2 ^ 40 / 40000 : Nat)
  let d1 := if isRoot s n ∧ v.sloped then clampInt (-lim) lim d else d
  let s1 := modSvo n (fun v => { v with acc := v.acc + d1 }) s
  setAddend n (addendOf ((nd s1 n).svo.acc + kp * e)) s1

/-- A dwell of 0 acts as 1 (R69); for a PPS-mode pin it is divided by 4,000 and rounded up (R95). -/
def dwellOf (per d : Nat) : Nat := max 1 (if per = 4000 then (d + 3999) / 4000 else d)

/-- The stage that the upstream-change rule chooses by |f|, if no jump refusal (R70). -/
def changeStage (s : State) (n : Node) : Option Stage :=
  let v := (nd s n).svo
  if filtLe v (trackExit s n) then some .track
  else if filtLe v (2 * acqThresh s n) then some .settle
  else if filtLe v (jumpLimit s n * 1000) then some .acquire
  else none

/-- Jump refusal is entered (R74): `l` holds the offending values; their mean is rounded to nearest, ties to even (log entry
15). -/
def refuseJump (n : Node) (l : List Int) (s : State) : State :=
  let mean := divRNE (l.foldl (· + ·) 0) l.length
  let s1 := nRaise n A.JUMP_CTRL A.E_JUMP_CTRL 0 0 11 (enterHoldover n s)
  let s2 := modSvo n (fun v => { v with jumpPending := true, jumpOffset := mean, overs := [], under := 0, change := none }) s1
  uncUpdate n (refByStage n (modClk n (fun c => { c with causeJump := true }) s2))

/-- The stage after the upstream-change rule, or a jump refusal, which never applies while VALID = 0 (R70). -/
def chooseStage (n : Node) (s : State) : State :=
  let s1 := modSvo n (fun v => { v with change := none }) s
  match changeStage s1 n with
  | some t => enterStage n t s1
  | none => if (nd s1 n).clk.valid then refuseJump n (nd s1 n).svo.filt s1 else enterStage n .acquire s1

/-- The transitions of a stage that an accepted exchange may complete (R70). -/
def stageMove (n : Node) (per : Nat) (s : State) : State :=
  let v := (nd s n).svo
  match v.stage with
  | .hold => s
  | .acquire =>
    if filtLt v (acqThresh s n) then
      (if dwellOf per (acqDwell s n) ≤ v.dwell + 1 then enterStage n .settle s
       else modSvo n (fun v => { v with dwell := v.dwell + 1 }) s)
    else modSvo n (fun v => { v with dwell := 0 }) s
  | .settle =>
    if ¬ filtLe v (2 * acqThresh s n) then enterStage n .acquire s
    else if filtLt v (trackThresh s n) then
      (if dwellOf per (trackDwell s n) ≤ v.dwell + 1 then enterStage n .track s
       else modSvo n (fun v => { v with dwell := v.dwell + 1 }) s)
    else modSvo n (fun v => { v with dwell := 0 }) s
  | .track =>
    if ¬ filtLe v (2 * acqThresh s n) then enterStage n .acquire s
    else if ¬ filtLe v (trackExit s n) then enterStage n .settle s
    else s

/-- What the servo is given: the error, its place in units of 250 µs, and of a follower's exchange the upstream's
intercalation state and the entry of the measurement FIFO. -/
structure ServoIn where
  e : Int
  per : Nat := 1
  ical : Option (BitVec 16 × BitVec 32) := none
  meas : Option Meas := none
  deriving DecidableEq, Repr

/-- The depth of the measurement FIFO (R72, R165). -/
def fifoDepth : Node → Nat
  | .keel => 256
  | .evxus => 16

/-- Every accepted exchange on the selected upstream is written to the FIFO while OPEN; a full FIFO loses it (R72, R73). -/
def measPush (n : Node) (x : ServoIn) (s : State) : State :=
  match x.meas with
  | none => s
  | some m =>
    if ¬ (nd s n).svo.open_ then s
    else if fifoDepth n ≤ (nd s n).svo.fifo.length then bump (nr n A.MEAS_OVF A.E_MEAS_OVF) s
    else modSvo n (fun v => { v with fifo := v.fifo ++ [m] }) s

/-- Adopt what the exchange says of the upstream's intercalations. -/
def servoAdopt (n : Node) (x : ServoIn) (s : State) : State :=
  match x.ical with
  | some (q, u) => icalAdopt n q u s
  | none => s

/-- The acquisition step of a node with VALID = 0 (R29, R70, R79). DESIGN CHOICE: the x_total that it removes does not enter the
filtered offset, which keeps the values from before the step (log entry 15). -/
def acquireStep (n : Node) (x : ServoIn) (clear : Bool) (s : State) : State :=
  let s1 := servoAdopt n x (stepTime n (-x.e) s)
  enterStage n .acquire (modSvo n (fun v => { v with
    acquired := true, change := none, overs := [], holdEntry := none, acc := if clear then 0 else v.acc }) s1)

/-- A granted step (R75). It goes toward the selected source: the phase latched of a FREQ10 pin, or of a far one, stands as it was
(R93, R96). -/
def grantedStep (n : Node) (x : ServoIn) (s : State) : State :=
  let s1 := stepMark n (now s n) (phaseKept n s (stepTime n (-x.e) (icalDiscard n s)))
  let s2 := servoAdopt n x s1
  let s3 := modSvo n (fun v => { v with
    jumpPending := false, grant := false, jumpResult := .applied, acc := 0, overs := [], under := 0, change := none,
    holdEntry := none }) s2
  enterStage n .acquire (modClk n (fun c => { c with causeJump := false }) s3)

/-- JUMP_PENDING clears without a step; a grant held lapses (R76). While OPEN no threshold chooses a stage (R72). -/
def refusalEnds (n : Node) (s : State) : State :=
  let s1 := modSvo n (fun v => { v with
    jumpPending := false, under := 0, grantDeferred := false
    jumpResult := if v.grant ∨ v.grantDeferred then .ignored else v.jumpResult, grant := false }) s
  let s2 := modClk n (fun c => { c with causeJump := false }) s1
  if (nd s2 n).svo.open_ then uncUpdate n (refByStage n (leaveHoldover n s2)) else chooseStage n s2

/-- An accepted exchange within JUMP_LIMIT goes through the loop (R68, R70, R72, R76). -/
def servoWithin (n : Node) (x : ServoIn) (s : State) : State :=
  let s1 := modSvo n (fun v => { v with overs := [], filt := (x.e :: v.filt).take 16 }) s
  let v := (nd s1 n).svo
  if v.jumpPending then
    (if 16 ≤ v.under + 1 then refusalEnds n s1 else modSvo n (fun v => { v with under := v.under + 1 }) s1)
  else if v.open_ then s1
  else
    let s2 := if v.stage = .hold then s1 else loopUpdate n x.e x.per s1
    match v.change with
    | some k => if 16 ≤ k + 1 then chooseStage n s2 else modSvo n (fun v => { v with change := some (k + 1) }) s2
    | none => stageMove n x.per s2

/-- Does an armed launch line of the Evxus keep a granted step back (R156)? -/
def grantHeld (s : State) (n : Node) : Bool :=
  match n with
  | .evxus => s.ev.lines.any (fun l => l.armed.isSome)
  | .keel => false

/-- An accepted exchange of a VALID node beyond JUMP_LIMIT: never fed to the loop; the eighth in a row is refused; among the
first 16 on a new selection it counts, and f takes it (R68, R70); a grant held steps, or waits again for a line armed since
(R74, R75, R156). -/
def servoBeyond (n : Node) (x : ServoIn) (s : State) : State :=
  let v := (nd s n).svo
  if v.jumpPending then
    (if v.grant then
       (if grantHeld s n then
          setFlag A.EV_ERR_STAT 6 (modSvo n (fun v => { v with under := 0, grant := false, grantDeferred := true }) s)
        else grantedStep n x s)
     else modSvo n (fun v => { v with under := 0 }) s)
  else
    let l := x.e :: v.overs
    if 8 ≤ l.length then refuseJump n l s
    else
      let s1 := modSvo n (fun v => { v with overs := l }) s
      match v.change with
      | some k =>
        if v.open_ then s1
        else
          let s2 := modSvo n (fun v => { v with filt := (x.e :: v.filt).take 16 }) s1
          if 16 ≤ k + 1 then chooseStage n s2 else modSvo n (fun v => { v with change := some (k + 1) }) s2
      | none => s1

/-- An accepted exchange on the selected upstream, or a phase measurement of the root's selected pin (R68 to R76, R95).
JUMP_LIMIT is in ns. A root before its epoch set takes no acquisition step (R40), and a value beyond JUMP_LIMIT is not fed to
its loop either. Without its oscillator the counter freewheels, and the servo takes nothing (R423). -/
def servoTake (n : Node) (x : ServoIn) (s : State) : State :=
  let s0 := measPush n x s
  let far := !absLePs x.e (jumpLimit s n * 1000)
  if ¬ (nd s n).clk.oscOk then s0
  else if (nd s n).clk.valid then (if far then servoBeyond n x s0 else servoWithin n x s0)
  else if isRoot s n then (if far then s0 else servoWithin n x s0)
  else if ¬ (nd s n).svo.acquired then acquireStep n x false s0
  else if far then acquireStep n x true s0
  else servoWithin n x s0

/-- ACQ_SLOW: 2 s in ACQUIRE (R70); stage time limits are frozen while OPEN (R72). -/
def acqSlow (n : Node) (s : State) : State :=
  let v := (nd s n).svo
  if v.stage = .acquire ∧ ¬ v.open_ ∧ v.stageSince + secC 2 ≤ pe s n then
    nRaise n A.SERVO_STATUS A.E_SERVO_STATUS 8 0 13 s
  else s

/-- ACQ_SLOW (R70). -/
def execAcqSlow (n : Node) (s : State) : Answer := done (acqSlow n s)

/-- SETTLE_SLOW: 20 s in SETTLE (R70). -/
def settleSlow (n : Node) (s : State) : State :=
  let v := (nd s n).svo
  if v.stage = .settle ∧ ¬ v.open_ ∧ v.stageSince + secC 20 ≤ pe s n then
    nRaise n A.SERVO_STATUS A.E_SERVO_STATUS 9 0 13 s
  else s

/-- SETTLE_SLOW (R70). -/
def execSettleSlow (n : Node) (s : State) : Answer := done (settleSlow n s)

/-- RESTART: ACQUIRE with acc cleared; the integral path starts afresh from the nominal addend (R70, R97). DESIGN CHOICE: with
nothing selected too, where the node then stands in ACQUIRE though HOLD means that none is (log entry 15). -/
def servoRestart (n : Node) (s : State) : State :=
  enterStage n .acquire (modSvo n (fun v => { v with acc := 0, change := none, sloped := false }) s)

/-- SERVO_RESTART (R70). -/
def execServoRestart (n : Node) (s : State) : Answer := done (evHold n (.servoRestart n) (servoRestart n) s)

/-- SERVO_MODE = OPEN (R72). -/
def servoOpen (n : Node) (s : State) : State :=
  uncUpdate n (setFlag (nr n A.SERVO_CTRL A.E_SERVO_CTRL) 0 (modSvo n (fun v => { v with open_ := true }) s))

/-- SERVO_MODE_OPEN (R72). -/
def execServoModeOpen (n : Node) (s : State) : Answer := done (evHold n (.servoModeOpen n) (servoOpen n) s)

/-- SERVO_MODE = CLOSED: acc from the current addend, the stage by the upstream-change rule (R73); what is left of a slew goes on
until it is spent (R72). -/
def servoClosed (n : Node) (s : State) : State :=
  if ¬ (nd s n).svo.open_ then s
  else
    let a := (nd s n).clk.addend
    let sel := (nd s n).ref.selected.isSome
    let s1 := modSvo n (fun v => { v with open_ := false, acc := accOf a, change := if sel then some 0 else none }) s
    uncUpdate n (clrFlag (nr n A.SERVO_CTRL A.E_SERVO_CTRL) 0 s1)

/-- SERVO_MODE_CLOSED (R73). -/
def execServoModeClosed (n : Node) (s : State) : Answer := done (evHold n (.servoModeClosed n) (servoClosed n) s)

/-- A write of TIME_ADDEND takes effect only while OPEN, clamped (R27, R86). -/
def addendWrite (n : Node) (v : DWord) (s : State) : State :=
  if (nd s n).svo.open_ then setAddend n v.toNat s else s

/-- TIME_ADDEND (R27). -/
def execTimeAddend (n : Node) (v : DWord) (s : State) : Answer := done (evHold n (.timeAddend n v) (addendWrite n v) s)

/-- A SLEW request while OPEN, at most ±1 µs; it replaces the unspent remainder (R72). -/
def slewWrite (n : Node) (v : Word) (s : State) : State :=
  if (nd s n).svo.open_ then
    modClk n (fun c => { c with slew := clampInt (-65536000) 65536000 v.toInt * 65536 }) s
  else s

/-- SLEW (R72). -/
def execSlew (n : Node) (v : Word) (s : State) : Answer := done (evHold n (.slew n v) (slewWrite n v) s)

/-- The temporary addend offset of 200 ppm in one cycle: 0.16 ps, in 2^-32 ns (R72). -/
abbrev slewStep : Int := 687195

/-- What a slew in progress adds in a cycle: at most 200 ppm, and the addend with it stays within its limits (R27, R29, R72). -/
def slewOf (c : Clock) : Int :=
  clampInt addendMin addendMax (c.addend.toNat + clampInt (-slewStep) slewStep c.slew) - c.addend.toNat

/-- A slew request that one cycle of the offset covers is spent: its rest is applied and the offset ends (R72). -/
def slewSpent (n : Node) (s : State) : State :=
  let c := (nd s n).clk
  if slewOf c = c.slew then modClk n (fun c => { c with now := fabAdd c.now c.slew, slewed := c.slewed + c.slew, slew := 0 }) s
  else s

/-- SLEW_SPENT (R72). -/
def execSlewSpent (n : Node) (s : State) : Answer := done (slewSpent n s)

/-- A read of SERVO_MEAS word 0 pops the head and latches words 1 to 3 (R87); an empty FIFO reads zero. -/
def measPop (n : Node) (s : State) : State :=
  let a := nr n A.SERVO_MEAS A.E_SERVO_MEAS
  match (nd s n).svo.fifo with
  | [] => wn a 0 (wn (a + 4) 0 (wn (a + 8) 0 (wn (a + 12) 0 { s with host := { s.host with rdata := 0 } })))
  | m :: r =>
    let w := m.port * 65536 + m.seq.toNat
    let s1 := wn a w (wr (a + 4) (sat32 m.x) (wr (a + 8) (satU32 m.dly) (wr (a + 12) (sat32 m.corr) s)))
    modSvo n (fun v => { v with fifo := r }) { s1 with host := { s1.host with rdata := BitVec.ofNat 64 w } }

/-- SERVO_MEAS_POP (R87). -/
def execServoMeasPop (n : Node) (s : State) : Answer := done (evHold n (.servoMeasPop n) (measPop n) s)

/-- Is any launch line of the Evxus armed, or any sequencer of the package not IDLE (R156, R210)? -/
def stepHeld (s : State) (n : Node) : Bool :=
  match n with
  | .evxus => s.ev.lines.any (fun l => l.armed.isSome)
  | .keel => s.die.seqs.any (fun q => q.2.state == .running)

/-- JUMP_ALLOW (R75, R76), deferred while a line is armed or a sequencer runs (R156, R210). -/
def jumpAllow (n : Node) (s : State) : State :=
  let v := (nd s n).svo
  if v.grant ∨ v.grantDeferred then s
  else if ¬ v.jumpPending then modSvo n (fun v => { v with jumpResult := .ignored }) s
  else if stepHeld s n then
    nFlag n A.SCH_STAT A.EV_ERR_STAT (match n with | .keel => 8 | .evxus => 6)
      (modSvo n (fun v => { v with grantDeferred := true }) s)
  else modSvo n (fun v => { v with grant := true, jumpResult := .granted }) s

/-- JUMP_ALLOW (R75). -/
def execJumpAllow (n : Node) (s : State) : Answer := done (evHold n (.jumpAllow n) (jumpAllow n) s)

/-- Is everything at rest that a deferred grant waits for: no line armed; every sequencer IDLE (R156, R210)? -/
def stepFree (s : State) (n : Node) : Bool :=
  match n with
  | .evxus => !s.ev.lines.any (fun l => l.armed.isSome)
  | .keel => s.die.seqs.all (fun q => q.2.state == .idle)

/-- A deferred grant takes effect (R156, R210). -/
def deferRelease (n : Node) (s : State) : State :=
  if (nd s n).svo.grantDeferred ∧ stepFree s n then
    modSvo n (fun v => { v with grant := v.jumpPending, grantDeferred := false,
                                jumpResult := if v.jumpPending then .granted else .ignored }) s
  else s

/-- JUMP_DEFER_RELEASE (R156, R210). -/
def execJumpDeferRelease (n : Node) (s : State) : Answer := done (deferRelease n s)

end Sys2Proof.Machine
end

