-- ==== Sys2Proof/Machine/Ref.lean ====
section
/-! DEFINITION. Reference sources, monitors, selection, warm-up (R90 to R115). Sources 0 to 3 are REF_A to REF_D, 4 and 5
UPSTREAM_A and UPSTREAM_B. Frequencies are in 0.001 ppb. -/

namespace Sys2Proof.Machine

/-- A source of a node. -/
def src (s : State) (n : Node) (i : Nat) : Source := (nd s n).ref.srcs.getD i {}

/-- Change a source. -/
def modSrc (n : Node) (i : Nat) (f : Source → Source) (s : State) : State :=
  modRef n (fun r => { r with srcs := r.srcs.set i (f (r.srcs.getD i {})) }) s

/-- Limits of the monitors. -/
def wtr (s : State) (n : Node) : Nat := nrn s n A.WTR A.EVU_WTR
def disputeLimit (s : State) (n : Node) : Nat := nrn s n A.DISPUTE_LIMIT A.EVU_DISPUTE_LIMIT * 1000
def acceptLimit (s : State) (n : Node) : Nat := nrn s n A.ACCEPT_LIMIT A.EVU_ACCEPT_LIMIT * 1000
def rejectLimit (s : State) (n : Node) : Nat := nrn s n A.REJECT_LIMIT A.EVU_REJECT_LIMIT * 1000
def driftLimit (s : State) (n : Node) : Nat := nrn s n A.DRIFT_LIMIT A.EVU_DRIFT_LIMIT
def driftTime (s : State) (n : Node) : Nat := nrn s n A.DRIFT_TIME A.EVU_DRIFT_TIME
def requalTime (s : State) (n : Node) : Nat := nrn s n A.REQUAL_TIME A.EVU_REQUAL_TIME

/-- Pin modes (R90, R120): 0 OFF, 1 PPS, 2 FREQ10, 3 BOTH. -/
def pinMode (s : State) (i : Nat) : Nat := rf s (A.SRC_CFG i) 0 2

/-- Does a node have a source: a pin that is not OFF, a virtual reference that is bound (R90, R92)? -/
def srcPresent (s : State) (n : Node) (i : Nat) : Bool :=
  if i < 4 then n == .keel && pinMode s i != 0 else ((nd s n).ref.bind.getD (i - 4) none).isSome

/-- A source code that the table of a node may name (R105, R166). -/
def srcNamed (n : Node) (c : Nat) : Bool :=
  match n with
  | .keel => decide (c < 6)
  | .evxus => c == 4 || c == 5

/-- The entries of the priority table that count: index, rank, source; a source named twice counts at the lower index
(R105). -/
def entries (n : Node) (t : List (Nat × Nat)) : List (Nat × Nat × Nat) :=
  let l := ((List.range 8).map (fun i => (i, t.getD i (0, 15)))).filter (fun e => e.2.1 != 0 && srcNamed n e.2.2)
  (l.filter (fun e => !l.any (fun f => decide (f.1 < e.1) && f.2.2 == e.2.2))).map (fun e => (e.1, e.2.1, e.2.2))

/-- Is a source named by two entries (TABLE_DUP), or does an entry with a rank name a reserved one (TABLE_BAD)? -/
def tableDup (n : Node) (t : List (Nat × Nat)) : Bool :=
  let l := t.filter (fun e => e.1 != 0 && srcNamed n e.2)
  (l.map (fun e => e.2)).any (fun c => decide (1 < (l.filter (fun e => e.2 == c)).length))
def tableBad (n : Node) (t : List (Nat × Nat)) : Bool := t.any (fun e => e.1 != 0 && !srcNamed n e.2)

/-- R91: pins at the primary root only, virtual sources everywhere else. -/
def srcAllowed (s : State) (n : Node) (i : Nat) : Bool := if isRoot s n then decide (i < 4) else decide (4 ≤ i)

/-- Is a source eligible (R103)? Its place in the table is the caller's matter. -/
def srcEligible (s : State) (n : Node) (i : Nat) : Bool :=
  (src s n i).qualified && !(src s n i).outvoted && srcAllowed s n i

/-- The eligible entries, and the candidates of R106. -/
def eligEntries (s : State) (n : Node) : List (Nat × Nat × Nat) :=
  (entries n (nd s n).ref.table).filter (fun e => srcEligible s n e.2.2)
def cands (s : State) (n : Node) : List (Nat × Nat × Nat) :=
  let l := eligEntries s n
  let m := l.filter (fun e => !(src s n e.2.2).upHold)
  if m.isEmpty then l else m

/-- Do two sources differ in frequency by more than DISPUTE_LIMIT (R107)? -/
def disagree (s : State) (n : Node) (a b : Nat) : Bool :=
  match (src s n a).freq, (src s n b).freq with
  | some x, some y => decide (disputeLimit s n < (x - y).natAbs)
  | _, _ => false

/-- The first pair of a list of entries whose sources disagree. -/
def firstPair (s : State) (n : Node) : List (Nat × Nat × Nat) → Option (Nat × Nat)
  | [] => none
  | e :: r =>
    match r.find? (fun f => disagree s n e.2.2 f.2.2) with
    | some f => some (e.2.2, f.2.2)
    | none => firstPair s n r

/-- The best rank of a list of entries. -/
def bestRank (l : List (Nat × Nat × Nat)) : Option Nat :=
  match l with
  | [] => none
  | e :: r => some (r.foldl (fun m f => min m f.2.1) e.2.1)

/-- The lowest-index entry of a rank. -/
def lowest (l : List (Nat × Nat × Nat)) (r : Nat) : Option Nat := (l.find? (fun e => e.2.1 == r)).map (fun e => e.1)

/-- The selected entry, as an entry that counts. -/
def selEntry (s : State) (n : Node) : Option (Nat × Nat × Nat) :=
  match (nd s n).ref.selected with
  | some i => (entries n (nd s n).ref.table).find? (fun e => e.1 == i)
  | none => none

/-- The pair in dispute at this moment, if any: with a selection, pairs with the selected source; without one, any pair
of the best eligible rank, among the candidates that selection has to choose from (R106, R107, log entry 18). -/
def disputePair (s : State) (n : Node) : Option (Nat × Nat) :=
  match selEntry s n with
  | some e =>
    if srcEligible s n e.2.2 then
      ((eligEntries s n).find? (fun f => f.1 != e.1 && f.2.1 == e.2.1 && disagree s n e.2.2 f.2.2)).map
        (fun f => (e.2.2, f.2.2))
    else none
  | none =>
    match bestRank (cands s n) with
    | some r => firstPair s n ((cands s n).filter (fun e => e.2.1 == r))
    | none => none

/-- The dispute ends: by stage, or HOLDOVER if nothing is selected (R115). -/
def disputeEnds (n : Node) (s : State) : State :=
  if (nd s n).ref.disputed then
    let s1 := modRef n (fun r => { r with disputed := false, agreeRun := 0 }) s
    if (nd s1 n).ref.selected.isSome then refByStage n s1 else refTo n .holdover s1
  else s

/-- A dispute begins (R107, R115); without a selection the node holds over (R114). -/
def disputeBegins (n : Node) (p : Nat × Nat) (s : State) : State :=
  let s1 := whenDo (nd s n).ref.selected.isNone (enterHoldover n) s
  refTo n .dispute (modRef n (fun r => { r with disputed := true, pair := p, agreeRun := 0 }) s1)

/-- The check of ICAL_SUM starts over on a port that is selected no more (R81). -/
def sumForget (n : Node) (s : State) : State :=
  match selPort s n with
  | some p => modPort n p (fun x => { x with sumDiff := false }) s
  | none => s

/-- Put the selection (R70, R96, R97, R106, R115). The limit of FREQ_SLOPE, which the first selection since COLD reset has not,
lasts until the next selection or RESTART (log entry 18). -/
def setSel (n : Node) (x : Option Nat) (s0 : State) : State :=
  if (nd s0 n).ref.selected = x then s0
  else
    let s := sumForget n s0
    match x with
    | none =>
      let s2 := toHold n (modRef n (fun r => { r with
        selected := none, selCount := r.selCount + 1, pullPend := false, phaseFar := false }) s)
      if (nd s2 n).ref.disputed then refTo n .dispute s2 else refTo n .holdover s2
    | some i =>
      let c := ((nd s n).ref.table.getD i (0, 15)).2
      let s1 := refHist n 5 (modRef n (fun r => { r with
        selected := some i, selCount := r.selCount + 1, phaseFar := false
        pullPend := decide (c < 4) && (pinMode s c == 1 || pinMode s c == 3)
        holdSince := if (nd s n).svo.jumpPending then r.holdSince else none
        holdAged := r.holdAged && (nd s n).svo.jumpPending }) s)
      let s2 := if c < 4 ∧ pinMode s c = 2 then modSrc n c (fun x => { x with grid := none }) s1 else s1
      let s3 := modSvo n (fun v => { v with
        change := if (nd s n).clk.valid ∨ v.acquired ∨ isRoot s n then some 0 else none
        overs := [], everSelected := true, sloped := isRoot s n && v.everSelected && v.acc != 0
        everUp := v.everUp || (selPort s2 n).isSome }) s2
      uncUpdate n (refByStage n s3)

/-- Selection (R106). DESIGN CHOICE (log entry 18): a revertive return goes to the best rank, and to the lowest index, among the
candidates whose own WTR has run. -/
def selectNow (n : Node) (s : State) : State :=
  let r := (nd s n).ref
  if r.force < 8 then
    let e := r.table.getD r.force (0, 15)
    setSel n (if e.1 ≠ 0 ∧ srcNamed n e.2 ∧ srcAllowed s n e.2 ∧ (src s n e.2).active then some r.force else none) s
  else
    let l := cands s n
    let cur := r.selected.bind (fun i => l.find? (fun e => e.1 == i))
    match cur with
    | none =>
      (match bestRank l with
       | none => setSel n none s
       | some b =>
         let m := l.filter (fun e => e.2.1 == b)
         let live := r.disputed && m.any (fun e => e.2.2 == r.pair.1) && m.any (fun e => e.2.2 == r.pair.2)
         match firstPair s n m with
         | some p => setSel n none (if live then s else disputeBegins n p s)
         | none => if live then setSel n none s else setSel n (lowest l b) s)
    | some c =>
      if r.revertive then
        let better := l.filter (fun e => decide (e.2.1 < c.2.1) && decide (wtr s n < (src s n e.2.2).eligRun))
        match bestRank better with
        | some b => setSel n (lowest better b) s
        | none => s
      else s

/-- A source's monitors start afresh: after a loss it qualifies again (R98, R102, R103). -/
def srcAfresh (x : Source) : Source :=
  { x with active := false, qualified := false, freqOk := false, freqRej := false, driftRej := false, outvoted := false,
           freq := none, freqs := [], drift := 0, qualRun := 0, voteRun := 0, eligRun := 0, win := [], secs := [], pulses := [] }

/-- A dispute ends when one of its two is eligible no more (R107). -/
def disputeCheck (n : Node) (s : State) : State :=
  let r := (nd s n).ref
  if r.disputed ∧ ¬ (srcEligible s n r.pair.1 ∧ srcEligible s n r.pair.2) then disputeEnds n s else s

/-- Loss of activity of a source: SOURCE_LOST, and selection at once (R98, R106). -/
def sourceLost (n : Node) (i : Nat) (s : State) : State :=
  if ¬ (src s n i).active then s
  else selectNow n (disputeCheck n (refHist n 6 (modSrc n i srcAfresh s)))

/-- A cause of loss on a port: its virtual references lose activity, and the count toward restoring starts over (R98). -/
def portLost (n : Node) (p : Nat) (s : State) : State :=
  forAll (boundTo s n p) (fun v s => sourceLost n (4 + v) s) (modPort n p (fun x => { x with oks := 0 }) s)

/-- Is no cause of loss present on a port (R98)? -/
def portSound (x : Port) : Bool := x.linkUp && x.asymValid && !x.calibrating && x.upValid && !x.upRefused

/-- Activity of the virtual references of a port is restored (R98); without a holdover value to measure against they
qualify as soon as they are active (R99). -/
def portRestored (n : Node) (p : Nat) (s : State) : State :=
  forAll (boundTo s n p) (fun v s =>
    if (src s n (4 + v)).active then s
    else modSrc n (4 + v) (fun x => { x with active := true, qualified := !hasHoldover s n }) s) s

/-- How far a virtual reference has run over its window, and the cycles of the window: the counter's own run by the addends
applied and the slews, less the change of x_total, in 2^-32 ns; none before 10 s are complete (R99, R109). -/
def virtRun (s : State) (n : Node) (x : Source) : Option (Int × Nat) :=
  match x.win.head?, x.win.getLast? with
  | some (e1, x1, w1), some (e0, x0, w0) =>
    if x.win.length = 11 ∧ e0 < e1 then
      some ((addendSum (nd s n).svo e0 e1 : Int) + (w1 - w0) - (x1 - x0) * 65536, e1 - e0)
    else none
  | _, _ => none

/-- The frequency of a virtual reference against the node's holdover value (R99), and against the oscillator, one cycle of which
is 0.8 ns (R109), in 0.001 ppb. -/
def virtFreq (s : State) (n : Node) (x : Source) : Option Int :=
  (virtRun s n x).map (fun r =>
    let e : Int := holdoverValue s n * r.2
    if e ≤ 0 then 0 else divRNE ((r.1 - e) * 1000000000000) e.toNat)
def virtOscFreq (s : State) (n : Node) (x : Source) : Option Int :=
  (virtRun s n x).map (fun r =>
    let e : Nat := r.2 * 4 * 2 ^ 32
    divRNE ((5 * r.1 - e) * 1000000000000) e)

/-- Note x_total of an active virtual reference at a monitor update (R99). -/
def virtNote (n : Node) (i : Nat) (s : State) : State :=
  if (src s n i).active then modSrc n i (fun x => { x with win := ((pe s n, x.phase, (nd s n).clk.slewed) :: x.win).take 11 }) s
  else s

/-- Note what the 10 MHz edges of an active pin gave over the last second; a second without a measurement starts the window anew (R99). -/
def pinNote (i : Nat) (f : Option Int) (s : State) : State :=
  modSrc .keel i (fun x => { x with secs := match f with
    | some y => if x.active then (y :: x.secs).take 10 else []
    | none => [] }) s

/-- A pulse of a pin in mode PPS is stamped on the oscillator; the stamps of the last 10 s are kept (R99). -/
def pulseNote (i phase : Nat) (s : State) : State :=
  modSrc .keel i (fun x => { x with
    pulses := (pe s .keel, phase) :: x.pulses.filter (fun l => decide (pe s .keel ≤ l.1 + secC 10 + 1250)) }) s

/-- The frequency of a pin in mode PPS against the oscillator, one cycle of which is 0.8 ns: ten of its seconds against the
oscillator's time between the two pulses (R99). -/
def pulseFreq (x : Source) : Option Int :=
  match x.pulses.head?, x.pulses.getLast? with
  | some (e1, p1), some (e0, p0) =>
    let t : Int := ((e1 - e0) * 4 * 65536 : Nat) + 5 * ((p1 : Int) - p0)
    let ten : Int := (10 * 5 * secU : Nat)
    if secC 10 ≤ e1 - e0 + 1250 then some (divRNE ((ten - t) * 1000000000000) t.toNat) else none
  | _, _ => none

/-- The frequency of a pin over the last 10 s, once it has been active for so long (R99): in mode PPS from the stamps of its
pulses; with a 10 MHz input the mean of what the counted edges of the ten seconds gave (log entry 18). -/
def pinFreqOf (s : State) (i : Nat) : Option Int :=
  let x := src s .keel i
  if pinMode s i = 1 then pulseFreq x
  else if x.secs.length = 10 then some (divRNE (x.secs.foldl (· + ·) 0) 10) else none

/-- The frequency of a source at an update (R99). -/
def srcFreq (s : State) (n : Node) (i : Nat) : Option Int := if i < 4 then pinFreqOf s i else virtFreq s n (src s n i)

/-- Frequency and drift of one source at an update (R99 to R101); and whether it has just been rejected. -/
def monitorFreq (s : State) (n : Node) (i : Nat) (f : Option Int) (x : Source) : Source × Bool :=
  if ¬ x.active then (x, false)
  else if 4 ≤ i ∧ ¬ hasHoldover s n then ({ x with qualified := true }, false)
  else
    match f with
    | none => (x, false)
    | some y =>
      let ok := decide (y.natAbs ≤ acceptLimit s n)
      let rej := decide (rejectLimit s n < y.natAbs)
      let l := (y :: x.freqs).take (driftTime s n)
      let k := l.length
      -- least squares over the k values, newest first: slope is sl / den
      let sx : Int := (k * (k - 1) / 2 : Nat)
      let den : Int := (k * k * (k * k - 1) / 12 : Nat)
      let (_, sy, sxy) := l.foldl (fun (a : Int × Int × Int) v => (a.1 + 1, a.2.1 + v, a.2.2 - a.1 * v)) (0, 0, 0)
      let sl : Int := k * sxy + sx * sy
      let full := decide (driftTime s n ≤ k) && decide (1 < k)
      let bad := full && decide ((driftLimit s n * 10 : Nat) * den < sl.natAbs)
      ({ x with
          freq := some y, freqs := l, freqOk := ok, freqRej := rej, driftRej := bad
          drift := if full then divRNE (10 * sl) den.toNat else x.drift
          qualified := x.qualified && !rej && !bad
          qualRun := if ok && !x.freqs.isEmpty then x.qualRun else 0 },
        (rej && !x.freqRej) || (bad && !x.driftRej))

/-- Insert a number into a rising list, and sort a list. -/
def insertInt (x : Int) : List Int → List Int
  | [] => [x]
  | y :: r => if x ≤ y then x :: y :: r else y :: insertInt x r
def sortInts (l : List Int) : List Int := l.foldr insertInt []

/-- Twice the median of a list: the mean of the two middle values of an even count (R102). -/
def median2 (l : List Int) : Option Int :=
  let m := sortInts l
  if m.isEmpty then none
  else if m.length % 2 = 1 then some (2 * m.getD (m.length / 2) 0)
  else some (m.getD (m.length / 2 - 1) 0 + m.getD (m.length / 2) 0)

/-- The sources of a kind: pins, or virtual references (R102). -/
def kindSrcs (pins : Bool) : List Nat := if pins then [0, 1, 2, 3] else [4, 5]

/-- Twice the difference of a source from the median of the other qualified sources of its kind that are not OUTVOTED
(R102). -/
def voteDiff (s : State) (n : Node) (pins : Bool) (i : Nat) : Option Nat :=
  let others := (kindSrcs pins).filter (fun j => j != i && (src s n j).qualified && !(src s n j).outvoted)
  match (src s n i).freq, median2 (others.filterMap (fun j => (src s n j).freq)) with
  | some f, some m => some (2 * f - m).natAbs
  | _, _ => none

/-- Cross-comparison of a kind (R102): clear marks that have stayed within DISPUTE_LIMIT for REQUAL_TIME, counted from the first
update within it, and make at most one. -/
def crossCompare (n : Node) (pins : Bool) (s : State) : State :=
  let lim := 2 * disputeLimit s n
  let judged := (kindSrcs pins).filter (fun i => (src s n i).qualified && !(src s n i).outvoted && (src s n i).freq.isSome)
  let worst := judged.foldl (fun (w : Option (Nat × Nat)) i =>
    match voteDiff s n pins i with
    | some d => if lim < d ∧ (match w with | some x => decide (x.2 < d) | none => true) = true then some (i, d) else w
    | none => w) none
  let s1 := forAll (kindSrcs pins) (fun i s =>
    if (src s n i).outvoted then
      (match voteDiff s n pins i with
       | some d =>
         if lim < d then modSrc n i (fun x => { x with voteRun := 0 }) s
         else if requalTime s n ≤ (src s n i).voteRun then modSrc n i (fun x => { x with outvoted := false, voteRun := 0 }) s
         else modSrc n i (fun x => { x with voteRun := x.voteRun + 1 }) s
       | none => s)
    else s) s
  match worst with
  | some (i, _) =>
    if 3 ≤ judged.length then refHist n 8 (modSrc n i (fun x => { x with outvoted := true, voteRun := 0 }) s1) else s1
  | none => s1

/-- Qualification of one source (R103). -/
def qualify (s : State) (n : Node) (x : Source) : Source :=
  if ¬ x.active ∨ x.mismatch ∨ x.freqRej ∨ x.driftRej then { x with qualified := false, qualRun := 0 }
  else if x.qualified then x
  else if x.freqOk ∧ 2 ≤ x.freqs.length then
    (if requalTime s n ≤ x.qualRun + 1 then { x with qualified := true, qualRun := x.qualRun + 1 }
     else { x with qualRun := x.qualRun + 1 })
  else x

/-- Is an entry of a better rank than a source's eligible (R107)? -/
def betterElig (s : State) (n : Node) (a : Nat) : Bool :=
  match ((entries n (nd s n).ref.table).find? (fun e => e.2.2 == a)).map (fun e => e.2.1), bestRank (eligEntries s n) with
  | some k, some m => decide (m < k)
  | _, _ => false

/-- The dispute step of an update (R107). A better-ranked eligible source ends a dispute, and none begins while there is one (log
entry 18). -/
def disputeStep (n : Node) (s : State) : State :=
  let r := (nd s n).ref
  if r.disputed then
    let (a, b) := r.pair
    if ¬ (srcEligible s n a ∧ srcEligible s n b) ∨ betterElig s n a then disputeEnds n s
    else if disagree s n a b then modRef n (fun r => { r with agreeRun := 0 }) s
    else if requalTime s n ≤ r.agreeRun then disputeEnds n s
    else modRef n (fun r => { r with agreeRun := r.agreeRun + 1 }) s
  else if r.force < 8 then s
  else
    match disputePair s n with
    | some p => if betterElig s n p.1 then s else disputeBegins n p s
    | none => s

/-- The count toward ROOT_WARM (R109): against the highest-ranked eligible source of any kind. OVEN_WARM with no 10 MHz signal is no
warm oven (R460, R423). -/
def warmStep (pin : Bool) (s : State) : State :=
  let r := s.keel.ref
  let oven := pin && s.keel.clk.oscOk
  let lost := r.ovenWarm && !oven
  let s0 := modRef .keel (fun r => { r with ovenWarm := oven }) s
  if lost then
    whenDo r.rootWarm (refHist .keel 12) (modRef .keel (fun r => { r with rootWarm := false, warmTime := 0 }) s0)
  else if r.rootWarm then s0
  else if ¬ oven then modRef .keel (fun r => { r with warmTime := 0 }) s0
  else
    let el := (entries .keel r.table).filter (fun e => (src s .keel e.2.2).qualified && !(src s .keel e.2.2).outvoted)
    match (bestRank el).bind (fun b => el.find? (fun e => e.2.1 == b)) with
    | none => s0
    | some e =>
      let f := if e.2.2 < 4 then (src s .keel e.2.2).freq else virtOscFreq s .keel (src s .keel e.2.2)
      match f with
      | none => s0
      | some y =>
        if 20000 < y.natAbs then modRef .keel (fun r => { r with warmTime := 0 }) s0
        else if 120 ≤ r.warmTime + 1 then
          refHist .keel 11 (modRef .keel (fun r => { r with warmTime := 120, rootWarm := true, warmed := true }) s0)
        else modRef .keel (fun r => { r with warmTime := r.warmTime + 1 }) s0

/-- A pending table takes effect: at the next monitor update, and it ends a dispute (R105, R107). A selection stays with
its source. -/
def tableTakes (n : Node) (s : State) : State :=
  match (nd s n).ref.applyPend with
  | none => s
  | some (t, rev) =>
    let old := selSource s n
    let idx := match old with
      | some c => (match (entries n t).find? (fun e => e.2.2 == c) with | some e => some e.1 | none => some 8)
      | none => none
    disputeEnds n (modRef n (fun r => { r with
      table := t, revertive := rev, applyPend := none, tableDup := tableDup n t, tableBad := tableBad n t
      selected := idx }) (whenDo (idx == some 8) (sumForget n) s))

/-- MONITOR_UPDATE: frequency and drift, cross-comparison, qualification, dispute, selection (R104). `freqs` holds what the 10 MHz edges
of each pin gave over the last second. -/
def monitorUpdate (n : Node) (oven : Bool) (freqs : List (Option Int)) (s : State) : State :=
  let s0 := match n with
    | .keel => forAll (List.range 4) (fun i s => pinNote i (freqs.getD i none) s) s
    | .evxus => s
  let s1 := virtNote n 5 (virtNote n 4 (tableTakes n s0))
  let s2 := forAll (List.range 6) (fun i s =>
    let (x, rej) := monitorFreq s n i (srcFreq s n i) (src s n i)
    whenDo rej (refHist n 7) (modSrc n i (fun _ => x) s)) s1
  let s3 := crossCompare n false (crossCompare n true s2)
  let s4 := forAll (List.range 6) (fun i s => modSrc n i (qualify s n) s) s3
  let s5 := forAll (List.range 6) (fun i s =>
    let el := (eligEntries s n).any (fun e => e.2.2 == i)
    modSrc n i (fun x => { x with eligRun := if el then x.eligRun + 1 else 0 }) s) s4
  let s6 := match n with
    | .keel => warmStep oven s5
    | .evxus => s5
  selectNow n (disputeStep n s6)

/-- MONITOR_UPDATE (R104). -/
def execMonitorUpdate (n : Node) (oven : Bool) (freqs : List (Option Int)) (s : State) : Answer :=
  done (monitorUpdate n oven freqs s)

/-- The table as it is staged in the registers of a node (R105, R166). -/
def tableStaged (s : State) (n : Node) : List (Nat × Nat) :=
  (List.range 8).map (fun i => let w := rd s (nr n (A.REF_TABLE i) (A.E_REF_TABLE i)); (bits w 8 4, bits w 0 4))

/-- TABLE_APPLY: the staged table and REVERTIVE take effect at the next update (R105); on an Evxus it applies a staged
REVERTIVE alone (R166). -/
def tableApply (n : Node) (s : State) : State :=
  let rev := flag s (nr n A.REF_CTRL A.EVU_CTRL) 0
  let r := (nd s n).ref
  let t := match n with
    | .keel => tableStaged s n
    | .evxus => (match r.applyPend with | some p => p.1 | none => r.table)
  modRef n (fun r => { r with applyPend := some (t, rev) }) s

/-- A write of SEL_FORCE: 8 to 0xE is ignored; a force ends a dispute, sets SWITCH, and the state follows at once: HOLDOVER if
the forced source is inactive or the entry empty (R107, R108, R115). A write of the value in force forces nothing. -/
def selForce (n : Node) (f : Nat) (s : State) : State :=
  if 8 ≤ f ∧ f < 15 then s
  else if (nd s n).ref.force = f then s
  else
    let a := nr n A.REF_CTRL A.EVU_CTRL
    let s1 := disputeEnds n (modRef n (fun r => { r with force := f }) (wf a 8 4 f s))
    let s2 := refHist n 5 (selectNow n s1)
    if f < 8 ∧ (nd s2 n).ref.selected = none then refTo n .holdover (enterHoldover n s2) else s2

/-- A write of REF_CTRL or EVU_CTRL: REVERTIVE is staged, SEL_FORCE acts, TABLE_APPLY applies (R105, R108). -/
def refCtrlWrite (n : Node) (v : Word) (s : State) : State :=
  let a := nr n A.REF_CTRL A.EVU_CTRL
  let s1 := selForce n (bits v 8 4) (putFlag a 0 (bit v 0) s)
  whenDo (bit v 31) (tableApply n) s1

/-- TABLE_APPLY (R105). -/
def execTableApply (v : Word) (s : State) : Answer := done (refCtrlWrite .keel (v ||| 0x80000000#32) s)

/-- SEL_FORCE (R108). -/
def execSelForce (v : Word) (s : State) : Answer := done (refCtrlWrite .keel (v &&& 0x7FFFFFFF#32) s)

/-- A write of a pin's mode (R90): OFF takes it out of service at once, which is no loss of activity; another mode starts
the pin afresh. -/
def pinModeWrite (i : Nat) (v : Word) (s : State) : State :=
  if 4 ≤ i then s
  else
    let was := pinMode s i
    let s1 := wr (A.SRC_CFG i) (v &&& 0x13#32) s
    if bits v 0 2 = was ∧ was ≠ 0 then s1
    else
      let s2 := modSrc .keel i (fun _ => {}) s1
      if bits v 0 2 = 0 then selectNow .keel (disputeCheck .keel (wn (A.SRC_MISS i) 0 (wn (A.SRC_STRAY i) 0 s2)))
      else if was = 0 then s2
      else selectNow .keel (disputeCheck .keel s2)

/-- PIN_MODE_WRITE (R90). -/
def execPinModeWrite (pin : Nat) (v : Word) (s : State) : Answer := done (pinModeWrite pin v s)

/-- WARM_FORCE sets ROOT_WARM at once (R109); the expert page needs unlock (R441). -/
def warmForce (v : Word) (s : State) : State :=
  onExpert 0x120000 (fun s =>
    let s1 := putFlag A.REF_EXPERT 0 (bit v 0) s
    whenDo (bit v 0 && !s.keel.ref.rootWarm) (fun s => refHist .keel 11 (modRef .keel (fun r => { r with rootWarm := true, warmed := true }) s)) s1) s

/-- WARM_FORCE (R109). -/
def execWarmForce (v : Word) (s : State) : Answer := done (warmForce v s)

/-- Loss of OVEN_WARM clears ROOT_WARM and sets WARM_LOST; it restarts the count (R109, R110). -/
def ovenLoss (s : State) : State :=
  let r := s.keel.ref
  whenDo r.rootWarm (refHist .keel 12)
    (modRef .keel (fun r => { r with ovenWarm := false, rootWarm := false, warmTime := 0 }) s)

/-- OVEN_WARM_LOSS (R110). -/
def execOvenWarmLoss (s : State) : Answer := done (ovenLoss s)

/-- 10 s after entry to holdover the grade turns HOLD_AGED (R113). -/
def holdAged (n : Node) (s : State) : State :=
  match (nd s n).ref.holdSince with
  | some e =>
    if (nd s n).ref.holdAged ∨ pe s n < e + secC 10 then s
    else refHist n 4 (modRef n (fun r => { r with holdAged := true }) s)
  | none => s

/-- HOLD_AGED (R113). -/
def execHoldAged (n : Node) (s : State) : Answer := done (holdAged n s)

/-- Sixteen failed or discarded exchanges in a row are loss of activity on that upstream (R65), once a row; on a port of the package
a LINK_LOSS event (R397). -/
def lossOfActivity (n : Node) (p : Nat) (s : State) : State :=
  if (port s n p).fails < 16 ∨ (port s n p).lossTold then s
  else
    let s1 := modPort n p (fun x => { x with lossTold := true }) s
    portLost n p (match n with
      | .keel => event (regEvent s1 (A.PORT_TSTAT p) p 5 0xFF) s1
      | .evxus => s1)

/-- LOSS_OF_ACTIVITY (R65). -/
def execLossOfActivity (n : Node) (p : Nat) (s : State) : Answer := done (lossOfActivity n p s)

end Sys2Proof.Machine
end

