-- ==== Sys2Proof/Machine/Exchange.lean ====
section
/-! DEFINITION. The timing exchange (R51 to R55, R62 to R67, R81): SYNC, REQ and RESP, their failures and discards. -/

namespace Sys2Proof.Machine

/-- Does the neighbour of a keel port differ from EXPECT (R356)? -/
def miswired (s : State) (n : Node) (p : Nat) : Bool :=
  match n with
  | .keel => (tget {} s.rt.nbrs p).miswire
  | .evxus => false

/-- May timing exchanges run on a port that the part has (R17, R61, R137, R153, R356)? -/
def portTimes (s : State) (n : Node) (p : Nat) : Bool :=
  nodeRuns s n && portWorks s n p && (port s n p).linkUp && !(port s n p).calibrating && !miswired s n p && linkStands s n p

/-- Does the node watch a port for SYNCs? A calibration stops the exchanges (R61), not the count of R62. -/
def watched (s : State) (n : Node) (p : Nat) : Bool :=
  nodeRuns s n && portWorks s n p && (port s n p).linkUp && linkStands s n p && !miswired s n p

/-- An exchange fails or is discarded: counted, and the run of accepted ones is broken (R62, R64, R65, R98). -/
def failExch (n : Node) (p : Nat) (s : State) : State :=
  modPort n p (fun x => { x with fails := x.fails + 1, oks := 0 }) (exchFailCount n p s)

/-- HOPS of the node's SYNCs (R55): while no upstream is selected those of its own last SYNC, and 15 if it has never had one. -/
def ownHops (s : State) (n : Node) : Nat :=
  if isRoot s n then 0
  else
    match selPort s n with
    | some p => min 15 ((port s n p).upHops + 1)
    | none => if (nd s n).svo.everUp then (nd s n).svo.hops.toNat else 15

/-- Is the next SYNC on a port due: 250 µs of fabric time after the last one (R62)? A step back does not put it off. -/
def syncDue (s : State) (n : Node) (p : Nat) : Bool :=
  match (port s n p).lastTx with
  | none => true
  | some t => let d := fullDiff (now s n) t; decide (d < 0) || decide ((usU 250 * 65536 : Nat) ≤ d)

/-- May a node serve time on a port: the port map has it serve, and it is no upstream of the node (R51, R137)? -/
def servesOn (s : State) (n : Node) (p : Nat) : Bool :=
  portRole s n p == .serves && (match n with
    | .keel => true
    | .evxus => (boundTo s n p).isEmpty)

/-- May the node send SYNCs: a package that serves nothing does not (R373, R393, R407), and the primary root waits for
ROOT_WARM, once (R109, R110). -/
def servesTime (s : State) (n : Node) : Bool :=
  match n with
  | .keel => serving s && (!s.tw.primary || s.keel.ref.warmed)
  | .evxus => true

/-- The body of a SYNC with its one-step T1: PATH_UNC, CORR, ICAL_SEQ, ICAL_SUM, STAGE with JUMP_PENDING and HOPS, ROOT_ID (R54, R55). -/
def syncBody (s : State) (n : Node) (t1 : Stamp) : List Byte :=
  let v := (nd s n).svo
  let i := (nd s n).icl
  let corr := if isRoot s n then 0#32 else sat32 (filtMean v)
  let st := stageCode v.stage * 64 + b2n v.jumpPending * 32 + ownHops s n
  bodyOf [(12, stampBytes t1), (24, toBE 4 (pathUnc s n)), (28, toBE 4 corr.toNat),
    (32, toBE 2 i.seq.toNat), (34, toBE 4 i.sum.toNat), (38, toBE 1 st), (40, toBE 4 (rootId s n))]

/-- A SYNC is sent with its one-step T1, one every 250 µs of fabric time (R54, R55, R62, R63). -/
def syncSend (n : Node) (p barrel : Nat) (s : State) : State :=
  if ¬ (portTimes s n p ∧ servesOn s n p ∧ servesTime s n ∧ syncDue s n p) then s
  else
    let t1 := txStamp s n p barrel
    let s1 := modSvo n (fun v => { v with hops := BitVec.ofNat 4 (ownHops s n) }) (sendMsg n p tSync (syncBody s n t1) s)
    let s2 := modPort n p (fun x => { x with selAtSync := (nd s n).ref.selCount, lastTx := some (now s n) }) s1
    tapStamp n 0x10 p t1 s2

/-- SYNC_SEND (R62). -/
def execSyncSend (n : Node) (p barrel : Nat) (s : State) : Answer := done (syncSend n p barrel s)

/-- The node's ICAL_SUM as of a time: without those applied later, with those pending that were due (R81). `f` is the full time
of the stamp, so that an intercalation of days ago stays one that came before (R35). -/
def icalSumAt (i : IcalSt) (f : FabTime) : BitVec 32 :=
  let later := (i.recent.filter (fun x => decide (fullDiff f x.1 < 0))).foldl (fun a x => a + x.2) (0 : Int)
  let due := (i.pend.filter (fun x => fullAtOrAfter f x.apply)).foldl (fun a x => a + x.q) (0 : Int)
  i.sum + BitVec.ofInt 32 (due - later)

/-- The check of ICAL_SUM against a SYNC from the selected upstream: the second difference in a row means missed
intercalations (R81). -/
def icalCheck (n : Node) (p : Nat) (y : SyncRec) (s : State) : State :=
  let i := (nd s n).icl
  if ¬ i.known ∨ selPort s n ≠ some p then s
  else if icalSumAt i (widen s n y.t1.ft) = y.icalSum then modPort n p (fun x => { x with sumDiff := false }) s
  else if (port s n p).sumDiff then
    icalAdopt n y.icalSeq y.icalSum (icalMissed n (modPort n p (fun x => { x with sumDiff := false }) s))
  else modPort n p (fun x => { x with sumDiff := true }) s

/-- The fields of a SYNC (R54), with its reception stamp. -/
def syncOf (m : Raw) (t2 : Stamp) : SyncRec where
  seq := mSeq m
  t1 := stampOfBytes (slice m 12 12)
  t2 := t2
  pathUnc := BitVec.ofNat 32 (getBE m 24 4)
  corr := sgn 32 (getBE m 28 4)
  corrSat := getBE m 28 4 == 0x7FFFFFFF || getBE m 28 4 == 0x80000000
  icalSeq := BitVec.ofNat 16 (getBE m 32 2)
  icalSum := BitVec.ofNat 32 (getBE m 34 4)
  stage := getBE m 38 1 / 64
  hops := getBE m 38 1 % 16

/-- A SYNC of a downstream port: t2, the checks of R55, the upstream's state, and the exchange it begins (R62). An exchange
that it overtakes has failed. One that comes during a calibration begins none (R61) and still counts as a SYNC received
(log entry 16). -/
def syncTake (n : Node) (p barrel : Nat) (m : Raw) (s : State) : State :=
  if ¬ (watched s n p ∧ portRole s n p = .follows) then s
  else if (port s n p).calibrating then modPort n p (fun x => { x with lastSync := now s n }) s
  else
    let t2 := rxStamp s n p barrel
    let y := syncOf m t2
    let s0 := whenDo (port s n p).exch.isSome (failExch n p) s
    let bad := decide (6 ≤ y.hops) || getBE m 40 4 != rootId s n
    let s1 := modPort n p (fun x => { x with
      lastSync := now s n, exch := if bad then none else some { sync := y, begun := widen s n t2.ft }
      upPathUnc := y.pathUnc, upHops := y.hops, upValid := y.t1.valid, upRefused := bad }) s0
    let s2 := forAll (boundTo s1 n p) (fun v s => modSrc n (4 + v) (fun x => { x with upHold := y.stage == 0 }) s) s1
    let s3 := whenDo bad (bump (nr n A.ETX_HOP_LIMIT A.E_ETX_HOP_LIMIT)) s2
    let s4 := whenDo (bad || !y.t1.valid) (portLost n p) s3
    if bad then s4 else icalCheck n p y s4

/-- SYNC_RECEIVE (R62). -/
def execSyncReceive (n : Node) (p barrel : Nat) (m : Raw) (s : State) : Answer :=
  done (onMsg n p tSync m (fun s => syncTake n p barrel m (tapHeard n p barrel s)) s)

/-- The REQ that answers a SYNC, within 20 µs of it (R54, R62). -/
def reqSend (n : Node) (p barrel : Nat) (s : State) : State :=
  match (port s n p).exch with
  | none => s
  | some e =>
    if ¬ portTimes s n p ∨ e.req.isSome ∨ (usFull 20 : Int) < sinceThen s n e.begun then s
    else
      let t3 := txStamp s n p barrel
      let q := (port s n p).seqs.getD (tReq - 1) 0
      let s1 := sendMsg n p tReq (bodyOf [(12, stampBytes t3), (24, toBE 2 e.sync.seq.toNat)]) s
      tapStamp n 0x10 p t3 (modPort n p (fun x => { x with exch := some { e with req := some (q, t3) } }) s1)

/-- REQ_SEND (R62). -/
def execReqSend (n : Node) (p barrel : Nat) (s : State) : Answer := done (reqSend n p barrel s)

/-- The upstream stamps a REQ's reception; one that names another SYNC than its last since the link
came up is discarded (R62, R157). -/
def reqTake (n : Node) (p barrel : Nat) (m : Raw) (s : State) : State :=
  let x := port s n p
  if ¬ (portTimes s n p ∧ servesOn s n p) then s
  else
    let t4 := rxStamp s n p barrel
    if x.lastTx.isNone ∨ BitVec.ofNat 16 (getBE m 24 2) + 1 ≠ x.seqs.getD (tSync - 1) 0 then s
    else modPort n p (fun x => { x with reqIn := some (mSeq m, t4, x.selAtSync != (nd s n).ref.selCount), reqAt := widen s n t4.ft }) s

/-- REQ_RECEIVE (R62). -/
def execReqReceive (n : Node) (p barrel : Nat) (m : Raw) (s : State) : Answer :=
  done (onMsg n p tReq m (fun s => reqTake n p barrel m (tapHeard n p barrel s)) s)

/-- The RESP with t4, ECHO and SEL_CHANGED, within 20 µs of the REQ (R54, R62, R64). -/
def respSend (n : Node) (p : Nat) (s : State) : State :=
  match (port s n p).reqIn with
  | none => s
  | some (q, t4, chg) =>
    let s0 := modPort n p (fun x => { x with reqIn := none }) s
    if ¬ portTimes s n p ∨ (usFull 20 : Int) < sinceThen s n (port s n p).reqAt then s0
    else sendMsg n p tResp (bodyOf [(12, stampBytes t4), (24, toBE 2 q.toNat), (26, toBE 1 (b2n chg))]) s0

/-- RESP_SEND (R62). -/
def execRespSend (n : Node) (p : Nat) (s : State) : Answer := done (respSend n p s)

/-- ASYM of a port or tap (R59). -/
def asymOf (s : State) (n : Node) (p : Nat) : Int := (rd s (nr n (A.ASYM p) (A.E_ASYM p))).toInt

/-- The median of the accepted delays kept (R64). -/
def delayMedian (x : Port) : Option Int := (median2 x.delays).map (fun m => divRNE m 2)

/-- Does a delay differ from the median by more than DELAY_GATE (R64)? An empty history gates nothing. -/
def gated (s : State) (n : Node) (x : Port) (dly : Int) : Bool :=
  match median2 x.delays with
  | some m => !absLePs (2 * dly - m) (2 * delayGate s n)
  | none => false

/-- Does an intercalation's APPLY time fall in the interval from t1 to t4 (R64)? `r` is a full time near both (R35). -/
def icalWithin (i : IcalSt) (r : FabTime) (t1 t4 : BitVec 64) : Bool :=
  (i.pend.map (fun x => x.apply) ++ i.recent.map (fun x => x.1)).any (fun a =>
    fullAtOrAfter a (ftWiden t1 r) && fullAtOrAfter (ftWiden t4 r) a)

/-- The monitors of the virtual references of a port receive x_total (R65). -/
def phaseNote (n : Node) (p : Nat) (total : Int) (s : State) : State :=
  forAll (boundTo s n p) (fun v s => modSrc n (4 + v) (fun z => { z with phase := total }) s) s

/-- An exchange is accepted: its results, the activity of its reference, and the servo where it is the selected upstream
(R63, R64, R68, R98). -/
def exchAccept (n : Node) (p : Nat) (y : SyncRec) (seq : BitVec 16) (x dly : Int) (s : State) : State :=
  let total := x + y.corr
  let s1 := modPort n p (fun o => { o with
    exch := none, fails := 0, lossTold := false, oks := o.oks + 1, gateRun := 0, delays := (dly :: o.delays).take 4000
    lastX := x, lastDly := dly }) s
  let s2 := match n with
    | .keel => bump (A.EXCH_OK p) s1
    | .evxus => s1
  let s4 := whenDo (decide (16 ≤ (port s2 n p).oks) && portSound (port s2 n p)) (portRestored n p) s2
  if selPort s4 n = some p then
    servoTake n { e := total, ical := some (y.icalSeq, y.icalSum),
                  meas := some { port := p, seq := seq, x := x, dly := dly, corr := y.corr } } s4
  else s4

/-- A RESP completes the exchange that it echoes: x, dly, x_total, or a discard (R62 to R64). The monitors receive x_total of every
complete exchange, a discarded one too (R65), but for one with a saturated CORR (R470). Half an odd sum is rounded to even
for dly as it is for x, and a discard for another cause leaves the run of the delay gate as it stands (log entry 16). -/
def respTake (n : Node) (p : Nat) (m : Raw) (s : State) : State :=
  let o := port s n p
  match o.exch with
  | none => s
  | some e =>
    match e.req with
    | none => s
    | some (q, t3) =>
      if ¬ portTimes s n p ∨ BitVec.ofNat 16 (getBE m 24 2) ≠ q then s
      else
        let y := e.sync
        let t4 := stampOfBytes (slice m 12 12)
        let fwd := ftDiff y.t2.ft y.t1.ft
        let rev := ftDiff t4.ft t3.ft
        let x := divRNE (fwd - rev + asymOf s n p) 2
        let dly := divRNE (fwd + rev) 2
        let own := (nd s n).clk.valid
        let late := decide ((usFull 100 : Int) < sinceThen s n e.begun)
        let s0 := whenDo (!late && !y.corrSat) (phaseNote n p (x + y.corr)) (modPort n p (fun x => { x with exch := none }) s)
        if late then failExch n p s0
        else if ¬ y.t1.valid ∨ ¬ t4.valid ∨ (own ∧ ¬ (y.t2.valid ∧ t3.valid)) then failExch n p s0
        else if fwd + rev < 0 ∨ (2 * usU 1000 : Nat) < fwd + rev then failExch n p s0
        else if gated s n o dly then
          failExch n p (modPort n p (fun x => { x with gateRun := x.gateRun + 1, gateDly := dly }) s0)
        else if icalWithin (nd s n).icl (now s n) y.t1.ft t4.ft ∨ (getBE m 26 1) % 2 = 1 ∨ y.corrSat then failExch n p s0
        else exchAccept n p y y.seq x dly s0

/-- RESP_RECEIVE (R63). -/
def execRespReceive (n : Node) (p : Nat) (m : Raw) (s : State) : Answer :=
  done (onMsg n p tResp m (respTake n p m) s)

/-- No RESP within 100 µs of t2: the exchange fails (R62). -/
def exchangeTimeout (n : Node) (p : Nat) (s : State) : State :=
  match (port s n p).exch with
  | none => s
  | some e =>
    if sinceThen s n e.begun ≤ usFull 100 then s
    else failExch n p (modPort n p (fun x => { x with exch := none }) s)

/-- EXCHANGE_TIMEOUT (R62). -/
def execExchangeTimeout (n : Node) (p : Nat) (s : State) : Answer := done (exchangeTimeout n p s)

/-- 250 µs of the node's time without a SYNC: one failed exchange, also while the port calibrates (R62, log entry 16). -/
def syncMissing (n : Node) (p : Nat) (s : State) : State :=
  let x := port s n p
  if ¬ (watched s n p ∧ portRole s n p = .follows) ∨ sinceThen s n x.lastSync < usFull 250 then s
  else failExch n p (modPort n p (fun x => { x with lastSync := fabAdd x.lastSync (usFull 250) }) s)

/-- SYNC_MISSING (R62). -/
def execSyncMissing (n : Node) (p : Nat) (s : State) : Answer := done (syncMissing n p s)

/-- After 64 consecutive delay-gate discards the median is reset to the latest delay, and ASYM_SUSPECT is set (R64), a
TIMING event (R397). -/
def delayGateReset (n : Node) (p : Nat) (s : State) : State :=
  if (port s n p).gateRun < 64 then s
  else
    nRaise n (A.PORT_TSTAT p) (A.E_PORT_STAT p) 7 p 11
      (modPort n p (fun x => { x with gateRun := 0, delays := [x.gateDly] }) s)

/-- DELAY_GATE_RESET (R64). -/
def execDelayGateReset (n : Node) (p : Nat) (s : State) : Answer := done (delayGateReset n p s)

end Sys2Proof.Machine
end

