-- ==== Sys2Proof/Machine/Fp.lean ====
section
/-! DEFINITION. FP32 and BF16 values and operations (R231, R250, R255): every operation rounded to nearest, ties to even,
subnormals kept, square root correctly rounded. A finite value is a count of 2^-149. -/

namespace Sys2Proof.Machine

/-- An FP32 value: sign and magnitude in units of 2^-149, an infinity, or a NaN. -/
inductive Fp where
  | fin (neg : Bool) (mag : Nat)
  | inf (neg : Bool)
  | nan
  deriving DecidableEq, Repr

/-- `floor (log2 (n / d))` for positive `n` and `d`. -/
def log2Q (n d : Nat) : Int :=
  let l : Int := (n.log2 : Int) - d.log2
  let ge : Bool := if 0 ≤ l then decide (d * 2 ^ l.toNat ≤ n) else decide (d ≤ n * 2 ^ (-l).toNat)
  if ge then l else l - 1

/-- `n / d` rounded to a whole number: to nearest, ties to even, or stochastically with the draw `r` (R253). -/
def roundQ (draw : Option Nat) (n d : Nat) : Nat :=
  let q := n / d
  let rem := n % d
  match draw with
  | none => if d < 2 * rem ∨ (2 * rem = d ∧ q % 2 = 1) then q + 1 else q
  | some r => if 2 ^ 32 ≤ rem * 2 ^ 32 / d + r then q + 1 else q

/-- `n / d` on a grid of `m` mantissa bits whose smallest quantum is 2^lo (R253): the rounded value. -/
def roundGrid (draw : Option Nat) (m lo n d : Nat) : Nat :=
  if n = 0 then 0
  else
    let q := max (log2Q n d - m).toNat lo
    roundQ draw n (d * 2 ^ q) * 2 ^ q

/-- The first magnitude that FP32 and BF16 cannot hold, in units. -/
abbrev fpOver : Nat := 2 ^ 277

/-- A rounded magnitude as a value: overflow gives an infinity. -/
def fpOf (neg : Bool) (mag : Nat) : Fp := if fpOver ≤ mag then .inf neg else .fin neg mag

/-- Round `±n / d` units to FP32. -/
def rne32 (neg : Bool) (n d : Nat) : Fp := fpOf neg (roundGrid none 23 0 n d)

/-- The largest finite magnitude of FP32, and of BF16. -/
abbrev fp32Max : Nat := (2 ^ 24 - 1) * 2 ^ 253
abbrev bf16Max : Nat := (2 ^ 8 - 1) * 2 ^ 269

/-- An FP32 word read. -/
def fpRead (w : Nat) : Fp :=
  let s := bitsN w 31 1 == 1
  let e := bitsN w 23 8
  let m := bitsN w 0 23
  if e = 255 then (if m = 0 then .inf s else .nan)
  else if e = 0 then .fin s m
  else .fin s ((2 ^ 23 + m) * 2 ^ (e - 1))

/-- An FP32 value written; a NaN is the canonical one (R265). -/
def fpWrite : Fp → Nat
  | .nan => 0x7FC00000
  | .inf s => b2n s * 2 ^ 31 + 0x7F800000
  | .fin s m =>
    if m < 2 ^ 23 then b2n s * 2 ^ 31 + m
    else
      let l := m.log2 - 23
      b2n s * 2 ^ 31 + (l + 1) * 2 ^ 23 + (m / 2 ^ l - 2 ^ 23)

/-- Is the value finite? -/
def Fp.finite : Fp → Bool
  | .fin _ _ => true
  | _ => false

/-- A finite value as a signed count of units; a non-finite one as zero. -/
def Fp.int : Fp → Int
  | .fin s m => if s then -(m : Int) else m
  | _ => 0

/-- Sum, rounded (R250): +0 and −0 give +0, two −0 give −0. -/
def fpAdd : Fp → Fp → Fp
  | .fin s a, .fin t b =>
    let x : Int := (Fp.fin s a).int + (Fp.fin t b).int
    if x = 0 then .fin (s && t) 0 else rne32 (decide (x < 0)) x.natAbs 1
  | .inf s, .inf t => if s = t then .inf s else .nan
  | .inf s, .fin _ _ => .inf s
  | .fin _ _, .inf t => .inf t
  | .nan, _ => .nan
  | _, .nan => .nan

/-- The value negated. -/
def fpNeg : Fp → Fp
  | .fin s a => .fin (!s) a
  | .inf s => .inf (!s)
  | .nan => .nan

/-- Difference, rounded. -/
def fpSub (a b : Fp) : Fp := fpAdd a (fpNeg b)

/-- Product, rounded. -/
def fpMul : Fp → Fp → Fp
  | .fin s a, .fin t b => rne32 (xor s t) (a * b) (2 ^ 149)
  | .inf s, .fin t b => if b = 0 then .nan else .inf (xor s t)
  | .fin s a, .inf t => if a = 0 then .nan else .inf (xor s t)
  | .inf s, .inf t => .inf (xor s t)
  | .nan, _ => .nan
  | _, .nan => .nan

/-- Quotient, rounded. -/
def fpDiv : Fp → Fp → Fp
  | .fin s a, .fin t b =>
    if b = 0 then (if a = 0 then .nan else .inf (xor s t)) else rne32 (xor s t) (a * 2 ^ 149) b
  | .inf s, .fin t _ => .inf (xor s t)
  | .fin s _, .inf t => .fin (xor s t) 0
  | .inf _, .inf _ => .nan
  | .nan, _ => .nan
  | _, .nan => .nan

/-- The integer square root, digit by digit: `n` is the bit in hand, `r` the root so far. -/
def sqrtStep (x : Nat) : Nat → Nat → Nat
  | 0, r => r
  | n + 1, r => let c := r + 2 ^ n; sqrtStep x n (if c * c ≤ x then c else r)

/-- The integer square root of a number. -/
def natSqrt (x : Nat) : Nat := sqrtStep x (x.log2 / 2 + 1) 0

/-- Square root, correctly rounded (R231). -/
def fpSqrt : Fp → Fp
  | .fin s a =>
    if a = 0 then .fin s 0
    else if s then .nan
    else
      let x := a * 2 ^ 149 * 2 ^ 64
      let r := natSqrt x
      if r * r = x then rne32 false r (2 ^ 32) else rne32 false (2 * r + 1) (2 ^ 33)
  | .inf s => if s then .nan else .inf false
  | .nan => .nan

/-- `a > b`; never for a NaN. -/
def fpGt : Fp → Fp → Bool
  | .fin s a, .fin t b => decide ((Fp.fin t b).int < (Fp.fin s a).int)
  | .inf s, .fin _ _ => !s
  | .fin _ _, .inf t => t
  | .inf s, .inf t => !s && t
  | _, _ => false

/-- 1.0. -/
def fpOne : Fp := .fin false (2 ^ 149)

/-- The sign of a value: +1.0, −1.0, or 0.0 for a zero of either sign (R231). -/
def fpSign : Fp → Fp
  | .fin s a => if a = 0 then .fin false 0 else .fin s (2 ^ 149)
  | .inf s => .fin s (2 ^ 149)
  | .nan => .nan

/-- A value rounded to BF16, to nearest, ties to even. -/
def toBf16 : Fp → Fp
  | .fin s a => fpOf s (roundGrid none 7 16 a 1)
  | x => x

/-- The BF16 code of a value that BF16 can hold: the high half of its FP32 word (R243). -/
def bf16Write (x : Fp) : Nat := fpWrite x / 65536

/-- A BF16 code read, widened exactly. -/
def bf16Read (w : Nat) : Fp := fpRead (w * 65536)

end Sys2Proof.Machine
end

