-- ==== Sys2Proof/Machine/Quant.lean ====
section
/-! DEFINITION. The arithmetic of a waystation (10): element formats, exact sums in a window, sums in FP32, output scale and
rounding, the waybill generator, poison, the quantisation-error monitor, residuals. -/

namespace Sys2Proof.Machine

/-- A scaled element format (R243): width, mantissa bits, exponent width (0: no exponent), f, t, largest magnitude in units
of 2^-f. -/
structure Fmt where
  w : Nat
  m : Nat
  e : Nat
  f : Nat
  t : Int
  top : Nat
  deriving DecidableEq, Repr

/-- The scaled formats by code (R216, R243). -/
def fmtOf : Nat → Fmt
  | 2 => ⟨8, 3, 4, 9, 8, 229376⟩
  | 3 => ⟨8, 2, 5, 16, 15, 3758096384⟩
  | 4 => ⟨6, 2, 3, 4, 4, 448⟩
  | 5 => ⟨6, 3, 2, 3, 2, 60⟩
  | 6 => ⟨4, 1, 2, 1, 2, 12⟩
  | 7 => ⟨8, 0, 0, 6, 0, 127⟩
  | 8 => ⟨2, 0, 0, 0, 0, 1⟩
  | _ => ⟨1, 0, 0, 0, 0, 1⟩

/-- Is the format one of the scaled ones (R216)? -/
def scaled (c : Nat) : Bool := decide (2 ≤ c)

/-- Bytes of one block of 32 elements (R216, R241). -/
def blockLen (c : Nat) : Nat :=
  match c with
  | 0 => 128
  | 1 => 64
  | _ => 1 + 4 * (fmtOf c).w

/-- An element as read: `k` units of 2^-f, an infinity, or a NaN. -/
inductive Elem where
  | num (k : Int)
  | inf (neg : Bool)
  | nan
  deriving DecidableEq, Repr

/-- A code of a scaled format read (R243, R244). -/
def elemRead (c v : Nat) : Elem :=
  let x := fmtOf c
  let sg (k : Nat) : Elem := .num (if bitsN v (x.w - 1) 1 = 1 then -(k : Int) else k)
  if c = 7 then .num (sgn 8 v)
  else if c = 8 then (match v with | 0 => .num 0 | 1 => .num 1 | 3 => .num (-1) | _ => .nan)
  else if c = 9 then .num (if v = 0 then 1 else -1)
  else
    let e := bitsN v x.m x.e
    let m := bitsN v 0 x.m
    if c = 2 ∧ e = 15 ∧ m = 7 then .nan
    else if c = 3 ∧ e = 31 then (if m = 0 then .inf (bitsN v 7 1 == 1) else .nan)
    else if e = 0 then sg m
    else sg ((2 ^ x.m + m) * 2 ^ (e - 1))

/-- The code of a magnitude in units of 2^-f, with its sign; zero has sign 0 (R245). -/
def elemWrite (c : Nat) (neg : Bool) (q : Nat) : Nat :=
  let x := fmtOf c
  if q = 0 then 0
  else if c = 7 then enc 8 (if neg then -(q : Int) else q)
  else if c = 8 then (if neg then 3 else 1)
  else if c = 9 then b2n neg
  else
    let s := b2n neg * 2 ^ (x.w - 1)
    if q < 2 ^ x.m then s + q
    else let l := q.log2 - x.m; s + (l + 1) * 2 ^ x.m + (q / 2 ^ l - 2 ^ x.m)

/-- The 32 codes of a block's packed elements (R241). -/
def unpack (w : Nat) (l : List Byte) : List Nat :=
  let v := ofBE l
  (List.range 32).map (fun n => bitsN v ((31 - n) * w) w)

/-- Codes packed without gaps. -/
def pack (w : Nat) (cs : List Nat) : List Byte := toBE (4 * w) (cs.foldl (fun a c => a * 2 ^ w + c) 0)

/-- One block of an input as read: its scale exponent X − 127 (none: a scale byte 0xFF) and its elements. -/
structure InBlock where
  x : Option Int
  els : List Elem
  deriving DecidableEq, Repr

/-- Block `j` of a scaled payload. -/
def blockRead (c : Nat) (p : List Byte) (j : Nat) : InBlock :=
  let b := slice p (j * blockLen c) (blockLen c)
  let x := getBE b 0 1
  { x := if x = 0xFF then none else some ((x : Int) - 127), els := (unpack (fmtOf c).w (b.drop 1)).map (elemRead c) }

/-- Has a block a non-finite element (R264)? -/
def blockBad (b : InBlock) : Bool :=
  b.x.isNone || b.els.any (fun e => match e with | .num _ => false | _ => true)

/-- How many elements of a block are non-finite: all of them where the scale byte is 0xFF (R264). -/
def badCount (b : InBlock) : Nat :=
  if b.x.isNone then 32 else (b.els.filter (fun e => match e with | .num _ => false | _ => true)).length

/-- An element's integer under SATURATE (R265). -/
def elemSat (c : Nat) : Elem → Int
  | .num k => k
  | .inf s => if s then -((fmtOf c).top : Int) else (fmtOf c).top
  | .nan => 0

/-- Counts and flags that forming one bale produces (R248, R253, R265, R266). -/
structure Tallied where
  under : Nat := 0
  sat : Nat := 0
  poison : Nat := 0
  nfSat : Nat := 0
  clamp : Nat := 0
  scaleUnder : Nat := 0
  deriving DecidableEq, Repr

/-- Two counts together. -/
def Tallied.add (a b : Tallied) : Tallied :=
  ⟨a.under + b.under, a.sat + b.sat, a.poison + b.poison, a.nfSat + b.nfSat, a.clamp + b.clamp, a.scaleUnder + b.scaleUnder⟩

/-- How a level forms its output (R214, R250 to R261). -/
structure Mode where
  inF : Nat
  outF : Nat
  /-- 0 SUM, 1 MEAN, 2 MAX, 3 MIN; MEAN divides only at the top -/
  rkind : Nat
  /-- divisor: CONTRIB at the top of a MEAN tree, else 1 -/
  div : Nat
  saturate : Bool
  stoch : Bool
  ef : Bool
  /-- blocks of a bale: 240 (R216) -/
  blocks : Nat := 240
  deriving DecidableEq, Repr

/-- One contribution in units of L, and whether it lost bits (R246). -/
def contribution (k : Int) (sh : Int) : Int × Bool :=
  if 0 ≤ sh then (k * 2 ^ sh.toNat, false)
  else
    let a := k.natAbs / 2 ^ (-sh).toNat
    (if k < 0 then -(a : Int) else a, decide (a * 2 ^ (-sh).toNat ≠ k.natAbs))

/-- The largest or the smallest of two. -/
def pick (rk : Nat) (a b : Int) : Int :=
  match rk with
  | 2 => max a b
  | 3 => min a b
  | _ => a + b

/-- One element of a scaled sum: `ks` are the inputs' integers with their shifts (R246, R249). -/
def accOne (rk : Nat) (ks : List (Int × Int)) : Int × Nat :=
  let cs := ks.map (fun k => contribution k.1 k.2)
  let u := (cs.filter (fun c => c.2)).length
  (match cs with
   | [] => 0
   | c :: r => r.foldl (fun a x => pick rk a x.1) c.1, u)

/-- A value being quantised: `±num / den × 2^exp`, with the sign of a zero (R250). -/
structure Val where
  neg : Bool
  num : Nat
  den : Nat
  exp : Int
  deriving DecidableEq, Repr

/-- A signed count as a value. -/
def valOf (n : Int) (den : Nat) (e : Int) : Val := ⟨decide (n < 0), n.natAbs, den, e⟩

/-- A value over powers of two: numerator and denominator of `|v| × 2^k`. -/
def valScaled (v : Val) (k : Int) : Nat × Nat :=
  let e := v.exp + k
  if 0 ≤ e then (v.num * 2 ^ e.toNat, v.den) else (v.num, v.den * 2 ^ (-e).toNat)

/-- `v − q × 2^e` exactly, of two values of like sign conventions. -/
def valSub (v : Val) (q : Int) (e : Int) : Val :=
  let m := min v.exp e
  let n : Int := if v.neg then -(v.num : Int) else v.num
  valOf (n * 2 ^ (v.exp - m).toNat - q * v.den * 2 ^ (e - m).toNat) v.den m

/-- A value in FP32, to nearest, ties to even (R267). -/
def valFp (v : Val) : Fp := let (n, d) := valScaled v 149; rne32 v.neg n d

/-- The waybill generator's rounds (R258). -/
def waybillRounds : Nat → Nat × Nat × Nat × Nat → Nat × Nat → Nat × Nat × Nat × Nat
  | 0, c, _ => c
  | n + 1, (c0, c1, c2, c3), (k0, k1) =>
    let p0 := 0xD3A2646D * c0
    let p1 := 0xB5C18E6B * c2
    waybillRounds n ((p1 / 2 ^ 32) ^^^ c1 ^^^ k0, p1 % 2 ^ 32, (p0 / 2 ^ 32) ^^^ c3 ^^^ k1, p0 % 2 ^ 32)
      ((k0 + 0x9E3779B9) % 2 ^ 32, (k1 + 0xBB67AE85) % 2 ^ 32)

/-- What identifies the elements of a bale for the generator (R257). -/
structure WayKey where
  wsPos : Nat
  /-- level − 1 -/
  level : Nat
  bale : Nat
  step : Nat
  tree : Nat
  seed : BitVec 64
  deriving DecidableEq, Repr

/-- The draw of element `i` (R257, R258). -/
def waybill (k : WayKey) (i : Nat) : Nat :=
  let (c0, c1, c2, c3) := waybillRounds 10
    (k.wsPos % 512 * 2 ^ 23 + k.level % 2 * 2 ^ 22 + i / 4 % 2048, k.bale % 2 ^ 32, k.step % 2 ^ 32,
      k.tree % 4096 * 2 ^ 20 + k.step / 2 ^ 32 % 2 ^ 20)
    (k.seed.toNat % 2 ^ 32, k.seed.toNat / 2 ^ 32)
  match i % 4 with
  | 0 => c0
  | 1 => c1
  | 2 => c2
  | _ => c3

/-- One element scaled and rounded (R253, R254): the signed result in units of 2^-f at the block's scale, and whether it
saturated. `xo` is the scale exponent less 127. -/
def quantOne (c : Nat) (xo : Int) (draw : Option Nat) (v : Val) : Int × Bool :=
  let x := fmtOf c
  let (n, d) := valScaled v ((x.f : Int) - xo)
  if c = 9 then
    -- S1: s = ±n/d
    let overs := decide (d < n)
    match draw with
    | none => (if v.neg ∧ n ≠ 0 then -1 else 1, overs)
    | some r =>
      let m := min n d
      let w := (if v.neg then (d - m) else (d + m)) * 2 ^ 31 / d
      (if r < w then 1 else -1, overs)
  else
    let q := if c = 7 ∨ c = 8 then roundQ draw n d else roundGrid draw x.m 0 n d
    let q' := min q x.top
    (if v.neg then -(q' : Int) else q', decide (x.top < q))

/-- The output of one block: its bytes; each element's output value as `k × 2^e`; counts. -/
structure OutBlock where
  bytes : List Byte
  outs : List (Int × Int)
  cnt : Tallied
  /-- CLAMPED is due -/
  clamped : Bool := false
  /-- the block came out poisoned -/
  poison : Bool := false
  deriving DecidableEq, Repr

/-- A poisoned output block (R265). -/
def poisonBlock (c : Nat) : OutBlock :=
  { bytes := match c with
      | 0 => (List.range 32).flatMap (fun _ => [0x7F, 0xC0, 0, 0])
      | 1 => (List.range 32).flatMap (fun _ => [0x7F, 0xC0])
      | c => 0xFF :: List.replicate (blockLen c - 1) 0
    outs := [], cnt := { poison := 1 }, poison := true }

/-- The values of a block written in a scaled format (R252 to R254, R266). -/
def quantBlock (c : Nat) (draws : Nat → Option Nat) (vs : List Val) : OutBlock :=
  let x := fmtOf c
  let tops := (vs.filter (fun v => v.num ≠ 0)).map (fun v => log2Q v.num v.den + v.exp)
  let (xb, cl, un) : Nat × Nat × Nat := match tops with
    | [] => (0, 0, 0)
    | t :: r =>
      let z := r.foldl max t - x.t + 127
      if 254 < z then (254, 1, 0) else if z < 0 then (0, 0, 1) else (z.toNat, 0, 0)
  let xo : Int := (xb : Int) - 127
  let qs := (List.range vs.length).map (fun i => quantOne c xo (draws i) (vs.getD i ⟨false, 0, 1, 0⟩))
  { bytes := BitVec.ofNat 8 xb :: pack x.w (qs.map (fun q => elemWrite c (decide (q.1 < 0)) q.1.natAbs))
    outs := qs.map (fun q => (q.1, xo - x.f))
    cnt := { sat := (qs.filter (fun q => q.2)).length, clamp := cl, scaleUnder := un }
    clamped := cl = 1 }

/-- The values of a block written in BF16 or FP32 (R255, R265); what rounds to zero is written +0 (R245). -/
def floatBlock (c : Nat) (saturate : Bool) (draws : Nat → Option Nat) (vs : List Val) : OutBlock :=
  let m := if c = 0 then 23 else 7
  let lo := if c = 0 then 0 else 16
  let top := if c = 0 then fp32Max else bf16Max
  let qs := (List.range vs.length).map (fun i =>
    let v := vs.getD i ⟨false, 0, 1, 0⟩
    let (n, d) := valScaled v 149
    let q := roundGrid (draws i) m lo n d
    (v.neg && (q != 0 || v.num == 0), q))
  let overs := (qs.filter (fun q => decide (fpOver ≤ q.2))).length
  if overs ≠ 0 ∧ ¬ saturate then poisonBlock c
  else
    let ws := qs.map (fun q => (q.1, if fpOver ≤ q.2 then top else q.2))
    { bytes := ws.flatMap (fun q => if c = 0 then toBE 4 (fpWrite (.fin q.1 q.2)) else toBE 2 (bf16Write (.fin q.1 q.2)))
      outs := ws.map (fun q => ((Fp.fin q.1 q.2).int, -149))
      cnt := { nfSat := overs }, clamped := decide (overs ≠ 0) }

/-- One input bale of a reduction: its payload in a format, and whether it is the residual (R246, R261). -/
structure Input where
  fmt : Nat
  payload : List Byte
  deriving DecidableEq, Repr

/-- The block sums of scaled inputs (R246): none where the block is poisoned; else the values, and the counts. -/
def scaledSums (md : Mode) (ins : List Input) : List (Option (List Val × Tallied)) :=
  let blk := (List.range md.blocks).map (fun j => ins.map (fun i => (i.fmt, blockRead i.fmt i.payload j)))
  let poisoned (bs : List (Nat × InBlock)) : Bool := !md.saturate && bs.any (fun b => blockBad b.2)
  let tops := (blk.filter (fun bs => !poisoned bs)).flatMap (fun bs =>
    bs.filterMap (fun b => b.2.x.map (fun x => x + (fmtOf b.1).t + 1)))
  match tops with
  | [] => blk.map (fun bs => if poisoned bs then none
      else some (List.replicate 32 ⟨false, 0, 1, 0⟩, { nfSat := bs.foldl (fun a b => a + badCount b.2) 0 }))
  | t :: r =>
    let win := r.foldl max t
    blk.map (fun bs =>
      if poisoned bs then none
      else
        let nf := bs.foldl (fun a b => a + badCount b.2) 0
        let accs := (List.range 32).map (fun i => accOne md.rkind (bs.map (fun b =>
          match b.2.x with
          | none => (0, 0)
          | some x => (elemSat b.1 (b.2.els.getD i .nan), x - (fmtOf b.1).f - win + 48))))
        some (accs.map (fun a => valOf a.1 md.div (win - 48)),
          { under := accs.foldl (fun a x => a + x.2) 0, nfSat := nf }))

/-- Element `i` of a payload of BF16 or FP32. -/
def fpElem (c : Nat) (p : List Byte) (i : Nat) : Fp :=
  if c = 0 then fpRead (getBE p (4 * i) 4) else bf16Read (getBE p (2 * i) 2)

/-- A non-finite input under SATURATE (R265). -/
def fpSat (c : Nat) : Fp → Fp
  | .inf s => .fin s (if c = 0 then fp32Max else bf16Max)
  | .nan => .fin false 0
  | x => x

/-- The value of a result under SATURATE: an infinity becomes the largest finite magnitude of the output format, which in a scaled
format is that of its largest scale, 254 (R265; log entry 33). -/
def satVal (c : Nat) : Fp → Val
  | .fin s m => ⟨s, m, 1, -149⟩
  | .inf s => if scaled c then ⟨s, (fmtOf c).top, 1, 127 - ((fmtOf c).f : Int)⟩ else ⟨s, if c = 0 then fp32Max else bf16Max, 1, -149⟩
  | .nan => ⟨false, 0, 1, 0⟩

/-- One step of a sum, a maximum or a minimum in FP32 (R250): +0 counts as greater than −0. -/
def fpPick (rk : Nat) (a b : Fp) : Fp :=
  match rk with
  | 2 => if fpGt b a ∨ (a = .fin true 0 ∧ b = .fin false 0) then b else a
  | 3 => if fpGt a b ∨ (a = .fin false 0 ∧ b = .fin true 0) then b else a
  | _ => fpAdd a b

/-- One element of a sum in fixed order (R250, R251): the children in CHILD order, then the residual as one more input (R261),
then the divisor; a quotient that rounds to zero is no negative zero (R245). -/
def fpOne' (md : Mode) (xs : List Fp) (res : Option Fp) : Fp :=
  let a := match xs ++ res.toList with
    | [] => Fp.fin false 0
    | x :: r => r.foldl (fpPick md.rkind) x
  if md.div = 1 then a
  else match fpDiv a (.fin false (md.div * 2 ^ 149)) with
    | .fin s m => .fin (s && (m != 0 || a == .fin true 0)) m
    | x => x

/-- The block sums of BF16 or FP32 inputs (R250, R264, R265). -/
def floatSums (md : Mode) (ins : List Input) (res : Option (List Byte)) : List (Option (List Val × Tallied)) :=
  (List.range md.blocks).map (fun j =>
    let raw := (List.range 32).map (fun i => ins.map (fun x => fpElem x.fmt x.payload (32 * j + i)))
    let badIn := raw.foldl (fun a l => a + (l.filter (fun v => !v.finite)).length) 0
    let rb := res.map (fun p => blockRead 2 p j)
    let rbBad : Bool := match rb with | some b => blockBad b | none => false
    let badRes := match rb with | some b => badCount b | none => 0
    if ¬ md.saturate ∧ (badIn ≠ 0 ∨ rbBad) then none
    else
      let outs := (List.range 32).map (fun i =>
        let rv := rb.map (fun b =>
          let k := elemSat 2 (b.els.getD i .nan)
          let (n, d) := valScaled (valOf k 1 (b.x.getD 0 - 9)) 149
          if b.x.isNone then Fp.fin false 0 else rne32 (decide (k < 0)) n d)
        fpOne' md ((raw.getD i []).map (fpSat md.inF)) rv)
      let badOut := (outs.filter (fun v => !v.finite)).length
      if ¬ md.saturate ∧ badOut ≠ 0 then none
      else
        some (outs.map (satVal md.outF), { nfSat := badIn + badRes + badOut }))

/-- The bale a waystation forms: payload, the counts, POISON and CLAMPED, the values quantised and their outputs per block
(none where poisoned). -/
structure Formed where
  payload : List Byte
  cnt : Tallied
  poison : Bool
  clamped : Bool
  vals : List (Option (List (Val × Int × Int)))
  deriving DecidableEq, Repr

/-- Form an output bale from its inputs (R246 to R256, R265). The residual enters last (R261). -/
def formBale (md : Mode) (ins : List Input) (res : Option (List Byte)) (key : WayKey) : Formed :=
  let sums := if scaled md.inF then
      scaledSums md (ins ++ (match res with | some p => [⟨2, p⟩] | none => []))
    else floatSums md ins res
  let outs := (List.range sums.length).map (fun j =>
    match sums.getD j none with
    | none => (poisonBlock md.outF, none, ({} : Tallied))
    | some (vs, t) =>
      let draws (i : Nat) : Option Nat := if md.stoch then some (waybill key (32 * j + i)) else none
      let o := if scaled md.outF then quantBlock md.outF draws vs else floatBlock md.outF md.saturate draws vs
      (o, if o.poison then none else some vs, t))
  { payload := outs.flatMap (fun o => o.1.bytes)
    cnt := outs.foldl (fun a o => (a.add o.1.cnt).add o.2.2) {}
    poison := outs.any (fun o => o.1.poison)
    clamped := outs.any (fun o => o.1.clamped || decide (o.2.2.nfSat ≠ 0))
    vals := outs.map (fun o => o.2.1.map (fun vs => vs.zip o.1.outs)) }

/-- The quantisation-error monitor (R267): does the bale exceed the limit? -/
def qerrExceeds (limit : Fp) (f : Formed) : Bool :=
  let zero := Fp.fin false 0
  let (ref2, err2) := (f.vals.flatMap (fun b => b.getD [])).foldl (fun (a : Fp × Fp) (v : Val × Int × Int) =>
    let x := valFp v.1
    let d := valFp (valSub v.1 v.2.1 v.2.2)
    (fpAdd a.1 (fpMul x x), fpAdd a.2 (fpMul d d))) (zero, zero)
  decide (ref2 ≠ zero) && fpGt err2 (fpMul (fpMul limit limit) ref2)

/-- The new residual payload in E4M3 (R261): what the output left of each value; a poisoned block keeps the old residual
(R262). -/
def newResidual (md : Mode) (old : Option (List Byte)) (f : Formed) : List Byte :=
  (List.range f.vals.length).flatMap (fun j =>
    match f.vals.getD j none with
    | none => (match old with
               | some p => slice p (j * 33) 33
               | none => List.replicate 33 0)
    | some vs =>
      (quantBlock 2 (fun _ => none) (vs.map (fun v =>
        let d := valSub v.1 v.2.1 v.2.2
        if scaled md.inF then d
        else match valFp d with
          | .fin s m => ⟨s, m, 1, -149⟩
          | _ => ⟨false, 0, 1, 0⟩))).bytes)

end Sys2Proof.Machine
end

