-- ==== Sys2Proof/Machine/Ws.lean ====
section
/-! DEFINITION. Waystations (09, 10, 13): bale headers, the checks at ingress, landings, the forming and hand-off of an output
bale, digests and the digest log, the gradient of an UPDATE tree. `dx` is 0 for die 5 and 1 for die 6. -/

namespace Sys2Proof.Machine

/-- A parameter set's binding and its state. -/
def psetCfg (s : State) (dx u : Nat) : PsetCfg := tget {} s.cfg.psets (dx * 32 + u)
def psetOf (s : State) (dx u : Nat) : Pset := tget {} s.die.psets (dx * 32 + u)
def modPset (dx u : Nat) (f : Pset → Pset) (s : State) : State :=
  modDie (fun x => { x with psets := tmod {} x.psets (dx * 32 + u) f }) s

/-- Payload bytes of a bale (R216). -/
def payloadLen (fmt : Nat) : Nat := 240 * blockLen fmt

/-- Bytes 0 to 29 of a bale's header (R217). -/
def baleHead (b : Bale) : List Byte :=
  toBE 2 (b.variant.toNat * 2 ^ 14 + b.tree.toNat) ++ toBE 1 b.format.toNat ++
  toBE 1 (b2n b.late + 2 * b2n b.invalid + 4 * b2n b.poison + 8 * b2n b.clamped + 16 * b2n b.dipSuspect + 32 * b2n b.down) ++
  toBE 4 b.bale.toNat ++ toBE 8 b.step.toNat ++ toBE 4 b.contrib.toNat ++ toBE 4 b.source.toNat ++
  toBE 4 b.digestFrag.toNat ++ [b.invCause, 0]

/-- A bale as it travels: header, HCRC, payload (R217). -/
def baleBytes (b : Bale) : Raw := let h := baleHead b; h ++ toBE 2 (crc16 h) ++ b.payload

/-- A bale read from the wire: at least a header (R217). -/
def baleOf (m : Raw) : Bale where
  variant := BitVec.ofNat 2 (getBE m 0 2 / 2 ^ 14)
  tree := BitVec.ofNat 12 (getBE m 0 2)
  format := BitVec.ofNat 4 (getBE m 2 1)
  late := bitsN (getBE m 3 1) 0 1 == 1
  invalid := bitsN (getBE m 3 1) 1 1 == 1
  poison := bitsN (getBE m 3 1) 2 1 == 1
  clamped := bitsN (getBE m 3 1) 3 1 == 1
  dipSuspect := bitsN (getBE m 3 1) 4 1 == 1
  down := bitsN (getBE m 3 1) 5 1 == 1
  bale := BitVec.ofNat 32 (getBE m 4 4)
  step := BitVec.ofNat 64 (getBE m 8 8)
  contrib := BitVec.ofNat 32 (getBE m 16 4)
  source := BitVec.ofNat 20 (getBE m 20 4)
  digestFrag := BitVec.ofNat 32 (getBE m 24 4)
  invCause := BitVec.ofNat 8 (getBE m 28 1)
  payload := m.drop 32

/-- Does a bale's header hold: whole, HCRC right, format listed, the payload of the format's length (R216, R217)? -/
def headOk (m : Raw) : Bool :=
  decide (32 ≤ m.length) && getBE m 30 2 == crc16 (m.take 30) && decide (getBE m 2 1 % 16 ≤ 9) &&
    m.length == 32 + payloadLen (getBE m 2 1 % 16)

/-- EXP of a waystation in the step (R222): its children's, less the members that a freeze excludes. -/
def childExp (x : Ws) (c : Child) : Nat := c.exp - (c.members.filter (fun m => x.excluded.contains (x.step, m))).length
def expContrib (s : State) (dx w : Nat) : Nat :=
  (wsCfg s dx w).children.foldl (fun a c => a + childExp (wsOf s dx w) c) 0

/-- Has a child been excluded by a freeze: it is a member itself, and named (R188)? -/
def childOut (x : Ws) (step : Nat) (c : Child) : Bool := x.excluded.contains (step, c.node) && c.members == [c.node]

/-- The waystations of the package bound to a tree: record keys in ascending order. -/
def wsOfTree (s : State) (tree : Nat) : List (Nat × Nat) :=
  (s.cfg.ws.filter (fun e => e.2.enable && e.2.tree.toNat == tree)).map (fun e => (e.1 / 512, e.1 % 512))

/-- The entry of a sequencer that consumes a bale of a waystation: sequencer and place in the table (R206). -/
def consumer (s : State) (dx w bale : Nat) : Option (Nat × Nat) :=
  ((List.range 4).flatMap (fun i =>
    let q := dx * 4 + i
    let t := (tget {} s.cfg.seqs q)
    let es := slotEntries t.table
    (List.range es.length).filterMap (fun j =>
      match es[j]? with
      | none => none
      | some e => match t.setups[e.setup]? with
        | some ⟨.reduce w' bs, _, _, _, _⟩ => if w' = w ∧ bs.contains bale then some (q, j) else none
        | _ => none))).head?

/-- The level of a port's record: 0 LEAF, 1 SPINE, 2 TWIN (R227): a port to another Adejan counts as SPINE. -/
def portLevel (s : State) (p : Nat) : Nat :=
  if p = 512 then 2 else if (tget {} s.rt.nbrs p).role = 2 then 1 else 0

/-- DIG_LOG_SEG's entry is written, or counted in DIG_LOG_SKIP (R329); entries count on past the 32 bits of DIG_LOG_HEAD (R334). A
write that fails its segment check is recorded (R291), as of a DGS engine, which does not stop: the log never stalls a slot. -/
def digLog (dx w : Nat) (e : List Byte) (s : State) : State :=
  let i := rf s (A.DIG_CTRL dx) 8 8
  let n := s.die.logN.getD dx 0
  let c := (segLimit s dx i - segBase s dx i + 1) / 32
  let a := segBase s dx i + n % c * 32
  let part := ownerPart s (.tree (wsCfg s dx w).tree.toNat)
  if c = 0 ∨ segRegion s dx i ≠ 3 ∨ part ≠ segPart s dx i then bump (A.DIG_LOG_SKIP dx) s
  else
    match segCheck s dx i false part true a 32 with
    | some cause => bump (A.DIG_LOG_SKIP dx) (segViol dx i cause (kindEngine s dx part 0x4C 8) true a s)
    | none =>
      let s1 := modDie (fun d => { d with stack := putBytes a e d.stack, logN := d.logN.set dx (n + 1) })
        (wn (A.DIG_LOG_HEAD dx) (n + 1) s)
      whenDo (decide ((n + 1) % c = 0)) (bump (A.DIG_LOG_WRAP dx)) s1

/-- LOG_MODE (R334). -/
def logMode (s : State) (dx : Nat) : Nat := rf s (A.DIG_CTRL dx) 0 2

/-- An entry of the digest log (R329). -/
def digEntry (b : Bale) (input : Bool) (level last : Nat) (d : List Byte) : List Byte :=
  toBE 8 b.step.toNat ++ toBE 2 (b.variant.toNat * 2 ^ 14 + b.tree.toNat) ++ toBE 1 (b2n input * 128 + (level - 1)) ++
  [b.invCause] ++ toBE 4 b.bale.toNat ++ toBE 4 b.contrib.toNat ++ toBE 4 last ++ d

/-- The slot index that consumes a bale: sequencer and table index (R206, R221). -/
def consumerSlot (s : State) (dx w bale : Nat) : Option (Nat × Nat) :=
  (consumer s dx w bale).bind (fun k =>
    ((slotEntries (tget {} s.cfg.seqs k.1).table)[k.2]?).map (fun e => (k.1, e.slot)))

/-- Landings occupied, one to a consuming index of a step: those with bales landed that no entry has taken (R221, R238). -/
def landCount (s : State) (dx w : Nat) : Nat :=
  let x := wsOf s dx w
  ((x.landed.filter (fun b => !(b.step.toNat == x.step && x.consumed.contains b.bale.toNat))).filterMap
    (fun b => (consumerSlot s dx w b.bale.toNat).map (fun k => (b.step, k)))).eraseDups.length

/-- A bale's payload is written to lines of its landing, as many as the landing has (R219, R283). Where in its range a bale stands is
the compiler's affair, which the spec does not give: DESIGN CHOICE (log entry 56): after the bale that landed before it, and at the
first line again where the rest of the range is too short. -/
def landLines (dx w : Nat) (p : List Byte) (s : State) : State :=
  let c := wsCfg s dx w
  let n := (p.length + 63) / 64
  let x := wsOf s dx w
  let l := if x.ring + n ≤ c.lines.2 then x.ring else 0
  modDie (fun d => { d with
      sram := putBytes (dx * 2 ^ 27 + c.bank * 2 ^ 19 + 64 * (c.lines.1 + l)) (p.take (64 * (c.lines.2 - l))) d.sram })
    (modWs dx w (fun x => { x with ring := l + n }) s)

/-- The working twin of a SHADOW pair mirrors the landing traffic of the waystations that the admission section chooses (R391). -/
def landMirror (dx w : Nat) (b : Bale) (s : State) : State :=
  whenDo (s.tw.mode == .shadow && !s.tw.newcomer && s.tw.adm == .compare && s.cfg.hall.admission.contains (wsKey dx w))
    (mirrorOut 10 (dx :: w :: (baleBytes b).map (fun x => x.toNat))) s

/-- A bale that has passed its checks lands, on behalf of the engine that owns the landing (R221, R283). -/
def land (dx w : Nat) (b : Bale) (s : State) : State :=
  let c := wsCfg s dx w
  match bankAccess s dx c.bank c.engine with
  | some cause => bankRefuse dx c.bank cause c.engine s
  | none =>
    let s1 := bump (A.BALE_IN dx w) (modWs dx w (fun x => { x with
      landed := x.landed ++ [b], seen := x.seen ++ [(b.bale.toNat, b.source, b.step.toNat)] }) s)
    let s2 := whenDo b.late (setFlag (A.WS_STAT dx w) 3) s1
    let s3 := landMirror dx w b <| landLines dx w b.payload (modWs dx w (fun x => { x with landNow := max x.landNow (landCount s2 dx w) }) s2)
    whenDo (logMode s dx == 2) (digLog dx w (digEntry b true c.level b.source.toNat (toBE 4 b.digestFrag.toNat ++ [0, 0, 0, 0]))) s3

/-- The step under execution at a waystation (R220): that of its table while it runs, else the last launched of its group. -/
def wsStepNow (s : State) (dx w : Nat) : Nat :=
  let x := wsOf s dx w
  if x.running then x.step else max x.step (grp s .keel (wsCfg s dx w).group).step

/-- The checks of a bale that goes up, at its waystation (R220). -/
def landChecks (dx w : Nat) (b : Bale) (s : State) : State :=
  let c := wsCfg s dx w
  let x := wsOf s dx w
  let n := b.bale.toNat
  if b.format.toNat ≠ c.format then bump (A.HDR_ERR_R238 dx) s
  else if b.variant ≠ c.variant then setFlag (A.WS_STAT dx w) 4 (bump (A.STRAY_BALE dx) s)
  else if b.step.toNat ≠ wsStepNow s dx w ∧ b.step.toNat ≠ wsStepNow s dx w + 1 then bump (A.STRAY_BALE dx) s
  else
    match c.children.find? (fun k => k.node == b.source) with
    | none => bump (A.STRAY_BALE dx) s
    | some k =>
      if childOut x b.step.toNat k then bump (A.EXCL_DROP c.group) s
      else if x.seen.contains (n, b.source, b.step.toNat) then
        bump (A.DUP_BALE dx w) s
      else if b.step.toNat = x.step ∧ x.consumed.contains n then
        (match consumer s dx w n with
         | some (q, _) => bump (A.LATE_DROP q) s
         | none => s)
      else land dx w b s

/-- The frame of a bale of a tree that leaves by a port (R216, R357): its partition is the tree's; DST and TTL are those that the tree
table gives (log entry 63). -/
def baleFrame (s : State) (c : WsCfg) (dx p : Nat) (m : Raw) : Frame where
  dst := ((c.addrs.find? (fun x => x.1 == p)).map (fun x => x.2)).getD 0
  src := nodeId s .keel * 4096 + 5 + dx
  cls := 2
  part := ownerPart s (.tree c.tree.toNat)
  ttl := c.ttl
  flow := 0
  payload := m

/-- Send a bale on ports, in a frame of class SCHED (R219, R357, R358); a package that serves nothing sends none. -/
def sendBale (c : WsCfg) (dx : Nat) (ports : List Nat) (m : Raw) (s : State) : State :=
  if serving s then forAll ports (fun p s =>
    let f := baleFrame s c dx p m
    frameToPort (portDie p - 1) fromHere p f false false (frameMake f) s) s
  else s

/-- The ports to which a result goes down, or an ALLTOALL bale to its peer (R225). -/
def downPorts (c : WsCfg) (bale : Nat) : List Nat :=
  if c.op = 2 ∨ c.op = 5 then (c.owners.filter (fun o => o.1 == bale)).map (fun o => o.2) else c.dest

/-- Lanes of the ports assigned to a level on a route die, and their number (R239). -/
def levelPorts (s : State) (d l : Nat) : List (Nat × PortCfg) :=
  s.cfg.ports.filter (fun e => portDie e.1 == d + 1 && portLevel s e.1 == l)

/-- The peak of a level: the bytes of the last millisecond against its line rate, 200 Gb/s a lane (R58, R227, R239). -/
def levelPeak (d l len : Nat) (s : State) : State :=
  let lanes := (levelPorts s d l).foldl (fun a e => a + e.2.lanes) 0
  let t := pe s .keel
  let w := (tget [] s.rt.peaks (3 * d + l)).filter (fun x => decide (t - x.1 < 1250000)) ++ [(t, len)]
  let b := w.foldl (fun a x => a + x.2) 0
  let s1 := { s with rt := { s.rt with peaks := tput (3 * d + l) w s.rt.peaks } }
  if lanes = 0 then s1
  else wn (A.PEAK_PCT d l) (max (rn s (A.PEAK_PCT d l)) (min 1000 (b * 8 / (lanes * 200000)))) s1

/-- Counters of a level at ingress of `len` bytes of SCHED traffic (R227, R239). -/
def levelIn (p len : Nat) (late : Bool) (s : State) : State :=
  let d := portDie p - 1
  let l := portLevel s p
  levelPeak d l len (whenDo late (bump (A.LATE_IN d l)) (bump64 (A.SCHED_BYTES d l) len s))

/-- A bale that no waystation receives counts in HDR_ERR of the reduce die that it addresses (R220). -/
def baleBad (die : Nat) (s : State) : State :=
  if 5 ≤ die ∧ die < 7 ∧ reduceDie s (die - 5) then bump (A.HDR_ERR_R238 (die - 5)) s else s

/-- The waystation of a tree that route dies ask for a bale addressed to `die`: one on that die, else the first. -/
def treeStation (s : State) (tree die : Nat) : Option (Nat × Nat) :=
  let ws := wsOfTree s tree
  (ws.find? (fun k => k.1 + 5 == die)).or ws.head?

/-- A bale that passes through the route dies only (R219, R225): a result goes to the tree's destinations; an unreduced bale of
ALLGATHER or BROADCAST goes up, and at the top becomes DOWN and goes to the members; one of ALLTOALL goes to its peer. -/
def baleThrough (c : WsCfg) (dx : Nat) (b : Bale) (m : Raw) (s : State) : State :=
  if b.down ∨ c.op = 5 then sendBale c dx (downPorts c b.bale.toNat) m s
  else if c.top then sendBale c dx c.dest (baleBytes { b with down := true }) s
  else sendBale c dx c.uplink.toList m s

/-- The checks of a bale at a route die (R219, R220): its header, then its waystation on the reduce die that it addresses, or the
destinations that the tree table names. -/
def baleArrive (die : Nat) (m : Raw) (s : State) : State :=
  if ¬ headOk m then baleBad die s
  else
    let b := baleOf m
    match treeStation s b.tree.toNat die with
    | none => baleBad die s
    | some (dx0, w0) =>
      let c0 := wsCfg s dx0 w0
      if b.down ∨ c0.op = 3 ∨ c0.op = 4 ∨ c0.op = 5 then baleThrough c0 dx0 b m s
      else
        let ws := (wsOfTree s b.tree.toNat).filter (fun k => k.1 + 5 == die)
        match (ws.find? (fun k => (wsCfg s k.1 k.2).children.any (fun c => c.node == b.source))).or ws.head? with
        | some (dx, w) => landChecks dx w b s
        | none => baleBad die s

/-- Bytes of the frame around a bale: the fabric header and the trailer (R357). -/
abbrev frameAround : Nat := 20

/-- A bale enters a route die in its frame (R219, R220, R227): the level of its port counts it, whatever its checks find. -/
def baleIngress (p die : Nat) (m : Raw) (s : State) : State :=
  if ¬ portMoves s p ∨ (nbrOf s .keel p).miswire then s
  else baleArrive die m (levelIn p (m.length + frameAround) (headOk m && (baleOf m).late) s)

/-- BALE_INGRESS at port `p` (R220). -/
def execBaleIngress (p : Nat) (m : BaleIn) (s : State) : Answer := done (baleIngress p m.die m.bytes s)

/-- A member is excluded from the step at every waystation that serves it (R188): its caravans are discarded, those landed
already too. A bale whose entry has issued stays in its sum, which then fails the count (R189). -/
def exclude (k step : Nat) (members : List (BitVec 20)) (s : State) : State :=
  forAll s.cfg.ws (fun e s =>
    let c := e.2
    let mine := members.filter (fun m => c.children.any (fun y => y.members.contains m))
    if ¬ c.enable ∨ c.group ≠ k ∨ mine.isEmpty then s
    else
      let dx := e.1 / 512
      let w := e.1 % 512
      let x := wsOf s dx w
      let gone (b : Bale) : Bool := mine.contains b.source && b.step.toNat == step &&
        !(x.step == step && x.consumed.contains b.bale.toNat)
      let n := ((wsOf s dx w).landed.filter gone).length
      bumpBy (A.EXCL_DROP k) n (modWs dx w (fun x => { x with
        excluded := (x.excluded ++ mine.map (fun m => (step, m))).eraseDups, landed := x.landed.filter (fun b => !gone b) }) s)) s

/-- Where the residual of a bale stands (R260). -/
def residualAddr (s : State) (dx : Nat) (c : WsCfg) (bale : Nat) : Nat := segBase s dx c.efSeg + (bale - c.baleBase) * 7920

/-- Does the tree carry the bale, so that its area holds a residual for it (R214, R260)? -/
def baleCarried (c : WsCfg) (bale : Nat) : Bool := decide (c.baleBase ≤ bale) && decide (bale < c.baleBase + c.baleCount)

/-- Does error feedback bring in a residual that has been written (R260)? -/
def residualStored (s : State) (dx w bale : Nat) : Bool :=
  (wsCfg s dx w).ef && baleCarried (wsCfg s dx w) bale && (wsOf s dx w).written.contains bale

/-- The residual that enters a bale's sum (R260, R261): none without error feedback; zero where the written bit is clear, else
what a DMA has brought to the die SRAM address `src` (R289). -/
def residualRead (s : State) (dx w bale src : Nat) : Option (List Byte) :=
  if ¬ (wsCfg s dx w).ef then none
  else if residualStored s dx w bale then some (getBytes s.die.sram (dx * 2 ^ 27 + src) 7920)
  else some (List.replicate 7920 0)

/-- Write a bale's residual, under the segment check; one that fails has no written bit set (R261, R291). -/
def residualWrite (dx w bale eng : Nat) (p : List Byte) (s : State) : State :=
  let c := wsCfg s dx w
  if ¬ baleCarried c bale then s
  else
    let r := stackWrite dx c.efSeg eng (residualAddr s dx c bale) p s
    if r.1 then modWs dx w (fun x => { x with written := if x.written.contains bale then x.written else x.written ++ [bale] }) r.2
    else r.2

/-- An uncorrectable error in reading a residual: it is rewritten as cleared (R269, R270). -/
def residualLost (dx w bale : Nat) (s : State) : State :=
  if residualStored s dx w bale then
    bump (A.EF_CLEARED dx) (modWs dx w (fun x => { x with written := x.written.filter (fun y => y != bale) }) s)
  else s

/-- What a waystation forms for a bale: is it INVALID, and the cause; CONTRIB, and the arithmetic's result. -/
structure Result where
  invalid : Bool
  cause : Nat
  contrib : Nat
  formed : Formed
  deriving DecidableEq, Repr

/-- The arithmetic of a level (R214, R229, R251). -/
def wsMode (s : State) (dx w contrib : Nat) : Mode :=
  let c := wsCfg s dx w
  let upd := c.op = 6 ∧ c.top
  { inF := c.format
    outF := match c.pset with
      | some u => if upd then (if (psetCfg s dx u).gFp32 then 0 else 1) else c.outFmt
      | none => c.outFmt
    rkind := c.rkind
    div := if c.rkind = 1 ∧ c.top then contrib else 1
    saturate := c.saturate
    stoch := c.stoch && !upd
    ef := c.ef && !upd }

/-- The children's bales that enter the sum, in CHILD order (R215, R222). -/
def entering (s : State) (dx w bale step : Nat) : List Bale :=
  let x := wsOf s dx w
  (wsCfg s dx w).children.filterMap (fun k =>
    x.landed.find? (fun b => b.source == k.node && b.bale.toNat == bale && b.step.toNat == step))

/-- JOB_SEED of a waystation record (R257, R259): that of the partition which owns its tree. -/
def jobSeed (s : State) (dx w : Nat) : BitVec 64 :=
  let c := wsCfg s dx w
  if c.enable then tget 0 s.cfg.seeds (ownerPart s (.tree c.tree.toNat)) else 0

/-- Form an output bale (R246 to R269): `src` is where its residual stands, `mem` says that a line or a residual came back
flagged, `abort` that the producing sequencer has aborted. -/
def formResult (s : State) (dx w bale step src : Nat) (mem abort : Bool) : Result :=
  let c := wsCfg s dx w
  let ins := entering s dx w bale step
  let contrib := ins.foldl (fun a b => a + b.contrib.toNat) 0
  let md := wsMode s dx w contrib
  let key : WayKey := ⟨c.wsPos, c.level - 1, bale, step, c.tree.toNat, jobSeed s dx w⟩
  let bad := ins.find? (fun b => b.invalid)
  let empty : Formed := ⟨[], {}, false, false, []⟩
  match bad with
  | some b => ⟨true, b.invCause.toNat, contrib, empty⟩
  | none =>
    if abort then ⟨true, 5, contrib, empty⟩
    else if mem then ⟨true, 4, contrib, empty⟩
    else if contrib ≠ expContrib s dx w then ⟨true, 1, contrib, empty⟩
    else
      let f := formBale md (ins.map (fun b => ⟨b.format.toNat, b.payload⟩)) (residualRead s dx w bale src) key
      let overs := qerrExceeds (fpRead (rn s (A.QERR_LIMIT dx w))) f
      let bad := overs && flag s (A.ARITH_CFG dx w) 3
      ⟨bad, if bad then 2 else 0, contrib, f⟩

/-- The arithmetic record's counters and flags (R248, R253, R265 to R267, R271). -/
def arithCounts (dx w : Nat) (f : Formed) (s : State) : State :=
  let t := f.cnt
  let s1 := bumpBy (A.UNDER_DROP dx w) t.under (bumpBy (A.SAT_ELEM dx w) t.sat (bumpBy (A.NF_POISON dx w) t.poison
    (bumpBy (A.NF_SAT dx w) t.nfSat (bumpBy (A.SCALE_CLAMP dx w) t.clamp (bumpBy (A.SCALE_UNDER dx w) t.scaleUnder s)))))
  let s2 := whenDo (decide (t.under ≠ 0)) (setFlag (A.ARITH_STAT dx w) 1) s1
  let s3 := whenDo f.clamped (setFlag (A.ARITH_STAT dx w) 2) s2
  let s4 := whenDo f.poison (setFlag (A.ARITH_STAT dx w) 3) s3
  whenDo (qerrExceeds (fpRead (rn s (A.QERR_LIMIT dx w))) f)
    (fun s => setFlag (A.ARITH_STAT dx w) 4 (bump (A.QERR_CNT dx w) s)) s4

/-- An INVALID output is counted and flagged (R271, R238). -/
def invalidCounts (dx w bale cause : Nat) (s : State) : State :=
  let s1 := bump (A.QNT_INV_SUM dx) (bump (A.BALE_INV dx w) (setFlag (A.WS_STAT dx w) 2 s))
  let s2 := wf (A.ARITH_STAT dx w) 8 8 cause (wn (A.INV_BALE dx w) bale s1)
  raiseFlag (A.ARITH_STAT dx w) 0 w 13 s2

/-- Is a dip window open on the reduce die (R413)? -/
def dipOpen (s : State) (dx : Nat) : Bool := s.hl.dipWin.contains (5 + dx)

/-- The dip capture area of a die: the top 1 GiB of region 3 of its second stack (R287, R415). -/
def captureBase (dx : Nat) : Nat := (2 * dx + 1) * 2 ^ 37 + 0x161A0BC000

/-- A bale handed off in a dip window under MARK waits for its verdict; the lines it consumed are copied into the capture area while
they fit, under the segment check, by a DGS engine (R274, R290, R414, R415; log entry 55). -/
def dipMark (dx w : Nat) (b : Bale) (lines : List Byte) (d : BitVec 64) (s0 : State) : State :=
  let used := tget 0 s0.hl.capUsed (5 + dx)
  let k := segNamed s0 dx (captureBase dx + used) lines.length 0x4C 8
  let r := stackWrite dx k.1 k.2 (captureBase dx + used) lines s0
  let room := decide (used + lines.length ≤ 2 ^ 30)
  let fits := room && r.1
  let s := if room then r.2 else s0
  { s with hl := { s.hl with
      dipBales := s.hl.dipBales ++ [⟨5 + dx, b.tree.toNat, b.bale.toNat, b.step.toNat, w, d, none,
        if fits then some (captureBase dx + used, lines.length) else none, s.hl.bins.getD dx 0⟩]
      capUsed := if fits then tset 0 s.hl.capUsed (5 + dx) (used + lines.length) else s.hl.capUsed } }

/-- Bytes filled up to whole lines of 64. -/
def wholeLines (l : List Byte) : List Byte := l ++ List.replicate ((64 - l.length % 64) % 64) 0

/-- The landing lines and the residual lines that forming a bale consumed. -/
def consumedLines (s : State) (dx w bale step src : Nat) : List Byte :=
  (entering s dx w bale step).flatMap (fun b => wholeLines b.payload) ++
    (if residualStored s dx w bale then wholeLines ((residualRead s dx w bale src).getD []) else [])

/-- Hand a bale off: digests, counters, the record of the step, the log, and the caravan (R218, R327 to R329). One marked in a
dip window of its own die is captured for verification (R415). -/
def handOff (dx w : Nat) (b0 : Bale) (ports : List Nat) (lines : List Byte) (s : State) : State :=
  let d := BitVec.ofNat 64 (crc64 b0.payload)
  let b := { b0 with digestFrag := BitVec.ofNat 32 (d.toNat / 2 ^ 32) }
  let s1 := modWs dx w (fun x => { x with
    outs := if x.step ≠ b.step.toNat then x.outs else x.outs ++ [⟨b.bale.toNat, b.invCause.toNat, b.contrib.toNat, d, b.dipSuspect⟩], lastBaleDig := d, handBin := s.hl.bins.getD dx 0 }) s
  let s2 := wn64 (A.WS_STEP dx w) b.step.toNat (bump (A.BALE_OUT dx w) s1)
  let s3 := whenDo (b.dipSuspect && dipOpen s dx) (dipMark dx w b lines d) (whenDo b.dipSuspect (bump A.DIP_SUSPECT_CNT) s2)
  let s4 := sendBale (wsCfg s dx w) dx ports (baleBytes b) s3
  whenDo (decide (1 ≤ logMode s dx)) (digLog dx w (digEntry b false (wsCfg s dx w).level w (toBE 8 d.toNat))) s4

/-- The output bale of a result (R217, R269, R414): a DIP_SUSPECT child marks it too. -/
def resultBale (s : State) (dx w bale step : Nat) (r : Result) (late : Bool) : Bale :=
  let c := wsCfg s dx w
  let dip := dipOpen s dx
  let dipped := !r.invalid && dip && flag s A.DIP_CTRL 0
  let cause := if dipped then 6 else r.cause
  let inv := r.invalid || dipped
  { variant := c.variant, tree := c.tree, format := BitVec.ofNat 4 c.outFmt, late := late, invalid := inv
    poison := !inv && r.formed.poison, clamped := !inv && r.formed.clamped
    dipSuspect := !inv && ((dip && !flag s A.DIP_CTRL 0) || (entering s dx w bale step).any (fun b => b.dipSuspect)), down := c.top
    bale := BitVec.ofNat 32 bale, step := BitVec.ofNat 64 step, contrib := BitVec.ofNat 32 r.contrib
    source := BitVec.ofNat 20 (nodeId s .keel), digestFrag := 0, invCause := BitVec.ofNat 8 cause
    payload := if inv then List.replicate (payloadLen c.outFmt) 0 else r.formed.payload }

/-- The GEN of a reference among those seen when a work item began (R303). -/
def genAtBegin (l : List (Nat × BitVec 8)) (s : State) (dx ref : Nat) : BitVec 8 :=
  ((l.find? (fun x => x.1 == ref)).map (fun x => x.2)).getD (genSeen s dx ref)

/-- The gradient of a bale stands, or its bale is INVALID: the set notes it, and its tally is signalled (R229, R232). -/
def gradDone (dx u bale eng : Nat) (gens : List (Nat × BitVec 8)) (r : Result) (s : State) : State :=
  let s2 := modPset dx u (fun x => { x with
    grads := (x.grads.filter (fun g => g.1 != bale)) ++ [(bale, r.invalid, r.contrib)] }) s
  match (psetCfg s dx u).gradTally with
  | some ref => sendSignal (srcOf dx eng) ref (genAtBegin gens s dx ref) 1 s2
  | none => s2

/-- The gradient of a bale is written to the set's segment (R229): one that the segment refuses is no gradient written, and the
engine has faulted (R291). -/
def gradWrite (dx u bale eng : Nat) (gens : List (Nat × BitVec 8)) (r : Result) (s : State) : State :=
  let c := psetCfg s dx u
  if r.invalid then gradDone dx u bale eng gens r s
  else
    let size := 7680 * (if c.gFp32 then 4 else 2)
    let y := stackWrite dx c.segG eng (segBase s dx c.segG + (bale - c.baleBase) * size) r.formed.payload s
    if y.1 then gradDone dx u bale eng gens r y.2 else y.2

/-- A bale of a REDUCE tree whose destination is a segment is written there (R225); the answer says whether it was. -/
def segWrite (dx w bale eng : Nat) (b : Bale) (s : State) : Bool × State :=
  let c := wsCfg s dx w
  match c.segDest with
  | some (i, base) =>
    if ¬ c.top ∨ b.invalid then (false, s)
    else stackWrite dx i eng (base + (bale - c.baleBase) * payloadLen c.outFmt) b.payload s
  | none => (false, s)

/-- How an entry stands for one of its bales (R204, R211, R218, R277): did a line come back flagged, and was it the residual's; did
the sequencer abort; is a hand-off late; does the entry hand off a caravan; the GENs seen when it issued (R303); the die SRAM
address to which a DMA has brought the stack data that the bale takes (R289). -/
structure OutCase where
  mem : Bool := false
  memRes : Bool := false
  abort : Bool := false
  late : Bool := false
  produces : Bool := true
  gens : List (Nat × BitVec 8) := []
  src : Nat := 0
  deriving DecidableEq, Repr

/-- The result of a bale has been formed (R218, R225, R229, R261): it goes up, down, to a segment, or to the parameter set; then
the new residual of one that was delivered valid is written: one whose only destination is a segment that refuses it is not delivered
(R262). -/
def baleSend (dx w bale step eng : Nat) (k : OutCase) (r : Result) (s : State) : State :=
  let c := wsCfg s dx w
  let b := resultBale s dx w bale step r k.late
  let upd := decide (c.op = 6) && c.top
  let res := residualRead s dx w bale k.src
  let s1 := if r.formed.payload.isEmpty then s else arithCounts dx w r.formed s
  let s2 := whenDo (if upd then r.invalid else b.invalid) (invalidCounts dx w bale (if upd then r.cause else b.invCause.toNat)) s1
  match upd, c.pset with
  | true, some u => gradWrite dx u bale eng k.gens r s2
  | _, _ =>
    let ports := if c.top then downPorts c bale else c.uplink.toList
    let (stored, s3) := segWrite dx w bale eng b (if k.produces then
      handOff dx w b ports (consumedLines s dx w bale step k.src) s2 else s2)
    let delivered := stored || k.produces && !(c.top && c.segDest.isSome && ports.isEmpty)
    if c.ef ∧ ¬ upd ∧ ¬ b.invalid ∧ delivered then
      residualWrite dx w bale eng (newResidual (wsMode s dx w r.contrib) res r.formed) s3
    else s3

/-- A reduce entry completes for one bale (R218, R268, R269): a count that differs from EXP is counted whatever the cause; a
residual that fails to read is rewritten as cleared. An entry that hands nothing off, and writes no gradient and no segment, forms
nothing. -/
def baleOut (dx w bale step eng : Nat) (k : OutCase) (s : State) : State :=
  let c := wsCfg s dx w
  if ¬ k.produces ∧ ¬ (c.op = 6 ∧ c.top) ∧ c.segDest.isNone then s
  else
    let r := formResult s dx w bale step k.src k.mem k.abort
    let s1 := whenDo (decide (r.contrib ≠ expContrib s dx w)) (bump (A.CNT_MISMATCH dx w)) s
    let s2 := baleSend dx w bale step eng k r s1
    let s3 := whenDo k.memRes (residualLost dx w bale) s2
    modWs dx w (fun x => { x with landed := x.landed.filter (fun y => !(y.bale.toNat == bale && y.step.toNat == step)) }) s3

/-- A step begins at a waystation: the landings that already hold its bales are occupied (R238). -/
def wsStepBegin (dx w step : Nat) (s : State) : State :=
  let s1 := modWs dx w (fun x => { x with
    step := step, running := true, consumed := [], outs := if wsReturns s dx w && x.step == step then x.outs else []
    excluded := x.excluded.filter (fun e => decide (step ≤ e.1))
    seen := x.seen.filter (fun e => decide (step ≤ e.2.2))
    landed := x.landed.filter (fun b => decide (step ≤ b.step.toNat)) }) s
  modWs dx w (fun x => { x with landNow := landCount s1 dx w }) s1

/-- The return table of a step begins at the top of its UPDATE tree: where the reduce table has not begun the step, its digest begins
here (R234, R328). -/
def retStepBegin (dx w step : Nat) (s : State) : State :=
  modWs dx w (fun x => if x.running || x.step == step then x else { x with step := step, consumed := [], outs := [] }) s

end Sys2Proof.Machine
end

