-- ==== Sys2Proof/Machine/Route.lean ====
section
/-! DEFINITION. The route dies (15): hellos and neighbour records, the TCAM and its loader, frames, learning, spraying, prism
by-pass and spill. Route dies count from 0 for die 1. -/

namespace Sys2Proof.Machine

/-- A command at a route die's register: the die is there, or the access is one to an absent die (R19). -/
def onRoute (die addr : Nat) (f : Nat → State → State) (s : State) : State :=
  if 1 ≤ die ∧ die ≤ 4 ∧ diePresent s die then f (die - 1) s else absentDie addr s

/-- Has the port a neighbour record among the registers: its route die and local lane (R370)? The twin link has none. -/
def recOf (s : State) (n : Node) (p : Nat) : Option (Nat × Nat) :=
  match n with
  | .keel => if p < 512 ∧ diePresent s (1 + p / 128) then some (p / 128, p % 128) else none
  | .evxus => none

/-- The period of the hellos at a node in cycles (R355); an Evxus has no HELLO_PERIOD of its own and uses the default. -/
def helloPeriod (s : State) (n : Node) (p : Nat) : Nat :=
  match n with
  | .keel => if s.cfg.hallActive then 1250000 * rn s (A.HELLO_PERIOD (portDie p - 1)) else 1250000
  | .evxus => 125000000

/-- The body of a HELLO (R354). -/
def helloBody (s : State) (n : Node) (p : Nat) : List Byte :=
  let x := nbrOf s n p
  let (chip, role) : Nat × Nat := match n with
    | .keel => (s.straps.chip.toNat, 2)
    | .evxus => (0, b2n s.straps.evRelay)
  let (act, ser) : Bool × Nat := match n with
    | .keel => (s.cfg.hallActive, if s.cfg.hallActive then s.cfg.hallSerial else 0)
    | .evxus => (false, 0)
  let split : Bool := match n with
    | .keel => portSplit s p
    | .evxus => false
  bodyOf [(12, toBE 4 (nodeId s n)), (16, toBE 8 chip), (24, toBE 1 role), (25, toBE 1 (port s n p).mode.toNat),
    (26, toBE 2 p), (28, toBE 8 x.chip.toNat), (36, toBE 4 x.node), (40, toBE 2 x.port),
    (42, toBE 1 (b2n act + 2 * b2n split)), (44, toBE 8 ser)]

/-- Has the time for the next HELLO of a lane come (R355)? -/
def helloTime (s : State) (n : Node) (p : Nat) : Bool :=
  (nbrOf s n p).lastTx.all (fun t => decide (helloPeriod s n p ≤ pe s n - t))

/-- A HELLO is sent on a trained keel lane or tap, one a period (R355); a node out of service sends none (R153). -/
def helloSend (n : Node) (p : Nat) (s : State) : State :=
  if ¬ (nodeRuns s n ∧ portWorks s n p ∧ linkStands s n p ∧ (port s n p).linkUp ∧ helloTime s n p) then s
  else modNbr n p (fun x => { x with lastTx := some (pe s n) }) (sendMsg n p tHello (helloBody s n p) s)

/-- HELLO_SEND (R355). -/
def execHelloSend (n : Node) (p : Nat) (s : State) : Answer := done (helloSend n p s)

/-- EXPECT of a port, once a hall almanac is active (R356). -/
def expectOf (s : State) (n : Node) (p : Nat) : Option (Nat × Nat) :=
  match n with
  | .keel => if s.cfg.hallActive then ((tfind p s.cfg.ports).map (fun c => c.expect)).getD none else none
  | .evxus => none

/-- A port becomes MISWIRE: MISWIRE_SEEN, a TIMING event; its exchange fails and it is ineligible (R356, R397). -/
def setMiswire (n : Node) (p : Nat) (s : State) : State :=
  match n with
  | .evxus => s
  | .keel =>
    if (nbrOf s .keel p).miswire then s
    else
      let s1 := modNbr .keel p (fun x => { x with miswire := true }) s
      let s2 := raiseFlag (A.RTE_STAT (portDie p - 1)) 2 p 11 s1
      let s3 := whenDo (port s .keel p).exch.isSome (failExch .keel p) s2
      portLost .keel p (modPort .keel p (fun x => { x with exch := none }) s3)

/-- The neighbour that a HELLO shows (R354). -/
def helloOf (s : State) (n : Node) (p : Nat) (m : Raw) : Nbr :=
  let own := match n with
    | .keel => s.straps.chip
    | .evxus => 0
  { heard := true
    twoWay := BitVec.ofNat 64 (getBE m 28 8) == own && getBE m 40 2 == p
    miswire := (nbrOf s n p).miswire
    node := getBE m 12 4 % 2 ^ 20, chip := BitVec.ofNat 64 (getBE m 16 8), role := getBE m 24 1, mode := getBE m 25 1
    port := getBE m 26 2 % 1024, serial := BitVec.ofNat 64 (getBE m 44 8), peerSplit := bitsN (getBE m 42 1) 1 1 == 1
    lastRx := pe s n, lastTx := (nbrOf s n p).lastTx, healthTx := (nbrOf s n p).healthTx }

/-- Does a HELLO show another neighbour than the last one: another package or port? An Evxus sends no chip identifier, and is known by
its node, once it has one (R356). -/
def otherNbr (old new : Nbr) : Bool :=
  old.chip != new.chip || old.port != new.port || (new.chip == 0 && old.node != 0 && old.node != new.node)

/-- A HELLO arrives (R355, R356). -/
def helloTake (n : Node) (p : Nat) (m : Raw) (s : State) : State :=
  let old := nbrOf s n p
  let new := helloOf s n p m
  let s1 := modNbr n p (fun _ => new) s
  let s2 := match recOf s n p with
    | some (d, l) => bump (A.HELLO_RX d l) s1
    | none => s1
  let meets := expectOf s n p == some (new.node, new.port)
  let changed := old.heard && otherNbr old new && decide (pe s n - old.lastRx ≤ helloPeriod s n p)
  if meets then modNbr n p (fun x => { x with miswire := false }) s2
  else if changed ∨ (new.twoWay ∧ (expectOf s n p).isSome) then setMiswire n p s2
  else s2

/-- HELLO_RECEIVE (R355). -/
def execHelloReceive (n : Node) (p : Nat) (m : Raw) (s : State) : Answer := done (onMsg n p tHello m (helloTake n p m) s)

/-- Three HELLO periods without a HELLO (R355). -/
def neighbourLost (n : Node) (p : Nat) (s : State) : State :=
  let x := nbrOf s n p
  if ¬ x.heard ∨ pe s n - x.lastRx < 3 * helloPeriod s n p then s
  else
    let s1 := modNbr n p (fun x => { x with heard := false, twoWay := false }) s
    match recOf s n p with
    | some (d, l) => setFlag (A.NEIGH_STAT d l) 3 s1
    | none => s1

/-- NEIGHBOUR_LOST (R355). -/
def execNeighbourLost (n : Node) (p : Nat) (s : State) : Answer := done (neighbourLost n p s)

/-! The TCAM (R361 to R364). -/

/-- Fields of an entry (R361). -/
def tcKey (e : TcamEntry) : Nat := bitsN e.toNat 96 32
def tcPlen (e : TcamEntry) : Nat := bitsN e.toNat 90 6
def tcValid (e : TcamEntry) : Bool := e.getLsbD 89
def tcAny (e : TcamEntry) : Bool := e.getLsbD 88
def tcPart (e : TcamEntry) : Nat := bitsN e.toNat 82 6
def tcMask (e : TcamEntry) : Nat := bitsN e.toNat 74 8
def tcAction (e : TcamEntry) : Nat := bitsN e.toNat 61 3
def tcTarget (e : TcamEntry) : Nat := bitsN e.toNat 48 10

/-- Does an entry match address, PART and class (R361)? -/
def tcMatch (addr part cls : Nat) (e : TcamEntry) : Bool :=
  let k := 32 - min 32 (tcPlen e)
  tcValid e && tcKey e / 2 ^ k == addr / 2 ^ k && (tcAny e || tcPart e == part) && bitsN (tcMask e) (cls - 1) 1 == 1

/-- The lookup: of the matching entries the one with the lowest index (R361). -/
def tcLookup (s : State) (d addr part cls : Nat) : Option TcamEntry :=
  ((rdie s d).live.find? (fun e => tcMatch addr part cls e.2)).map (fun e => e.2)

/-- The entries of a segment in a table. -/
def segEntries (g : Nat) (t : Table TcamEntry) : Table TcamEntry := t.filter (fun e => e.1 / 1024 == g)

/-- A segment's content replaced in the live copy. -/
def liveReplace (d g : Nat) (es : Table TcamEntry) (s : State) : State :=
  let put (t : Table TcamEntry) : Table TcamEntry := es.foldl (fun t e => tset 0 t e.1 e.2) (t.filter (fun e => e.1 / 1024 != g))
  modRdie d (fun x => { x with live := put x.live }) s

/-- The segments that a 64-bit word names. -/
def segNames (v : DWord) : List Nat := (List.range 64).filter (fun i => v.getLsbD i)

/-- Is a segment locked? -/
def segLocked (s : State) (d g : Nat) : Bool := (tfind g (rdie s d).work).isSome

/-- A write of TCAM_LOCK: named segments that are not locked lock, with a working copy equal to the live one (R362). -/
def tcamLock (d : Nat) (v : DWord) (s : State) : State :=
  forAll ((segNames v).filter (fun g => !segLocked s d g)) (fun g s =>
    modRdie d (fun x => { x with work := tput g (segEntries g x.live) x.work }) s) s

/-- TCAM_LOCK (R362). -/
def execTcamLock (die : Nat) (v : DWord) (s : State) : Answer :=
  done (onRoute die (A.TCAM_LOCK (die - 1)) (fun d s => tcamLock d v s) s)

/-- Bits that an entry must keep zero (R361). -/
abbrev tcReserved : Nat := (2 ^ 10 - 1) * 2 ^ 64 + 2 ^ 81 + 7 * 2 ^ 58 + (2 ^ 48 - 1)

/-- Does the request that runs write a segment (R362, R364)? -/
def loading (s : State) (d g : Nat) : Bool :=
  match (rdie s d).req with
  | some r => decide (r.idx / 1024 ≤ g) && decide (g ≤ (r.idx + r.cnt - 1) / 1024)
  | none => false

/-- The first fault of a segment's working copy: cause and index (R362); `all` is the table the order is checked in. -/
def segFault (s : State) (d g : Nat) (all : Table TcamEntry) : Option (Nat × Nat) :=
  let mine := segEntries g all
  let valid := all.filter (fun e => tcValid e.2)
  let order := (valid.zip (valid.drop 1)).find? (fun p =>
    (p.1.1 / 1024 == g || p.2.1 / 1024 == g) && decide (tcPlen p.1.2 < tcPlen p.2.2))
  if loading s d g then some (4, g * 1024)
  else
    match order with
    | some p => some (1, p.2.1)
    | none =>
      match mine.find? (fun e => tcKey e.2 % 2 ^ (32 - min 32 (tcPlen e.2)) != 0) with
      | some e => some (2, e.1)
      | none => (mine.find? (fun e => (e.2.toNat &&& tcReserved) != 0)).map (fun e => (3, e.1))

/-- A write of TCAM_UNLOCK: the segments that pass swap together; the others stay locked (R362). -/
def tcamUnlock (d : Nat) (v : DWord) (s : State) : State :=
  let gs := (segNames v).filter (segLocked s d)
  let x := rdie s d
  let all := (x.live.filter (fun e => !gs.contains (e.1 / 1024))) |> (fun t => gs.foldl (fun t g =>
    (tget [] x.work g).foldl (fun t e => tset 0 t e.1 e.2) t) t)
  let bad := gs.filterMap (fun g => (segFault s d g all).map (fun f => (g, f)))
  let good := gs.filter (fun g => !bad.any (fun b => b.1 == g))
  let s1 := forAll good (fun g s => modRdie d (fun x => { x with work := tdel g x.work })
    (liveReplace d g (tget [] x.work g) s)) s
  match bad with
  | [] => s1
  | (g, c, i) :: _ => raiseFlag (A.TCAM_STAT d) 1 0 13 (wn (A.SWAP_ERR d) (c * 2 ^ 24 + g * 65536 + i) s1)

/-- TCAM_UNLOCK (R362). -/
def execTcamUnlock (die : Nat) (v : DWord) (s : State) : Answer :=
  done (onRoute die (A.TCAM_UNLOCK (die - 1)) (fun d s => tcamUnlock d v s) s)

/-- A write of TCAM_ABANDON discards working copies (R362). -/
def tcamAbandon (d : Nat) (v : DWord) (s : State) : State :=
  forAll (segNames v) (fun g s => modRdie d (fun x => { x with work := tdel g x.work }) s) s

/-- TCAM_ABANDON (R362). -/
def execTcamAbandon (die : Nat) (v : DWord) (s : State) : Answer :=
  done (onRoute die (A.TCAM_ABANDON (die - 1)) (fun d s => tcamAbandon d v s) s)

/-- A loader request (R363): a ticket; RANGE and NOT_LOCKED end it at once. -/
def tcamReq (d : Nat) (v : Word) (s : State) : State :=
  if ¬ bit v 31 then s
  else if (rdie s d).req.isSome then raiseFlag (A.TCAM_STAT d) 3 0 12 s
  else
    match nextTicket s with
    | none => raiseFlag (A.TCAM_STAT d) 3 0 12 (noTicket s)
    | some t =>
      let s1 := issueAs t 17 (A.TCAM_TICKET d) .running s
      let i := rf s (A.TCAM_IDX d) 0 16
      let c := rf s (A.TCAM_CNT d) 0 17
      if 65536 < i + c then endTicket t 3 s1
      else if c ≠ 0 ∧ ¬ ((List.range 64).all (fun g => segLocked s d g || decide (g < i / 1024) || decide ((i + c - 1) / 1024 < g)))
        then endTicket t 2 s1
      else modRdie d (fun x => { x with req := some ⟨t, BitVec.ofNat 64 (rn64 s (A.TCAM_SRC d)), i, c⟩ })
        (emitAll (hostReads (BitVec.ofNat 64 (rn64 s (A.TCAM_SRC d))) (16 * c)) s1)

/-- TCAM_REQ (R363). -/
def execTcamReq (die : Nat) (v : Word) (s : State) : Answer :=
  done (onRoute die (A.TCAM_REQ (die - 1)) (fun d s => tcamReq d v s) s)

/-- The entries in bytes read: 16 bytes each, most significant byte first (R361). -/
def tcamEntries (l : List Byte) : List TcamEntry :=
  (List.range (l.length / 16)).map (fun i => BitVec.ofNat 128 (getBE l (16 * i) 16))

/-- The request ends: the entries read go into the working copies that are still there, and progress counts them; the entries before a
PCIe read that failed are written too (R363). -/
def tcamLoadDone (d : Nat) (got : TcamRead) (s : State) : State :=
  match (rdie s d).req with
  | none => s
  | some r =>
    let es := (tcamEntries got.bytes).take r.cnt
    let into := ((List.range es.length).zip es).filter (fun e => segLocked s d ((r.idx + e.1) / 1024))
    let s1 := forAll into (fun e s =>
      let i := r.idx + e.1
      modRdie d (fun x => { x with work := tmod [] x.work (i / 1024) (fun w => tset 0 w i e.2) }) s) (modRdie d (fun x => { x with req := none }) s)
    endTicket r.ticket (if got.failed then 1 else 0) (whenDo got.failed pcieFail (ticketProgress r.ticket into.length s1))

/-- TCAM_LOAD_DONE (R363). -/
def execTcamLoadDone (die : Nat) (got : TcamRead) (s : State) : Answer :=
  done (onRoute die (A.TCAM_TICKET (die - 1)) (fun d s => tcamLoadDone d got s) s)

/-- An activation replaces a segment's live copy; one that is locked loses its working copy, and a request still writing it
ends ABANDONED (R364). -/
def tcamReplace (die g : Nat) (es : Table TcamEntry) (s : State) : State :=
  let d := die - 1
  let s1 := liveReplace d g (segEntries g es) s
  if ¬ segLocked s d g then s1
  else
    let s2 := setFlag (A.TCAM_STAT d) 2 (modRdie d (fun x => { x with work := tdel g x.work }) s1)
    match (rdie s d).req with
    | some r => if loading s d g then endTicket r.ticket 4 (modRdie d (fun x => { x with req := none }) s2) else s2
    | none => s2

/-! Frames (R357 to R361, R365, R366). -/

/-- Is a member of a spray group eligible (R366)? -/
def sprayOk (s : State) (p : Nat) : Bool :=
  let x := tget {} s.rt.nbrs p
  x.twoWay && !x.miswire && !x.peerSplit && !portSplit s p

/-- The choice of a BULK frame: the eligible member with the fewest queued bytes in its class, ties by the hash (R366; log
entry 23). -/
def sprayPick (s : State) (f : Frame) (ms : List Nat) : Option Nat :=
  match ms with
  | [] => none
  | m :: r =>
    let low := r.foldl (fun a p => min a (queuedBytes s p f.cls)) (queuedBytes s m f.cls)
    let ties := ms.filter (fun p => queuedBytes s p f.cls == low)
    ties[Config.sprayHash f.src f.dst f.flow s.cfg.routeSeed % ties.length]?

/-- Ownership of what a fenced frame for a die addresses (R347): a local bale its waystation's tree, other traffic destination
1,024 + die. -/
def dieOwned (s : State) (f : Frame) (die : Nat) : Bool :=
  partOwns s f.part (if f.cls = 2 then .tree (baleOf f.payload).tree.toNat else .dest (1024 + die))

/-- A frame meets a SPRAY entry (R366, R331). -/
def frameSpray (d q g : Nat) (f : Frame) (noBuffer stomp : Bool) (m : Raw) (s : State) : State :=
  let ms := (tget [] s.cfg.sprays g).filter (sprayOk s)
  if isBulk f.cls then
    match sprayPick s f ms with
    | none => bump (A.SPRAY_DROP d) s
    | some p =>
      frameToPort d q p f noBuffer stomp m (whenDo (decide (2 ≤ ms.length))
        (fun s => bumpNdet A.NDET_SPRAY s) s)
  else
    match ms with
    | [] => bump (A.SPRAY_DROP d) s
    | p :: _ => frameToPort d q p f noBuffer stomp m s

/-- A frame for a die of the package (R352, R361): bales go to their waystation, where they find a buffer (R358). -/
def frameLocal (d : Nat) (f : Frame) (noBuffer : Bool) (s : State) : State :=
  let die := f.dst % 8
  if 8 ≤ f.dst % 4096 ∨ ¬ diePresent s die then bump (A.ENDPT_DROP d) s
  else if isFenced f.cls ∧ ¬ dieOwned s f die then fenceDrop d s
  else if f.cls ≠ 2 then s
  else if noBuffer then bump (A.SCHED_DROP d) s
  else baleArrive die f.payload s

/-- Carry out the action of the lookup (R361). -/
def frameAct (d p : Nat) (f : Frame) (noBuffer stomp : Bool) (m : Raw) (s : State) : State :=
  match tcLookup s d f.dst f.part f.cls with
  | none => bump (A.MISS_DROP d) s
  | some e =>
    match tcAction e with
    | 1 => frameToPort d p (tcTarget e) f noBuffer stomp (frameOut stomp m) s
    | 2 => frameSpray d p (tcTarget e) f noBuffer stomp (frameOut stomp m) s
    | 3 => if stomp then s else frameLocal d f noBuffer s
    | 4 => if stomp then s else modRt (fun r => { r with mgmt := r.mgmt ++ [m] }) s
    | _ => s

/-- Is an event in the filter: the same kind, address and port, younger than LEARN_HOLD (R365)? -/
def learnDup (s : State) (d : Nat) (e : LearnEvt) : Bool :=
  (rdie s d).filter.any (fun x => x.kind == e.kind && x.addr == e.addr && x.port == e.port &&
    decide (e.at_ - x.at_ < 1250 * rn s (A.LEARN_HOLD d)))

/-- Post a learn event: filtered, lost when the queue is full, or queued (R365). -/
def learnPost (d : Nat) (e : LearnEvt) (s : State) : State :=
  if learnDup s d e then bump (A.LEARN_DUP d) s
  else if 1024 ≤ (rdie s d).learn.length then bump (A.LEARN_OVF d) s
  else modRdie d (fun x => { x with learn := x.learn ++ [e], filter := (e :: x.filter).take 256 }) s

/-- What the SRC lookup of a frame posts (R365). -/
def learnSrc (s : State) (d p : Nat) (f : Frame) : Option (LearnKind × Nat) :=
  match tcLookup s d f.src f.part f.cls with
  | none => some (.srcNew, 0)
  | some e =>
    match tcAction e with
    | 1 => if tcTarget e = p then none else some (.move, tcTarget e)
    | 2 => if (tget [] s.cfg.sprays (tcTarget e)).contains p then none else some (.srcNew, 0)
    | _ => some (.srcNew, 0)

/-- Learning at a port with LEARN set (R365). -/
def frameLearn (d p : Nat) (f : Frame) (s : State) : State :=
  if ¬ flag s (A.PORT_CFG d (p % 128)) 8 ∨ 512 ≤ p then s
  else
    let evt (k : LearnKind) (addr old : Nat) : LearnEvt :=
      ⟨k, p, f.part, f.cls, BitVec.ofNat 32 addr, old, BitVec.ofNat 32 (now64 s .keel).toNat, pe s .keel⟩
    let s1 := match learnSrc s d p f with
      | some (k, old) => learnPost d (evt k f.src old) s
      | none => s
    if (tcLookup s d f.dst f.part f.cls).isNone then learnPost d (evt .dstMiss f.dst 0) s1 else s1

/-- The member of a spray group that a frame takes (R366). -/
def sprayMember (s : State) (g : Nat) (f : Frame) : Option Nat :=
  let ms := (tget [] s.cfg.sprays g).filter (sprayOk s)
  if isBulk f.cls then sprayPick s f ms else ms.head?

/-- Does a frame go cut-through: the bit of the ingress port for its class, an egress no faster (R358)? A port's rate goes with its
lanes; the twin link has 32 (R375). -/
def cutThrough (s : State) (d p : Nat) (f : Frame) : Bool :=
  let lanes (q : Nat) : Nat := if q = 512 then 32 else (tget {} s.cfg.ports q).lanes
  isFenced f.cls && decide (p < 512) && flag s (A.PORT_CFG d (p % 128)) f.cls &&
    (match tcLookup s d f.dst f.part f.cls with
     | some e =>
       match tcAction e with
       | 1 => decide (lanes (tcTarget e) ≤ lanes p)
       | 2 => (sprayMember s (tcTarget e) f).any (fun q => decide (lanes q ≤ lanes p))
       | 3 => true
       | _ => false
     | none => false)

/-- Ingress counters of the level of a port: whole frames, whatever becomes of them (R227, R239). -/
def frameLevel (p : Nat) (f : Frame) (m : Raw) (s : State) : State :=
  let d := portDie p - 1
  let l := portLevel s p
  if isBulk f.cls then levelPeak d l m.length (bump64 (A.BULK_BYTES d l) m.length s)
  else if f.cls = 2 then levelIn p m.length (headOk f.payload && (baleOf f.payload).late) s
  else s

/-- A data frame enters a port (R357 to R361). -/
def frameIngress (p : Nat) (noBuffer : Bool) (m : Raw) (s : State) : State :=
  let d := portDie p - 1
  let f := frameOf m
  let s0 := frameLevel p f m s
  if ¬ portMoves s p ∨ (tget {} s.rt.nbrs p).miswire then s
  else if ¬ frameHeadOk m then countEvent (A.HDR_ERR d) p 4 s
  else if f.cls = 0 then s
  else if frameStomped m then s0
  else if ¬ frameTrailOk m ∧ (¬ cutThrough s d p f ∨ (tcLookup s d f.dst f.part f.cls).map tcAction = some 3) then
    countEvent (A.FCS_ERR d) p 4 s0
  else
    if f.ttl = 0 then bump (A.TTL_DROP d) s0
    else if f.dst / 4096 = nodeId s .keel ∧ ¬ diePresent s (f.dst % 4096) then bump (A.ENDPT_DROP d) s0
    else frameAct d p f noBuffer (!frameTrailOk m) m (frameLearn d p f s0)

/-- FRAME_INGRESS (R361); `noBuffer`: a SCHED frame finds no buffer (R358). -/
def execFrameIngress (p : Nat) (noBuffer : Bool) (m : Raw) (s : State) : Answer := done (frameIngress p noBuffer m s)

/-- A read of LEARN_POP word 0 pops the head (R370). -/
def learnPop (d : Nat) (s : State) : State :=
  modRdie d (fun x => { x with popped := x.learn.head?, learn := x.learn.drop 1 }) s

/-! Prism by-pass and spill (R226, R367 to R369). -/

/-- The variant of a tree in force on the package (R214, R228). -/
def treeVariant (s : State) (tree : Nat) : Nat :=
  ((s.cfg.ws.find? (fun e => e.2.enable && e.2.tree.toNat == tree)).map (fun e => e.2.variant.toNat)).getD 0

/-- The circuits of the trees of a group, of the variants in force (R226, R228): tree and pair. -/
def groupCircuits (s : State) (k : Nat) : List (Nat × Nat × Nat) :=
  (s.cfg.circuits.filter (fun c => c.group == k && c.variant == treeVariant s c.tree)).flatMap
    (fun c => c.pairs.map (fun p => (c.tree, p.1, p.2)))

/-- A circuit is asked of the prism die (R226, R367). -/
def circuitAsk (a b : Nat) (owner : Option (Nat × Nat)) (s : State) : State :=
  let put (x y : Nat) := modByp x (fun _ => { state := .setting, peer := some y, owner := owner, spill := owner.isNone, since := pe s .keel })
  emit (.circuit a b true) (put a b (put b a s))

/-- At the T of a group the route dies set its circuit maps (R226); only an A800 has by-pass (R18). -/
def circuitSet (k : Nat) (s : State) : State :=
  let g := grp s .keel k
  if s.straps.variant ≠ 0 ∨ g.step = 0 ∨ ¬ fullAtOrAfter (now s .keel) g.lastAt then s
  else forAll (groupCircuits s k) (fun c s =>
    if (bypOf s c.2.1).owner = some (k, c.1) ∧ (bypOf s c.2.1).peer = some c.2.2 then s else circuitAsk c.2.1 c.2.2 (some (k, c.1)) s) s

/-- CIRCUIT_SET (R226). -/
def execCircuitSet (k : Nat) (s : State) : Answer := done (circuitSet k s)

/-- Change a group of a circuit and the one it is joined to. -/
def bothEnds (g : Nat) (f : Byp → Byp) (s : State) : State :=
  match (bypOf s g).peer with
  | some h => modByp g f (modByp h f s)
  | none => s

/-- A requested circuit is set (R226). -/
def circuitSetComplete (g : Nat) (s : State) : State :=
  if (bypOf s g).state = .setting then bothEnds g (fun x => { x with state := .set }) s else s

/-- CIRCUIT_SET_COMPLETE (R226). -/
def execCircuitSetComplete (g : Nat) (s : State) : Answer := done (circuitSetComplete g s)

/-- A circuit is not set within 20 µs of its request: CIRCUIT_FAIL at both of its groups (R368). -/
def circuitFail (g : Nat) (s : State) : State :=
  if (bypOf s g).state = .setting ∧ usCyc 20 ≤ pe s .keel - (bypOf s g).since then
    forAll (g :: (bypOf s g).peer.toList) (fun h s => setFlag (A.BYP_STAT (h / 16) (h % 16)) 9 s)
      (bothEnds g (fun x => { x with state := .failed }) s)
  else s

/-- CIRCUIT_FAIL (R368). -/
def execCircuitFail (g : Nat) (s : State) : Answer := done (circuitFail g s)

/-- Every sequencer of the group is IDLE: the circuits that it has set are released, of whatever variant (R226). -/
def circuitRelease (k : Nat) (s : State) : State :=
  if (List.range 8).any (fun q => flag s (A.SEQ_CFG q) 31 && rf s (A.SEQ_CFG q) 0 6 == k && (seqOf s q).state != .idle) then s
  else
    forAll (s.rt.byps.filter (fun e => e.2.owner.any (fun o => o.1 == k))) (fun e s =>
      match (bypOf s e.1).owner, e.2.peer with
      | some _, some h => emit (.circuit e.1 h false) (modByp e.1 (fun _ => {}) (modByp h (fun _ => {}) s))
      | _, _ => s) s

/-- CIRCUIT_RELEASE (R226). -/
def execCircuitRelease (k : Nat) (s : State) : Answer := done (circuitRelease k s)

/-- The standing spill circuit at a port: its group and the group at the other end (R369). -/
def spillAt (s : State) (p : Nat) : Option (Nat × Nat) :=
  ((s.cfg.spills ++ s.cfg.spills.map (fun x => (x.2, x.1))).find? (fun x =>
    (groupPorts s x.1).contains p && (bypOf s x.1).state == .set && (bypOf s x.1).spill))

/-- The ports to the leaf that some of its ports lead to: these, and those where the same neighbour is heard. -/
def leafPorts (s : State) (ps : List Nat) : List Nat :=
  (ps ++ (s.rt.nbrs.filter (fun e => e.2.heard && ps.any (fun p => (nbrOf s .keel p).heard && (nbrOf s .keel p).node == e.2.node))).map
    (fun e => e.1)).eraseDups

/-- CTRL_TYPE of the spill protocol (R369). -/
abbrev ctrlSpill : Nat := 0x0101

/-- SPILL_HOLD of the die of a port, in cycles (R369). -/
def spillHold (s : State) (p : Nat) : Nat := usCyc (rn s (A.SPILL_HOLD (portDie p - 1)))

/-- Have frames of a class from the leaf at port `p` been back-pressured without a break for SPILL_HOLD on their way to the leaf at the
other end (R369)? -/
def spillHeld (s : State) (p cls b : Nat) : Bool :=
  (leafPorts s (groupPorts s b)).any (fun q => (leafPorts s [p]).any (fun i =>
    (tfind (heldKey cls i) (tget {} s.rt.egress q).held).any (fun t => decide (spillHold s q ≤ pe s .keel - t))))

/-- Has the queue of a class toward the leaf at the other end stayed below half its credit limit for SPILL_HOLD (R369)? -/
def spillEased (s : State) (cls b : Nat) : Bool :=
  (leafPorts s (groupPorts s b)).all (fun q =>
    match tfind q s.rt.egress with
    | some e => (e.low.getD (cls - 3) none).any (fun t => decide (spillHold s q ≤ pe s .keel - t))
    | none => true)

/-- A CTRL frame that the package forms for its neighbour at port `p` (R352, R357, R358): hall-wide, from the port's route die to the
neighbour's keel; TTL and FLOW are the model's (DESIGN CHOICE, log entry 63). -/
def ctrlFrame (s : State) (p : Nat) (m : Raw) : Frame where
  dst := (nbrOf s .keel p).node * 4096
  src := nodeId s .keel * 4096 + portDie p
  cls := 1
  part := 0xFF
  ttl := 255
  flow := 0
  payload := m

/-- SPILL ON or OFF to the leaf at a port by the circuit from group `a` to group `b` (R369): CTRL_TYPE, OP, CLASS, GROUP, DEST,
BYTES; the frame leaves by the port's queue (R358). -/
def spillSend (p cls a b : Nat) (on : Bool) (s : State) : State :=
  let leaf := ((groupPorts s b).head?.map (fun q => (nbrOf s .keel q).node * 4096)).getD 0
  let m := toBE 2 ctrlSpill ++ toBE 1 (if on then 1 else 2) ++ toBE 1 cls ++ toBE 2 a ++ toBE 4 leaf ++ toBE 8 0
  let f := ctrlFrame s p m
  frameToPort (portDie p - 1) fromHere p f false false (frameMake f)
    (modRt (fun r => { r with egress := tmod {} r.egress p (fun e => { e with spillOn := e.spillOn.set (cls - 3) on }) }) s)

/-- Has the class of a port's leaf been told to spill? -/
def spilling (s : State) (p cls : Nat) : Bool := (tget {} s.rt.egress p).spillOn.getD (cls - 3) false

/-- The leaf at port `p` is told to spill, once its frames have been held for SPILL_HOLD (R369). -/
def spillStart (p cls : Nat) (s : State) : State :=
  match spillAt s p with
  | some (a, b) => if isBulk cls ∧ ¬ spilling s p cls ∧ s.straps.variant = 0 ∧ spillHeld s p cls b then spillSend p cls a b true s else s
  | none => s

/-- The leaf at port `p` is told to spill no more, once the queue has eased for SPILL_HOLD (R369). -/
def spillStop (p cls : Nat) (s : State) : State :=
  match spillAt s p with
  | some (a, b) => if isBulk cls ∧ spilling s p cls ∧ spillEased s cls b then spillSend p cls a b false s else s
  | none => s

/-- SPILL_ON (R369). -/
def execSpillOn (p cls : Nat) (s : State) : Answer := done (spillStart p cls s)

/-- SPILL_OFF (R369). -/
def execSpillOff (p cls : Nat) (s : State) : Answer := done (spillStop p cls s)

/-- A leaf's REPORT adds its BYTES to SPILL_BYTES of its level (R369). -/
def spillReport (p : Nat) (m : Raw) (s : State) : State :=
  if m.length < 18 ∨ getBE m 0 2 ≠ ctrlSpill ∨ getBE m 2 1 ≠ 3 ∨ s.straps.variant ≠ 0 then s
  else bump64 (A.SPILL_BYTES (portDie p - 1) (portLevel s p)) (getBE m 10 8) s

/-- SPILL_REPORT (R369). -/
def execSpillReport (p : Nat) (m : Raw) (s : State) : Answer := done (spillReport p m s)

end Sys2Proof.Machine
end

