-- ==== Sys2Proof/Machine/Upd.lean ====
section
/-! DEFINITION. The update pass of a parameter set (R230 to R237) and the parity deltas of a convoy member (R385 to R387).
`dx` is 0 for die 5 and 1 for die 6; set `u` of a die is number 32 × dx + u of the package. -/

namespace Sys2Proof.Machine

/-- The UPD engine that serves a set. -/
def updEngine (u : Nat) : Nat := 0x48 + u % 4

/-- What one element becomes: p, m and v (R231). -/
structure Param where
  p : Fp
  m : Fp
  v : Fp
  deriving DecidableEq, Repr

/-- The constants of a pass, formed once (R231). -/
structure Pass where
  opt : Nat
  lr : Fp
  beta1 : Fp
  beta2 : Fp
  eps : Fp
  wd : Fp
  gscale : Fp
  nesterov : Bool
  coupled : Bool
  c1 : Fp
  c2 : Fp
  bc1 : Fp
  bc2 : Fp
  deriving DecidableEq, Repr

/-- The pass of latched hyperparameters and of the powers of beta1 and beta2 (R231). -/
def passOf (opt : Nat) (h : Hyper) (b1t b2t : Word) : Pass :=
  let f (w : Word) : Fp := fpRead w.toNat
  { opt := opt, lr := f h.lr, beta1 := f h.beta1, beta2 := f h.beta2, eps := f h.eps, wd := f h.wd
    gscale := f h.gscale, nesterov := h.nesterov, coupled := h.wdCoupled
    c1 := fpSub fpOne (f h.beta1), c2 := fpSub fpOne (f h.beta2)
    bc1 := fpDiv fpOne (fpSub fpOne (f b1t)), bc2 := fpDiv fpOne (fpSub fpOne (f b2t)) }

/-- MOMENTUM_SGD on a scaled gradient (R231). -/
def momentumSgd (k : Pass) (g : Fp) (x : Param) : Param :=
  let g := if k.coupled then fpAdd g (fpMul k.wd x.p) else g
  let m := fpAdd (fpMul k.beta1 x.m) g
  let d := if k.nesterov then fpAdd g (fpMul k.beta1 m) else m
  let p := if k.coupled then fpSub x.p (fpMul k.lr d) else fpSub x.p (fpMul k.lr (fpAdd d (fpMul k.wd x.p)))
  ⟨p, m, x.v⟩

/-- ADAMW on a scaled gradient (R231). -/
def adamw (k : Pass) (g : Fp) (x : Param) : Param :=
  let m := fpAdd (fpMul k.beta1 x.m) (fpMul k.c1 g)
  let v := fpAdd (fpMul k.beta2 x.v) (fpMul (fpMul k.c2 g) g)
  let u := fpDiv (fpMul m k.bc1) (fpAdd (fpSqrt (fpMul v k.bc2)) k.eps)
  ⟨fpSub x.p (fpMul k.lr (fpAdd u (fpMul k.wd x.p))), m, v⟩

/-- SIGN_MOMENTUM on a scaled gradient (R231). -/
def signMomentum (k : Pass) (g : Fp) (x : Param) : Param :=
  let c := fpAdd (fpMul k.beta1 x.m) (fpMul k.c1 g)
  let p := fpSub x.p (fpMul k.lr (fpAdd (fpSign c) (fpMul k.wd x.p)))
  ⟨p, fpAdd (fpMul k.beta2 x.m) (fpMul k.c2 g), x.v⟩

/-- The formula of a set's optimiser, gradient scaled first (R231). -/
def optimise (k : Pass) (g : Fp) (x : Param) : Param :=
  let g := fpMul g k.gscale
  match k.opt with
  | 0 => momentumSgd k g x
  | 1 => adamw k g x
  | _ => signMomentum k g x

/-- One element: its new values, and whether it was skipped because the gradient or a new value is not finite (R232). -/
def updElem (k : Pass) (g : Fp) (x : Param) : Param × Bool :=
  let y := optimise k g x
  if g.finite && y.p.finite && y.m.finite && y.v.finite then (y, false) else (x, true)

/-- Bytes of a stored moment: FP32, or BF16 rounded to nearest even (R231). -/
def momentBytes (bf16 : Bool) (x : Fp) : List Byte :=
  if bf16 then toLE 2 (bf16Write (toBf16 x)) else toLE 4 (fpWrite x)

/-- A stored moment read, widened exactly (R231). -/
def momentRead (bf16 : Bool) (l : List Byte) : Fp := if bf16 then bf16Read (ofLE l) else fpRead (ofLE l)

/-- Where the state of a set's bale stands: addresses of p, m, v and the gradient, elements in it, bytes of a moment and of a
gradient element. -/
structure BaleArea where
  p : Nat
  m : Nat
  v : Nat
  g : Nat
  n : Nat
  mb : Nat
  gb : Nat
  deriving DecidableEq, Repr

/-- The area of bale place `i` of a set: 7,680 parameters, the last bale what is left of PARAM_COUNT (R216, R240). -/
def baleArea (s : State) (dx u i : Nat) : BaleArea :=
  let c := psetCfg s dx u
  let mb := if c.momentsBf16 then 2 else 4
  let gb := if c.gFp32 then 4 else 2
  { p := segBase s dx c.segP + i * 7680 * 4, m := segBase s dx c.segM + i * 7680 * mb
    v := segBase s dx c.segV + i * 7680 * mb, g := segBase s dx c.segG + i * 7680 * gb
    n := min 7680 (c.paramCount - i * 7680), mb := mb, gb := gb }

/-- The reads of a bale's state and gradient, in order p, m, v, gradient: the first burst that fails its segment check, as segment,
cause and address (R291). -/
def updReadFail (s : State) (dx u : Nat) (a : BaleArea) : Option (Nat × Nat × Nat) :=
  let c := psetCfg s dx u
  let chk (i addr len : Nat) : Option (Nat × Nat × Nat) :=
    (burstFails s dx i (updEngine u) false addr len).map (fun k => (i, k.1, k.2))
  (chk c.segP a.p (4 * a.n)).or ((chk c.segM a.m (a.mb * a.n)).or
    ((if c.opt = 1 then chk c.segV a.v (a.mb * a.n) else none).or (chk c.segG a.g (a.gb * a.n))))

/-- The writes of a bale's new state, in order p, m, v, as far as their bursts pass (R291): the bytes of the stack, and the first
burst that fails with the number of bytes written before it. -/
def updWrites (s : State) (dx u : Nat) (ws : List (Nat × Nat × List Byte)) : Table Byte × Option (Nat × Nat × Nat × Nat) :=
  ws.foldl (fun (y : Table Byte × Option (Nat × Nat × Nat × Nat)) w =>
    match y.2 with
    | some _ => y
    | none =>
      match burstFails s dx w.1 (updEngine u) true w.2.1 w.2.2.length with
      | none => (putBytes w.2.1 w.2.2 y.1, none)
      | some (cause, a) => (putBytes w.2.1 (w.2.2.take (a - w.2.1)) y.1, some (w.1, cause, a, w.2.1)))
    (s.die.stack, none)

/-- A fault stops the pass (R237): MEM 1, SEG 2, RESET 3, ENGINE 4. -/
def updFault (dx u code : Nat) (s : State) : State :=
  raiseFlag (A.PSET_STAT dx u) 7 u 13 (modPset dx u (fun x => { x with fault := code }) s)

/-- A stack error or a refused burst faults the UPD engine too (R288, R291, R294). -/
def updStop (dx u code : Nat) (s : State) : State := updFault dx u code (engFault dx (updEngine u) s)

/-- The state bytes of a bale after the pass, and the elements skipped (R231, R232). -/
def updBytes (s : State) (dx u : Nat) (a : BaleArea) (k : Pass) : List Byte × List Byte × List Byte × Nat :=
  let c := psetCfg s dx u
  let mem := s.die.stack
  let els := (List.range a.n).map (fun j =>
    let x : Param := ⟨fpRead (ofLE (getBytes mem (a.p + 4 * j) 4)),
      momentRead c.momentsBf16 (getBytes mem (a.m + a.mb * j) a.mb),
      if c.opt = 1 then momentRead c.momentsBf16 (getBytes mem (a.v + a.mb * j) a.mb) else .fin false 0⟩
    let w := ofBE (getBytes mem (a.g + a.gb * j) a.gb)
    (updElem k (if c.gFp32 then fpRead w else bf16Read w) x, j))
  let keepOr (skip : Bool) (at_ len : Nat) (new : List Byte) : List Byte := if skip then getBytes mem at_ len else new
  (els.flatMap (fun e => keepOr e.1.2 (a.p + 4 * e.2) 4 (toLE 4 (fpWrite e.1.1.p))),
   els.flatMap (fun e => keepOr e.1.2 (a.m + a.mb * e.2) a.mb (momentBytes c.momentsBf16 e.1.1.m)),
   if c.opt = 1 then els.flatMap (fun e => keepOr e.1.2 (a.v + a.mb * e.2) a.mb (momentBytes c.momentsBf16 e.1.1.v)) else [],
   (els.filter (fun e => e.1.2)).length)

/-- Bytes of a chunk of the convoy's code, and of the protected area of a stack (R384, R385). -/
abbrev chunkLen : Nat := 4096
abbrev protectedLen : Nat := 48000000000

/-- Row and slot of a data chunk of a position: protected chunk number `c` (R385). -/
def convRow (pos c : Nat) : Nat :=
  let i := c % 3
  (c / 3) * 4 + (if i < pos / 2 then i else i + 1)

/-- Rows of one stack's code (R385); row r of stack s goes by the number s × 15,625,000 + r. -/
abbrev rowsPerStack : Nat := 15625000

/-- The positions that hold P and Q of a row (R385). -/
def holders (row : Nat) : List Nat := [2 * (row % rowsPerStack % 4), 2 * (row % rowsPerStack % 4) + 1]

/-- Is the member at a position present (R387, R388)? The package of a REBUILT position is still lost. -/
def posPresent (s : State) (p : Nat) : Bool := s.tw.positions.getD p .absent == .current

/-- The chunks that some bytes of the stacks touch in the protected area: (stack, chunk) pairs. -/
def chunksOf (ranges : List (Nat × Nat)) : List (Nat × Nat) :=
  (ranges.flatMap (fun r =>
    let st := r.1 / 2 ^ 37
    let o := r.1 % 2 ^ 37
    if r.2 = 0 then [] else
    ((List.range ((o + r.2 - 1) / chunkLen + 1 - o / chunkLen)).map (fun i => (st, o / chunkLen + i))).filter
      (fun c => decide (c.2 * chunkLen < protectedLen)))).eraseDups

/-- The areas of the rebuild map in which a host holds a set of a lost position (R384, R388). -/
def rebuildAreas (s : State) (host set : Nat) : List RebuildArea :=
  s.cfg.hall.rebuild.filter (fun a => a.host == host && a.sets.contains set && !posPresent s a.lost)

/-- The position whose data a member's set holds: that of a lost one where the member is its rebuild host (R388), else its own. -/
def dataPos (s : State) (host set : Nat) : Nat := ((rebuildAreas s host set).head?.map (fun a => a.lost)).getD host

/-- The data chunks that the writes of a set touch: position, stack, chunk of that position's protected area, and the address here.
A rebuild host's reserve holds chunks of the lost position (R388). -/
def deltaChunks (s : State) (set : Nat) (ranges : List (Nat × Nat)) : List (Nat × Nat × Nat × Nat) :=
  (chunksOf ranges).map (fun c => (s.cfg.hall.pos, c.1, c.2, c.1 * 2 ^ 37 + c.2 * chunkLen)) ++
  (rebuildAreas s s.cfg.hall.pos set).flatMap (fun a =>
    let there := ranges.filterMap (fun r =>
      let lo := max (r.1 % 2 ^ 37) a.reserve
      let hi := min (r.1 % 2 ^ 37 + r.2) (a.reserve + a.bytes)
      if r.1 / 2 ^ 37 = a.stack ∧ lo < hi then some (a.stack * 2 ^ 37 + a.orig + (lo - a.reserve), hi - lo) else none)
    (chunksOf there).map (fun c => (a.lost, c.1, c.2, c.1 * 2 ^ 37 + a.reserve + c.2 * chunkLen - a.orig)))

/-- A member's deltas of a bale: old xor new of every chunk touched, to the P and Q holders of its row (R387); a rebuild host sends
those of the lost position's rows (R388), and forwards what it writes of them to the package that takes the position (R391; log entry
62). -/
def sendDeltas (set bale : Nat) (ranges : List (Nat × Nat)) (old : Table Byte) (s : State) : State :=
  if ¬ s.tw.member then s
  else
    let cs := deltaChunks s set ranges
    let s1 := forAll cs (fun (pos, st, c, a) s =>
      let row := st * rowsPerStack + convRow pos c
      let d := (List.range chunkLen).map (fun i => (tget 0 old (a + i)) ^^^ (tget 0 s.die.stack (a + i)))
      let node (h : Nat) : Nat := (s.cfg.hall.convoy.getD h (0, false, 0, 0)).1
      let s1 := emitAll (((holders row).filter (posPresent s)).map (fun h => .delta (node h) set bale row d)) s
      whenDo (pos != s.cfg.hall.pos) (emit (.restore (node pos) (st * 2 ^ 37 + c * chunkLen) (getBytes s.die.stack a chunkLen))) s1) s
    let hs := (cs.flatMap (fun (pos, _, c, _) => (holders (convRow pos c)).filter (posPresent s))).eraseDups
    if hs.isEmpty then s1 else { s1 with tw := { s1.tw with deltaPend := s1.tw.deltaPend ++ [(set, bale, hs)] } }

/-- The hyperparameters of a set as its registers hold them (R236). -/
def hyperNow (s : State) (dx u : Nat) : Hyper where
  lr := rd s (A.LR dx u)
  beta1 := rd s (A.BETA1 dx u)
  beta2 := rd s (A.BETA2 dx u)
  eps := rd s (A.EPS dx u)
  wd := rd s (A.WD dx u)
  gscale := rd s (A.GSCALE dx u)
  nesterov := flag s (A.PSET_CFG dx u) 7
  wdCoupled := flag s (A.PSET_CFG dx u) 6

/-- A parameter set latches its hyperparameters, and waits for the step's gradients (R236, R240). -/
def setLatch (u step : Nat) (s : State) : State :=
  modPset (u / 32) (u % 32) (fun x => { x with
    hyper := hyperNow s (u / 32) (u % 32), state := .waiting, step := step, doneBales := 0, grads := [], begun := false }) s

/-- Does a set wait for a loss: the rebuild map places it here for a position that is not lost (R384, R388)? -/
def setDormant (s : State) (u : Nat) : Bool :=
  s.cfg.hall.rebuild.any (fun a => a.host == s.cfg.hall.pos && a.sets.contains u) && (rebuildAreas s s.cfg.hall.pos u).isEmpty

/-- Have all enabled sets that run step `st` ended their pass, every bale acknowledged (R387)? -/
def passAcked (s : State) (st : Nat) : Bool :=
  s.tw.deltaPend.isEmpty && s.die.psets.all (fun e =>
    setDormant s e.1 || e.2.step != st || (e.2.state == .done && e.2.updStep == st))

/-- The convoy's record goes to the twin (R377): CONV_STEP, the bales of a set that are acknowledged, and the bytes rebuilt. -/
def convMirror (u : Nat) (s : State) : State :=
  let wait := (s.tw.deltaPend.filter (fun d => d.1 == u)).length
  whenDo s.tw.member (mirrorSplit 5 [s.tw.convStep, u, (psetOf s (u / 32) (u % 32)).doneBales - wait, s.tw.rebuilt]) s

/-- CONV_STEP of a member is the step whose update is applied and acknowledged (R387). -/
def convAdvance (s : State) : State :=
  if ¬ s.tw.member then s
  else
    let st := s.die.psets.foldl (fun a e => max a e.2.step) 0
    if s.tw.convStep < st ∧ passAcked s st then { s with tw := { s.tw with convStep := st } } else s

/-- A bale of the pass has been written: DONE_BALES, the update tally, and the end of the pass (R230, R234). -/
def updBaleDone (dx u : Nat) (s : State) : State :=
  let c := psetCfg s dx u
  let s1 := modPset dx u (fun x =>
    let n := x.doneBales + 1
    let last := decide (c.totalBales ≤ n)
    { x with
      doneBales := n
      state := if last then .done
        else if x.grads.any (fun g => g.1 == c.baleBase + n) then .applying else .waiting
      updStep := if last then x.step else x.updStep }) s
  let s2 := match c.updTally with
    | some ref => sendSignal (srcOf dx (updEngine u)) ref (genSeen s dx ref) 1 s1
    | none => s1
  convMirror (32 * dx + u) (convAdvance s2)

/-- The pass begins: the powers of beta1 and beta2 advance (R231). -/
def passBegin (dx u : Nat) (s : State) : State :=
  let adv (w b : Word) : Word := BitVec.ofNat 32 (fpWrite (fpMul (fpRead w.toNat) (fpRead b.toNat)))
  modPset dx u (fun x => if x.begun then x else
    { x with begun := true, b1t := adv x.b1t x.hyper.beta1, b2t := adv x.b2t x.hyper.beta2 }) s

/-- A burst of the bale's state is refused (R237, R291): fault SEG; where a part of the bale has been written its range is mixed,
and TORN_BALE names it. -/
def updTorn (dx u bale : Nat) (first : Bool) (k : Nat × Nat × Nat × Nat) (s : State) : State :=
  updStop dx u 2 (modPset dx u (fun x => if first && k.2.2.1 == k.2.2.2 then x else { x with torn := some bale })
    (segViol dx k.1 k.2.1 (updEngine u) true k.2.2.1 s))

/-- The optimiser runs on a bale (R230 to R232, R237, R387): its new state is written, or the pass stops at the burst that is
refused. -/
def updBale (dx u bale : Nat) (s : State) : State :=
  let s1 := passBegin dx u s
  let x := psetOf s1 dx u
  let c := psetCfg s1 dx u
  let a := baleArea s1 dx u (bale - c.baleBase)
  let (pb, mb, vb, skipped) := updBytes s1 dx u a (passOf c.opt x.hyper x.b1t x.b2t)
  let (mem, bad) := updWrites s1 dx u ([(c.segP, a.p, pb), (c.segM, a.m, mb)] ++ if c.opt = 1 then [(c.segV, a.v, vb)] else [])
  let s2 := modDie (fun d => { d with stack := mem }) s1
  match bad with
  | some k => updTorn dx u bale (k.1 == c.segP && k.2.2.2 == a.p) k
      (sendDeltas (32 * dx + u) bale (written k [(a.p, pb.length), (a.m, mb.length), (a.v, vb.length)]) s1.die.stack s2)
  | none =>
    let s3 := whenDo (decide (skipped ≠ 0)) (bumpBy (A.UPD_SKIP dx) skipped) s2
    updBaleDone dx u (sendDeltas (32 * dx + u) bale [(a.p, pb.length), (a.m, mb.length), (a.v, vb.length)] s1.die.stack s3)

where
  /-- the ranges written before a burst that fails (R387) -/
  written (k : Nat × Nat × Nat × Nat) (l : List (Nat × Nat)) : List (Nat × Nat) :=
    l.takeWhile (fun r => r.1 != k.2.2.2) ++ [(k.2.2.2, k.2.2.1 - k.2.2.2)]

/-- A bale of an INVALID gradient is not applied: UPD_SKIP_BALE, PARTIAL (R232). -/
def updSkip (dx u : Nat) (s : State) : State :=
  raiseFlag (A.PSET_STAT dx u) 5 u 13 (bump (A.UPD_SKIP_BALE dx) (passBegin dx u s))

/-- Is it the turn of a bale: the set is enabled and in a pass without a fault, its engine is bound, the bale is the next in
ascending index, its gradient is written, and the die's clock runs (R230, R273, R426)? -/
def updDue (s : State) (dx u bale : Nat) : Bool :=
  let x := psetOf s dx u
  reduceDie s dx && coreOn s dx && flag s (A.PSET_CFG dx u) 31 && engPart s dx (updEngine u) != 0xFF && x.fault == 0 && (x.state == .waiting || x.state == .applying) &&
    bale == (psetCfg s dx u).baleBase + x.doneBales && x.grads.any (fun g => g.1 == bale)

/-- An UPD engine takes a bale (R230 to R232, R237); `ecc` says what errors the stacks meet in giving it the bale's state and
gradient (R288). -/
def updBaleApply (dx u bale : Nat) (ecc : StackEcc) (s : State) : State :=
  if ¬ updDue s dx u bale then s
  else
    let x := psetOf s dx u
    let s0 := modPset dx u (fun x => { x with state := .applying }) s
    if x.grads.any (fun g => g.1 == bale && g.2.1) then updBaleDone dx u (updSkip dx u s0)
    else
      match updReadFail s dx u (baleArea s dx u (bale - (psetCfg s dx u).baleBase)) with
      | some (i, cause, a) => updStop dx u 2 (segViol dx i cause (updEngine u) false a s0)
      | none =>
        let s1 := forAll ecc.ce (fun st s => stkCe dx (st % 2) 1 s) s0
        match ecc.ue with
        | some st => updStop dx u 1 (stkUe dx (st % 2) s1)
        | none => updBale dx u bale s1

/-- UPD_BALE_APPLY of set `u` of the package (R230). -/
def execUpdBaleApply (u bale : Nat) (ecc : StackEcc) (s : State) : Answer := done (updBaleApply (u / 32 % 2) (u % 32) bale ecc s)

/-- RESUME continues a stopped pass from DONE_BALES (R237); its engine is IDLE again (R294). -/
def updResume (dx u : Nat) (s : State) : State :=
  modEng dx (updEngine u) (fun y => if y.state = .fault then { y with state := .idle } else y)
    (modPset dx u (fun x => { x with fault := 0, torn := none }) s)

/-- UPD_RESUME of set `u` of the package (R237). -/
def execUpdResume (u : Nat) (s : State) : Answer :=
  done (onReduce (5 + u / 32 % 2) (A.UPD_CMD (u / 32 % 2) (u % 32)) (fun dx s => updResume dx (u % 32) s) s)

end Sys2Proof.Machine
end

