-- ==== Sys2Proof/Machine/Pair.lean ====
section
/-! DEFINITION. The pair (16): modes and their transitions, notices and alternates, the convoy's positions, admission and its
end. The commands stand in Twin.lean. -/

namespace Sys2Proof.Machine

/-- Change the pair's state. -/
def modTw (f : TwinSt → TwinSt) (s : State) : State := { s with tw := f s.tw }

/-- A bit of TWIN_HIST, with its RECORD event (R394 to R397). -/
def twinHist (i : Nat) (s : State) : State := raiseFlag A.TWIN_HIST i 0 13 s

/-- A RECORD event of a block (R397). -/
def recordEvent (block addr sub : Nat) (s : State) : State :=
  event { die := 0, block := block, inst := 0, cls := 13, sub := sub, data0 := BitVec.ofNat 32 addr, data1 := rd s addr } s

/-- Is a heartbeat of the partner, or of a newcomer, present: none has been missing for HB_TIMEOUT (R374, R376)? -/
def hbPresent (s : State) : Bool :=
  match s.tw.lastHb with
  | some t => decide (pe s .keel - t < usCyc (rn s A.HB_TIMEOUT))
  | none => false

/-- The node of the partner that the hall almanac names. -/
def partnerNode (s : State) : Option Nat := s.cfg.hall.partner.map (fun p => p.1)

/-- Purposes of CTRL frames that the spec names without a code (log entry 6). -/
abbrev ctrlSolo : Nat := 0x10001
abbrev ctrlRetire : Nat := 0x10002
abbrev ctrlLoss : Nat := 0x10003
abbrev ctrlAck : Nat := 0x10004

/-- The alternates for the loss of a package (R214, R382). -/
def altsFor (s : State) (lost : Nat) : List Alternate := s.cfg.alternates.filter (fun a => a.lost == lost)

/-- The packages that a loss's alternates name (R382). -/
def altNamed (s : State) (lost : Nat) : List Nat := ((altsFor s lost).flatMap (fun a => a.named)).eraseDups

/-- SOLO_NOTICE for the loss of a package: for each affected group the lowest step whose LAUNCH has not been taken (R382). The survivor
waits with its own alternates too. -/
def soloNoticeFor (lost : Nat) (s : State) : State :=
  let ks := ((altsFor s lost).map (fun a => a.group)).eraseDups
  let alts := ks.map (fun k => (k, (grp s .keel k).step + 1))
  match alts with
  | [] => s
  | a :: r =>
    let words := lost :: alts.flatMap (fun a => [a.1, a.2])
    let s1 := emitAll (((altNamed s lost).filter (fun n => n != nodeId s .keel)).map (fun n => .ctrl n ctrlSolo words)) s
    modTw (fun t => { t with
      sAlt := r.foldl (fun m x => min m x.2) a.2
      alts := (t.alts.filter (fun x => x.2.2 != lost)) ++ alts.map (fun x => (x.1, x.2, lost)) }) s1

/-- SOLO_NOTICE for the loss of the partner. -/
def soloNotice (s : State) : State := (partnerNode s).elim s (fun lost => soloNoticeFor lost s)

/-- The other members of the partner's convoy (R384). -/
def partnerMembers (s : State) : List Nat :=
  ((s.cfg.hall.partnerConvoy.zip (List.range 8)).filter (fun x => x.2 != s.cfg.hall.partnerPos)).map (fun x => x.1.1)

/-- CONVOY_LOSS for the partner's position to the other members of its convoy (R388). -/
def convoyLossSend (s : State) : State :=
  emitAll ((partnerMembers s).map (fun n => .ctrl n ctrlLoss [s.cfg.hall.partnerPos, s.cfg.hall.partnerBytes])) s

/-- The partner's service is lost: notices for its trees and its convoy (R374, R382, R388). -/
def lossNotices (s : State) : State := convoyLossSend (soloNotice s)

/-- ROLE_EPOCH and the rehearsal schedule go to the twin (R377): when the next drill falls due, the code last run, and one more than the
plane whose package the last SOLO_DRILL stopped. -/
def roleMirror (s : State) : State :=
  mirrorSplit 7 [s.tw.roleEpoch.toNat, s.tw.rehNext.sec.toNat, s.tw.rehNext.ns.toNat, s.tw.rehNext.frac.toNat, s.tw.lastCode,
    (s.tw.soloLast.map (fun q => q + 1)).getD 0] s

/-- What of the control state the survivor alone holds, as the working twin of a SHADOW pair gives it to the newcomer, and in a compatibility admission with the stream
(R373, R377, R392): the groups' records, the intercalations, the serials and the commits that wait, the convoy record of the position,
SCORE and the records, the role. -/
def mirrorHeld (s : State) : State :=
  let i := s.keel.icl
  let groups := s.cfg.groups.map (fun e => ((0 : Nat), groupWords s e.1))
  let serials := (s.alm.parts.filter (fun e => e.2.active)).map (fun e => (3, [e.1, e.2.serial])) ++
    (if s.cfg.hallActive then [(3, [0x7F, s.cfg.hallSerial])] else [])
  let waits := (s.alm.commits.filter (fun c => c.phase == .waiting)).map (fun c => (4, [c.part, c.at_, c.group]))
  let convoy := s.tw.mirror.filterMap (fun m => match m with
    | .convoy st u a r => some (13, [st, u, a, r])
    | _ => none)
  let ical := (2, [(icalLast i).toNat, (icalSumLast i).toNat, enc 64 i.remain] ++
    (i.lastApply.toList.flatMap (fun t => [t.sec.toNat, t.ns.toNat, t.frac.toNat])))
  roleMirror (scoreOut (forAll (groups ++ [ical] ++ serials ++ waits ++ convoy) (fun x s => mirrorOut x.1 x.2 s) s))

/-- The survivor enters SOLO (R374). -/
def enterSolo (s : State) : State :=
  lossNotices (twinHist 0 (modTw (fun t => { t with mode := .solo, newcomer := false }) s))

/-- An admission ends with a fault (R390): ADMIT_FAIL, the ticket, and the pair is SOLO again (R374). -/
def admitEnd (fault : Nat) (s : State) : State :=
  let t := s.tw.admitTicket
  let s1 := modTw (fun t => { t with
    mode := .solo, newcomer := false, adm := .none, admitTicket := none, peerChip := none, partnerHeld := false }) s
  twinHist 0 (twinHist 8 (endTicket? t fault s1))

/-- An admission that runs under a ticket or a shadow that runs without one fails (R374). -/
def shadowFail (fault : Nat) (s : State) : State :=
  if s.tw.mode = .shadow ∧ ¬ s.tw.newcomer then admitEnd fault s else s

/-- The newcomer of a SHADOW pair loses the working twin (R374): it stops and serves nothing; both positions are lost, and the
alternates of both apply. -/
def newcomerStops (s : State) : State :=
  modTw (fun t => { t with adm := .none, stopped := true }) (soloNoticeFor (nodeId s .keel) (lossNotices (abortAll 3 s)))

/-- PARTNER_LOST (R376, R374). -/
def partnerLost (s : State) : State :=
  let s1 := twinHist 4 (modTw (fun t => { t with link := .partnerLost, probing := none }) s)
  match s1.tw.mode with
  | .split => enterSolo s1
  | .solo => s1
  | .shadow => if s1.tw.newcomer then newcomerStops s1 else admitEnd 1 s1

/-! The convoy (R384 to R389). -/

/-- CONV_STAT STATE after a change of the positions (R389, R395). -/
def convRecompute (s : State) : State :=
  if (List.range 4).any (fun m => decide (3 ≤ rowErasures s m)) then
    if s.tw.convState = .lost then s else twinHist 11 (modTw (fun t => { t with convState := .lost }) s)
  else
    modTw (fun t => { t with convState :=
      if t.positions.contains .erased then .rebuilding
      else if t.positions.contains .rebuilt then .exposed
      else .healthy }) s

/-- The sets of erased positions that this package holds, its own and those it rebuilds, are FAULTED with fault MEM (R389). -/
def faultSets (s : State) : State :=
  let gone (p : Nat) : Bool := s.tw.positions.getD p .absent == .erased
  let pos := s.cfg.hall.pos
  forAll (s.cfg.psets.filter (fun e => reduceDie s (e.1 / 32) &&
      (gone pos || s.cfg.hall.rebuild.any (fun a => a.host == pos && a.sets.contains e.1 && gone a.lost))))
    (fun e s => updFault (e.1 / 32) (e.1 % 32) 1 s) s

/-- CONV_STAT STATE (R395). -/
def convCode : ConvState → Nat
  | .healthy => 0
  | .rebuilding => 1
  | .exposed => 2
  | .lost => 3

/-- What the newcomer reports of its comparison and of its convoy (R390, R391). -/
def admitReport (missed : Nat) (s : State) : State :=
  mirrorOut 9 [s.tw.admitMatch, s.tw.compared, missed, convCode s.tw.convState] s

/-- The sets that a rebuild host takes over at a loss stand in the step that was launched last, whose bales the lost package may still
owe (R388; log entry 62). -/
def lossLatch (lost : Nat) (s : State) : State :=
  let here := s.cfg.hall.rebuild.filter (fun a => a.host == s.cfg.hall.pos && a.lost == lost)
  forAll (s.cfg.psets.filter (fun e => here.any (fun a => a.sets.contains e.1) && reduceDie s (e.1 / 32))) (fun e s =>
    let st := (grp s .keel e.2.group).step
    if (psetOf s (e.1 / 32) (e.1 % 32)).step < st then setLatch e.1 st s else s) s

/-- A position becomes ERASED (R388, R389): acknowledgements from it are no longer waited for, and a REBUILT one whose copies it held
is rebuilt again. Of a convoy that becomes LOST the erased sets are FAULTED; the newcomer reports the state of its convoy. -/
def convoyLoss (pos total : Nat) (s : State) : State :=
  if ¬ s.tw.member ∨ 8 ≤ pos ∨ s.tw.positions.getD pos .absent = .absent then s
  else
    let was := s.tw.convState
    let again := s.cfg.hall.rebuild.filter (fun a => a.host == pos && s.tw.positions.getD a.lost .absent == .rebuilt)
    let s1 := modTw (fun t => { t with
      positions := again.foldl (fun l a => l.set a.lost .erased) (t.positions.set pos .erased)
      rebuildTotal := (if t.positions.contains .erased then t.rebuildTotal else 0) + total + again.foldl (fun n a => n + a.bytes) 0
      rebuilt := if t.positions.contains .erased then t.rebuilt else 0
      deltaPend := (t.deltaPend.map (fun d => (d.1, d.2.1, d.2.2.filter (fun h => h != pos)))).filter (fun d => !d.2.2.isEmpty) }) s
    let s2 := convRecompute (twinHist 9 s1)
    let s2 := lossLatch pos s2
    let s3 := whenDo (s2.tw.convState == .lost && was != .lost) faultSets s2
    let s4 := whenDo (s3.tw.mode == .shadow && s3.tw.newcomer) (admitReport 0) s3
    convMirror 0 (convAdvance s4)

/-! Newcomer and working twin (R374, R391). -/

/-- The convoy that the package's almanac names: the hall almanac in force, else one that is staged with its COMMIT held (R390). -/
def ownHall (s : State) : HallCfg :=
  if s.cfg.hallActive then s.cfg.hall
  else
    match s.alm.stage with
    | some x => (x.items.findSome? (fun i => match i with | .hall h => some h | _ => none)).getD {}
    | none => {}

/-- The newcomer's position in its convoy is ERASED until its promotion (R373); the package of a SOLO_DRILL keeps its state (R393). -/
def newcomerPlace (s : State) : State :=
  let h := ownHall s
  if h.convoy.isEmpty ∨ s.tw.drill.any (fun d => d.code == 2) then s
  else convRecompute (modTw (fun t => { t with
    member := true
    positions := ((List.range 8).map (fun i => if t.member then t.positions.getD i .absent else if i < h.convoy.length then .current else .absent)).set
      h.pos .erased }) s)

/-- A package becomes the newcomer of a SHADOW pair (R374, R391). -/
def becomeNewcomer (compat : Bool) (s : State) : State :=
  newcomerPlace (twinHist 1 (modTw (fun t => { t with
    mode := .shadow, newcomer := true, primary := false, adm := if compat then .bist else .almanac, compat := compat
    admitMatch := 0, compared := 0, restored := 0, restoreDone := false, partnerConv := .healthy, peerChip := t.hbChip }) s))

/-- A package becomes the working twin of a SHADOW pair (R374): the newcomer is the package whose heartbeat it hears (R375), and gets the
control state held (R373). -/
def becomeWorking (compat : Bool) (ticket : Option Nat) (s : State) : State :=
  mirrorHeld (twinHist 1 (modTw (fun t => { t with
    mode := .shadow, newcomer := false, adm := if compat then .bist else .almanac, compat := compat, admitTicket := ticket
    admitMatch := 0, compared := 0, restored := 0, restoreDone := false, partnerConv := .healthy, peerChip := t.hbChip }) s))

/-- DEMOTE_PARTNER at a SPLIT package: the partner is the newcomer, its alternates apply as for a loss (R374). -/
def demotePartner (s : State) : State :=
  if s.tw.mode = .split then lossNotices (becomeWorking false none s) else s

/-! Admission (R390 to R392). -/

/-- A compatibility admission is promoted once its stream has ended (R392); COMPARE is over once enough steps in a row match and RESTORE and any rebuild are complete (R389, R391); the comparison ends
NO_MATCH after 4 × ADMIT_STEPS steps (R390). -/
def admitCheck (s : State) : State :=
  let n := rn s A.ADMIT_STEPS
  let rebuilds := (if s.tw.newcomer then s.tw.convState else s.tw.partnerConv) == .rebuilding
  if s.tw.adm = .restore ∧ s.tw.compat ∧ s.tw.restoreDone ∧ ¬ rebuilds then modTw (fun t => { t with adm := .promoting }) s
  else if s.tw.adm ≠ .compare then s
  else if n ≤ s.tw.admitMatch then
    if s.tw.restoreDone ∧ ¬ rebuilds then modTw (fun t => { t with adm := .promoting }) s else s
  else if 4 * n ≤ s.tw.compared ∧ ¬ s.tw.newcomer then admitEnd 2 s
  else s

/-- Progress of the admission's ticket: ADMIT_MATCH; partial results from the first match (R390). -/
def admitProgress (s : State) : State :=
  match s.tw.admitTicket with
  | some t => whenDo (decide (s.tw.admitMatch ≠ 0)) (ticketPartial t) (ticketProgress t s.tw.admitMatch s)
  | none => s

/-- The working twin's digest of a waystation and step, as mirrored. -/
def mirroredDigest (s : State) (dx w step : Nat) : Option (BitVec 64 × Nat) :=
  s.tw.mirror.findSome? (fun m => match m with
    | .digest dx' w' st d c => if dx' = dx ∧ w' = w ∧ st = step then some (d, c) else none
    | _ => none)

/-- After a step the newcomer compares WS_DIGEST and DIG_COUNT of the mirrored waystations (R391); a step marked by a dip counts
neither way (R415). A mismatch carries the bin at the hand-off of the step's last bale (R411; log entry 17). -/
def admitCompare (step : Nat) (s : State) : State :=
  if s.tw.mode ≠ .shadow ∨ ¬ s.tw.newcomer ∨ s.tw.adm ≠ .compare then s
  else
    let pairs := s.die.ws.filterMap (fun e =>
      if e.2.digStep = step then
        (mirroredDigest s (e.1 / 512) (e.1 % 512) step).map (fun d => (e.1, e.2.digest == d.1 && e.2.digCount == d.2))
      else none)
    let dip := s.hl.dipBales.any (fun b => b.step == step) ||
      s.die.ws.any (fun e => e.2.digStep == step && e.2.digDip)
    if pairs.isEmpty ∨ dip then s
    else
      match pairs.find? (fun p => !p.2) with
      | some (k, _) =>
        let dx := k / 512
        let s1 := modTw (fun t => { t with admitMatch := 0, compared := t.compared + 1 }) (bump A.ADMIT_MISS s)
        let a := A.WS_DIGEST dx (k % 512)
        admitReport 1
          (digMismatch (wsOf s dx (k % 512)).digBin (BitVec.ofNat 32 a) (BitVec.ofNat 32 (wsOf s dx (k % 512)).digest.toNat) s1)
      | none =>
        let s1 := modTw (fun t => { t with admitMatch := t.admitMatch + 1, compared := t.compared + 1 }) s
        admitCheck (admitReport 0 s1)

/-- May the promoting LAUNCH promote: a health shadow needs a SCORE below WATCH_LEVEL (R408)? -/
def promoteOk (s : State) : Bool :=
  if s.tw.newcomer then !s.hl.held || decide (s.hl.score < watchLevel s)
  else !s.tw.partnerHeld || decide (s.hl.partnerScore < watchLevel s)

/-- The alternates for the partner retire (R391): here, at every package that they name, and, for the position that becomes CURRENT,
at the members of its convoy. Of a group other than the LAUNCH's own they retire at its next LAUNCH (DESIGN CHOICE, log entry 61). -/
def retireNotice (k step : Nat) (s : State) : State :=
  match partnerNode s with
  | none => s
  | some p =>
    let ks := ((altsFor s p).map (fun a => a.group)).eraseDups
    let steps := ks.map (fun g => (g, if g = k then step else (grp s .keel g).step + 1))
    let to_ := (altNamed s p ++ partnerMembers s).eraseDups
    let words := p :: steps.flatMap (fun x => [x.1, x.2])
    modTw (fun t => { t with retires := t.retires ++ steps.map (fun x => (p, x.1, x.2)) })
      (emitAll ((to_.filter (fun n => n != nodeId s .keel)).map (fun n => .ctrl n ctrlRetire words)) s)

/-- Promotion (R391): SPLIT, alternates retired here and at every package they name, the position CURRENT, the ticket ends. -/
def promote (k step : Nat) (s : State) : State :=
  let t := s.tw.admitTicket
  let s1 := twinHist 2 (modTw (fun t => { t with
    mode := .split, adm := .none, admitTicket := none, partnerHeld := false, stopped := false
    alts := match partnerNode s with | some p => t.alts.filter (fun a => a.2.2 != p) | none => t.alts
    positions := if t.newcomer ∧ t.member then t.positions.set s.cfg.hall.pos .current else t.positions
    newcomer := false }) s)
  let s2 := levelCheck true { s1 with hl := { s1.hl with
    held := if s.tw.newcomer then false else s1.hl.held, deferred := false, partnerExpelled := false } }
  let s3 := if s.tw.newcomer then s2 else retireNotice k step s2
  convRecompute (endTicket? t 0 s3)

end Sys2Proof.Machine
end

