-- ==== Sys2Proof/Machine/Alm.lean ====
section
/-! DEFINITION. The almanac loader (14): the layout of an almanac, the checks of a load, the queue of requests, the key slots. -/

namespace Sys2Proof.Machine

/-- Change the loader. -/
def modAlm (f : AlmSt → AlmSt) (s : State) : State := { s with alm := f s.alm }

/-! The layout (R336 to R338). -/

/-- The header of an almanac (R336). -/
def hdrOf (b : List Byte) : AlmHdr where
  magic := getBE b 0 4
  format := getBE b 4 2
  kind := getBE b 6 1
  sections := getBE b 7 1
  target := BitVec.ofNat 64 (getBE b 8 8)
  dieMask := BitVec.ofNat 8 (getBE b 16 1)
  part := getBE b 17 1
  totalLen := getBE b 20 4
  serial := getBE b 24 8
  baseSerial := getBE b 32 8
  detKey := BitVec.ofNat 128 (getBE b 40 16)
  shape := BitVec.ofNat 256 (getBE b 56 32)
  types := (List.range (getBE b 7 1)).map (fun i => getBE b (128 + 16 * i) 1)

/-- The directory: TYPE, OFFSET, LENGTH (R336). -/
def dirOf (b : List Byte) : List (Nat × Nat × Nat) :=
  (List.range (hdrOf b).sections).map (fun i =>
    (getBE b (128 + 16 * i) 1, getBE b (132 + 16 * i) 4, getBE b (136 + 16 * i) 4))

/-- Ascending TYPEs, each at most once (R337). -/
def dirAscending : List (Nat × Nat × Nat) → Bool
  | [] => true
  | [_] => true
  | x :: y :: r => decide (x.1 < y.1) && dirAscending (y :: r)

/-- No two sections overlap (R337). -/
def dirDisjoint : List (Nat × Nat × Nat) → Bool
  | [] => true
  | x :: r => r.all (fun y => decide (x.2.1 + x.2.2 ≤ y.2.1) || decide (y.2.1 + y.2.2 ≤ x.2.1)) && dirDisjoint r

/-- The directory's rules (R337), and TOTAL_LEN within the part's limit. -/
def dirOk (s : State) (b : List Byte) : Bool :=
  let h := hdrOf b
  let d := dirOf b
  decide (2 ≤ h.sections) && decide (h.sections ≤ 16) &&
    decide (h.totalLen ≤ (if s.straps.variant = 2 then 8 else 256) * 2 ^ 20) &&
    d.all (fun x => ([1, 2, 3, 4, 5, 6, 7, 15].contains x.1) && x.2.1 % 64 == 0 &&
      decide (128 + 16 * h.sections ≤ x.2.1) && decide (x.2.1 + x.2.2 ≤ h.totalLen - 8)) &&
    dirAscending d && dirDisjoint d

/-- The sections a KIND requires and those it leaves out (R336). -/
def sectionsOk (kind : Nat) (types : List Nat) : Bool :=
  match kind with
  | 0 => types.contains 1 && types.contains 2 && types.contains 15
  | 1 => types.contains 1 && !types.contains 2 && types.contains 15
  | _ => !types.contains 1 && !types.contains 2 && types.contains 15

/-- The section that carries an item (R336). -/
def itemSection : AlmItem → Nat
  | .own .. => 1
  | .group .. => 1
  | .hall _ => 2
  | .port .. => 2
  | .bind .. => 2
  | .refTable .. => 2
  | .byp .. => 2
  | .ws .. => 3
  | .circuits .. => 3
  | .alternate _ => 3
  | .residual => 3
  | .seq .. => 4
  | .pset .. => 5
  | .jobSeed _ => 5
  | .tally .. => 5
  | .reg .. => 5
  | .tcam .. => 6
  | .spray .. => 6
  | .routeSeed _ => 6
  | .spill .. => 6

/-- The signature is accepted (R338): the slot programmed, not revoked, the carried key its own, the signature right. -/
def sigOk (s : State) (b : List Byte) : Bool :=
  match (dirOf b).find? (fun x => x.1 == 15) with
  | none => false
  | some (_, off, len) =>
    let slot := getBE b off 1
    let key := slice b (off + 4) 97
    let msg := b.take (128 + 16 * (hdrOf b).sections) ++
      ((dirOf b).filter (fun x => x.1 != 15)).flatMap (fun x => slice b x.2.1 x.2.2)
    decide (197 ≤ len) && decide (slot < 4) && (s.alm.keys.getD slot none == some (Config.sha384 key)) &&
      !s.alm.revoked.getD slot true && Config.sigVerifies key (slice b (off + 101) 96) msg

/-! Partitions (R347). -/

/-- The tree that a waystation record serves: as the items of an almanac bind it, else as it is bound (R213). -/
def recordTree (s : State) (items : List AlmItem) (r : Nat) : Nat :=
  (items.findSome? (fun i => match i with
    | .ws r' c => if r' = r then some c.tree.toNat else none
    | _ => none)).getD (tget {} s.cfg.ws r).tree.toNat

/-- The resource to which a register with RWC fields belongs under the bindings of some items; none for the hall's. -/
def addrRes (s : State) (items : List AlmItem) (a : Nat) : Option Res :=
  if 0x201000 ≤ a ∧ a < 0x203000 then some (.group ((a - 0x201000) / 0x80))
  else if 0x211000 ≤ a ∧ a < 0x211400 then some (.seq ((a - 0x211000) / 0x80))
  else if a < 0x2400000 ∨ 0x2C00000 ≤ a then none
  else
    let dx := (a - 0x2400000) / 0x400000
    let o := (a - 0x2400000) % 0x400000
    if 0x100 ≤ o ∧ o < 0x8100 then some (.tree (recordTree s items (512 * dx + (o - 0x100) / 0x40)))
    else if 0x20100 ≤ o ∧ o < 0x28100 then some (.tree (recordTree s items (512 * dx + (o - 0x20100) / 0x40)))
    else if 0x41000 ≤ o ∧ o < 0x42000 then some (.engine (5 + dx) (updEngine ((o - 0x41000) / 0x80)))
    else if 0xA1000 ≤ o ∧ o < 0xA3000 then some (.seg (5 + dx) ((o - 0xA1000) / 0x20))
    else if 0xD0100 ≤ o ∧ o < 0xD0500 then some (.gate (5 + dx) ((o - 0xD0100) / 0x40))
    else none

/-- The resource that a tally reference, or a segment number where it is one, names. -/
def refRes (r : Nat) : List Res := if refIdx r < 48 then [.engine (5 + refDie r) (refEng r)] else []
def segRes (die i : Nat) : List Res := if i < 0xFF then [.seg die i] else []

/-- The tree of a parameter set: as the items of an almanac bind it, else as it is bound (R229). -/
def psetTree (s : State) (items : List AlmItem) (u : Nat) : Nat :=
  (items.findSome? (fun i => match i with
    | .pset u' c => if u' = u then some c.tree.toNat else none
    | _ => none)).getD (tget {} s.cfg.psets u).tree.toNat

/-- The banks of a die that a run of bytes lies in (R275). -/
def runBanks (dx a n : Nat) : List Res :=
  (List.range ((a + n - 1) / 2 ^ 19 + 1 - a / 2 ^ 19)).map (fun i => .bank (5 + dx) (a / 2 ^ 19 + i))

/-- The resources that an engine set-up of a die names (R200, R276, R281, R289, R298, R306, R311). -/
def setupRes (s : State) (items : List AlmItem) (dx : Nat) (st : Setup) : List Res :=
  (match st.act with
   | .reduce w _ => [.tree (recordTree s items (512 * dx + w))]
   | .chain _ i => segRes (5 + dx) i
   | .gate g => [.gate (5 + dx) g]
   | .ret u _ => [.tree (psetTree s items (32 * dx + u))]
   | .idle => []) ++
  st.access.flatMap (fun x => runBanks dx x.1 x.2) ++
  st.stackIn.flatMap (fun x => runBanks dx x.2 (match st.act with | .ret .. => 30720 | _ => 7920)) ++
  st.handover.flatMap (fun h => .bank (5 + dx) h.1 :: (if h.2 < 0x6C then [.engine (5 + dx) h.2] else [])) ++
  st.signal.toList.flatMap (fun y => refRes y.1)

/-- The resources of a waystation binding: its tree and group, its engine and bank, its segments, its uplink, the ports of its
destinations. -/
def wsRes (r : Nat) (c : WsCfg) : List Res :=
  [.tree c.tree.toNat, .group c.group, .engine (5 + r / 512) c.engine, .bank (5 + r / 512) c.bank] ++
    (if c.ef then segRes (5 + r / 512) c.efSeg else []) ++ c.segDest.toList.flatMap (fun d => segRes (5 + r / 512) d.1) ++
    (c.uplink.toList ++ c.dest ++ c.owners.map (fun o => o.2)).eraseDups.map (fun p => .dest p)

/-- The port to which a TCAM entry forwards SCHED or BULK frames (R347, R361); a spray group's members are named where it is given. -/
def tcamRes (e : BitVec 128) : List Res :=
  if e.getLsbD 89 ∧ bitsN e.toNat 75 5 ≠ 0 ∧ bitsN e.toNat 61 3 = 1 then [.dest (bitsN e.toNat 48 10)] else []

/-- The resources an item names. -/
def itemRes (s : State) (items : List AlmItem) : AlmItem → List Res
  | .group k _ => [.group k]
  | .seq q t => .seq q :: .group t.table.group :: ((slotEntries t.table).map (fun e => .engine (5 + q / 4) e.engine)).eraseDups ++
      t.setups.flatMap (setupRes s items (q / 4))
  | .ws r c => wsRes r c
  | .pset u c => [.tree c.tree.toNat, .group c.group, .seq c.returnSeq, .engine (5 + u / 32) (updEngine (u % 32))] ++
      [c.segP, c.segM, c.segG].flatMap (segRes (5 + u / 32)) ++ (if c.opt = 1 then segRes (5 + u / 32) c.segV else []) ++
      c.gradTally.toList.flatMap refRes ++ c.updTally.toList.flatMap refRes
  | .tally _ t => [.engine (5 + t / 5184) (t % 5184 / 48)]
  | .own _ r => [r]
  | .circuits m => [.group m.group, .tree m.tree]
  | .alternate a => .group a.group :: a.ws.flatMap (fun e => wsRes e.1 e.2)
  | .spray _ ms => ms.map (fun p => .dest p)
  | .tcam _ _ es => es.flatMap (fun e => tcamRes e.2)
  | .reg a _ => (addrRes s items a).toList
  | _ => []

/-- The partition a resource has once the items' partition table stands (R347). -/
def resPart (s : State) (items : List AlmItem) (r : Res) : Nat :=
  match items.find? (fun i => match i with | .own _ r' => resNorm r' == resNorm r | _ => false) with
  | some (.own p _) => p
  | _ => ownerPart s r

/-- Check 9 (R340): every resource named lies in the almanac's partition; a KIND 1 partition table overlaps no other active
one. -/
def fenceOk (s : State) (h : AlmHdr) (items : List AlmItem) : Bool :=
  if h.kind = 0 then true
  else
    decide (h.part < 64) &&
      items.all (fun i => (itemRes s items i).all (fun r => resPart s items r == h.part)) &&
      items.all (fun i => match i with
        | .own p r =>
          let q := ownerPart s r
          p == h.part && (q == h.part || q == 0xFF || !(tget {} s.alm.parts q).active)
        | .tally p _ => p == h.part
        | _ => true)

/-! The configuration that an almanac leaves (R335, R344). -/

/-- The circuit map `m` in the place of one of the same group, tree and variant. -/
def mapPut (m : CircuitMap) (l : List CircuitMap) : List CircuitMap :=
  l.filter (fun x => !(x.group == m.group && x.tree == m.tree && x.variant == m.variant)) ++ [m]

/-- One item of an almanac of a partition in the configuration. -/
def cfgItem (part : Nat) (i : AlmItem) (c : HwCfg) : HwCfg :=
  match i with
  | .hall h => { c with hall := h }
  | .port p x => { c with ports := tput p x c.ports }
  | .group k x => { c with groups := tset {} c.groups k x }
  | .seq q x => { c with seqs := tset {} c.seqs q x }
  | .ws r x => { c with wsVars := tset {} c.wsVars (4 * r + x.variant.toNat) x }
  | .pset u x => { c with psets := tset {} c.psets u x }
  | .jobSeed v => { c with seeds := tset 0 c.seeds part v }
  | .tally p t => { c with tallies := tput t p c.tallies }
  | .spray g m => { c with sprays := tset [] c.sprays g m }
  | .routeSeed v => { c with routeSeed := v }
  | .byp g l => { c with byps := tset [] c.byps g l }
  | .circuits m => { c with circuits := mapPut m c.circuits }
  | .spill a b => { c with spills := (c.spills.filter (fun x => x != (a, b))) ++ [(a, b)] }
  | .alternate a => { c with alternates := (c.alternates.filter (fun x => !(x.lost == a.lost && x.group == a.group))) ++ [a] }
  | .bind .. => c
  | .refTable .. => c
  | .own .. => c
  | .tcam .. => c
  | .reg .. => c
  | .residual => c

/-- A resource that is unbound leaves the configuration (R348); a sequencer's tallies are those of its SEQ engine. -/
def cfgDrop (r : Res) (c : HwCfg) : HwCfg :=
  match r with
  | .seq q => { c with
      seqs := tdel q c.seqs
      tallies := c.tallies.filter (fun x => !(x.1 / 5184 == q / 4 && x.1 % 5184 / 48 == 0x68 + q % 4)) }
  | .tree t => { c with
      wsVars := c.wsVars.filter (fun e => e.2.tree.toNat != t), ws := c.ws.filter (fun e => e.2.tree.toNat != t)
      psets := c.psets.filter (fun e => e.2.tree.toNat != t)
      circuits := c.circuits.filter (fun x => x.tree != t) }
  | .group k => { c with groups := tdel k c.groups, circuits := c.circuits.filter (fun x => x.group != k) }
  | .engine d e => { c with tallies := c.tallies.filter (fun x => !(x.1 / 5184 == d - 5 && x.1 % 5184 / 48 == e)) }
  | .bank .. => c
  | .seg .. => c
  | .gate .. => c
  | .dest _ => c

/-- What changes the configuration: an almanac's KIND, none for host writes alone, and the sections that it carries; PART; is it a
teardown; the items. -/
structure Change where
  kind : Option Nat
  types : List Nat
  part : Nat
  teardown : Bool
  items : List AlmItem
  deriving DecidableEq, Repr

/-- The partition table after a change (R347): a KIND 0 almanac replaces it whole, a KIND 1 almanac and a teardown what their
partition holds. -/
def ownersAfter (c : HwCfg) (x : Change) : List (Res × Nat) :=
  let new := x.items.filterMap (fun i => match i with | .own p r => some (r, p) | _ => none)
  let base := if x.kind = some 0 then []
    else if x.teardown ∨ x.kind = some 1 then c.owners.filter (fun y => y.2 != x.part) else c.owners
  base.filter (fun y => !new.any (fun z => resNorm z.1 == resNorm y.1)) ++ new

/-- The resources that a change takes from their partition: nobody's afterwards, or another partition's. -/
def goneRes (c : HwCfg) (owners : List (Res × Nat)) : List Res :=
  ((c.owners.filter (fun y => ownerIn owners y.1 != y.2)).map (fun y => resNorm y.1)).eraseDups

/-- A section that an almanac carries is replaced (R335): what stood in it, of its partition or, of a hall almanac, of the package,
goes. Sprays, the routing seed and spill circuits are no partition's: a KIND 1 or 2 almanac replaces those that it names (DESIGN
CHOICE, log entry 60). -/
def cfgSection (c0 : HwCfg) (x : Change) (t : Nat) (c : HwCfg) : HwCfg :=
  let all := x.kind == some 0
  let kept (r : Res) : Bool := !(all || ownerIn c0.owners r == x.part)
  match t with
  | 1 => { c with groups := c.groups.filter (fun e => kept (.group e.1)) }
  | 2 => { c with ports := [], byps := [] }
  | 3 => { c with
      wsVars := c.wsVars.filter (fun e => kept (.tree e.2.tree.toNat)), ws := c.ws.filter (fun e => kept (.tree e.2.tree.toNat))
      circuits := c.circuits.filter (fun m => kept (.tree m.tree)), alternates := c.alternates.filter (fun a => kept (.group a.group)) }
  | 4 => { c with seqs := c.seqs.filter (fun e => kept (.seq e.1)) }
  | 5 => { c with
      psets := c.psets.filter (fun e => kept (.tree e.2.tree.toNat))
      seeds := c.seeds.filter (fun e => !(all || e.1 == x.part))
      tallies := c.tallies.filter (fun e => !(all || e.2 == x.part)) }
  | 6 => if all then { c with sprays := [], spills := [], routeSeed := 0 } else c
  | _ => c

/-- The configuration after a change. -/
def cfgAfter (c : HwCfg) (x : Change) : HwCfg :=
  let owners := ownersAfter c x
  let c1 := (goneRes c owners).foldl (fun y r => cfgDrop r y) c
  let c2 := (if x.teardown then [5] else x.types).foldl (fun y t => cfgSection c x t y) c1
  { x.items.foldl (fun y i => cfgItem x.part i y) c2 with owners := owners }

/-- COMMIT's PART of an almanac: 0x7F for the hall. -/
def hdrPart (h : AlmHdr) : Nat := if h.kind = 0 then 0x7F else h.part

/-- The change that an almanac asks for. -/
def almChange (h : AlmHdr) (items : List AlmItem) : Change := ⟨some h.kind, h.types, hdrPart h, false, items⟩

/-! The content rules (R340 check 10). -/

/-- Two entries of a slot overlap on one engine (R200). -/
def entriesClash : List SlotEntry → Bool
  | [] => false
  | x :: r => r.any (fun y => x.slot == y.slot && x.engine == y.engine && decide (x.startCyc < y.endCyc) &&
      decide (y.startCyc < x.endCyc)) || entriesClash r

/-- Entries in ascending SLOT order, and within a slot in ascending START_CYC order (R200). -/
def entriesOrdered : List SlotEntry → Bool
  | [] => true
  | [_] => true
  | x :: y :: r => (decide (x.slot < y.slot) || (x.slot == y.slot && decide (x.startCyc ≤ y.startCyc))) &&
      entriesOrdered (y :: r)

/-- A slot table may be loaded (R195, R198, R200): SLOT_COUNT 1 to 65,536, F_SCHED F1 to F7, engines that exist. -/
def tableOk (s : State) (q : Nat) (t : SlotTable) : Bool :=
  decide (1 ≤ t.count) && decide (t.count ≤ 65536) && decide (1 ≤ t.fSched) && decide (t.fSched < 8) &&
  (slotEntries t).all (fun e => decide (e.endCyc ≤ budget t.fSched) && decide (e.startCyc ≤ e.endCyc) &&
    decide (e.slot < t.count) && decide (e.engine < 108)) && entriesOrdered (slotEntries t) && !entriesClash (slotEntries t) &&
    decide (q < 8) && reduceDie s (q / 4)

/-- The lane groups of a circuit map. -/
def mapGroups (m : List (Nat × Nat)) : List Nat := m.flatMap (fun x => [x.1, x.2])

/-- No two groups' maps share a lane group, and no spill circuit shares one with a map (R226, R367). -/
def mapsOk (c : HwCfg) : Bool :=
  c.circuits.all (fun x => c.circuits.all (fun y => x.group == y.group ||
      !(mapGroups x.pairs).any (fun g => (mapGroups y.pairs).contains g))) &&
    (mapGroups c.spills).all (fun g => !c.circuits.any (fun x => (mapGroups x.pairs).contains g))

/-- A by-pass lane group is 8 lanes, each once, of its route die, none of them a keel lane, and every group that a circuit asks for is
one of the port map (R49, R226, R367). -/
def bypsOk (c : HwCfg) : Bool :=
  c.byps.all (fun e => decide (e.1 < 64) && e.2.length == 8 && e.2.eraseDups.length == 8 &&
      e.2.all (fun l => decide (l < 128) && !laneKeel c.ports (128 * (e.1 / 16) + l))) &&
    (mapGroups c.spills ++ c.circuits.flatMap (fun m => mapGroups m.pairs)).all (fun g => (tfind g c.byps).isSome)

/-- The trees of a waystation record, of any variant (R213, R228). -/
def recordTrees (c : HwCfg) (r : Nat) : List Nat := (c.wsVars.filter (fun e => e.1 / 4 == r)).map (fun e => e.2.tree.toNat)

/-- By-pass traffic of the table of a sequencer is not placed at an index below 40 (R226): no entry that serves a tree with a
circuit map. -/
def bypassOk (c : HwCfg) (q : Nat) (t : SeqTable) : Bool :=
  !c.circuits.any (fun m => m.group == t.table.group && (slotEntries t.table).any (fun e => decide (e.slot < 40) &&
    (match t.setups[e.setup]? with
     | some ⟨.reduce w _, _, _, _, _⟩ => (recordTrees c (q / 4 * 512 + w)).contains m.tree
     | _ => false)))

/-- A waystation binding may be loaded: no error feedback on the top level of a MEAN tree or of an UPDATE tree (R263). -/
def wsOk (c : WsCfg) : Bool := !(c.ef && c.top && (c.rkind == 1 || c.op == 6))

/-- A convoy may be named (R384): none, or 8 packages of different pairs, A800 or A400 parts. -/
def convoyOk (l : List (Nat × Bool × Nat × Nat)) : Bool :=
  (l.isEmpty || l.length == 8) && decide (((l.map (fun m => m.2.2.1)).eraseDups).length = l.length) &&
    l.all (fun m => decide (m.2.2.2 < 2))

/-- The segment descriptor to which a register belongs. -/
def segOfAddr (a : Nat) : Option (Nat × Nat) :=
  let o := (a - 0x2400000) % 0x400000
  if 0x2400000 ≤ a ∧ a < 0x2C00000 ∧ 0xA1000 ≤ o ∧ o < 0xA3000 then some ((a - 0x2400000) / 0x400000, (o - 0xA1000) / 0x20) else none

/-- The descriptors that an almanac loads have the form of R290. -/
def segsOk (s : State) (items : List AlmItem) : Bool :=
  let s1 := forAll items (fun i s => match i with
    | .reg a v => wr a ((rd s a &&& ~~~ rwcMask a) ||| (v &&& rwcMask a)) s
    | _ => s) s
  items.all (fun i => match i with
    | .reg a _ => (match segOfAddr a with
      | some (dx, i) => !flag s1 (A.SEG_CFG dx i) 31 || segShape s1 dx i
      | none => true)
    | _ => true)

/-- Check 10 (R340): R14, R15, R49, R55, R200, R226, R263, R290 (form), R384, in the configuration that the almanac leaves. -/
def contentOk (s : State) (h : AlmHdr) (items : List AlmItem) : Bool :=
  let c := cfgAfter s.cfg (almChange h items)
  items.all (fun i => match i with
    | .hall h => h.rootPairs == 1 && decide (h.maxHops ≤ 6) && convoyOk h.convoy && convoyOk h.partnerConvoy && h.convoys.all convoyOk
    | .seq q t => tableOk s q t.table
    | .ws _ c => wsOk c
    | .alternate a => a.ws.all (fun e => wsOk e.2)
    | _ => true) && c.seqs.all (fun e => bypassOk c e.1 e.2) && mapsOk c && bypsOk c && segsOk s items

/-- A hall's almanac names its root pair once (R14). -/
def rootNamed (h : AlmHdr) (items : List AlmItem) : Bool :=
  h.kind != 0 || items.countP (fun i => match i with | .hall _ => true | _ => false) == 1

/-- Check 8 (R340, R18). -/
def variantOk (s : State) (h : AlmHdr) (items : List AlmItem) : Bool :=
  h.dieMask.toNat == dieMask s &&
    items.all (fun i => match s.straps.variant, i with
      | 2, .ws .. => false
      | 2, .pset .. => false
      | 2, .residual => false
      | 2, .hall x => x.convoy.isEmpty
      | 2, .alternate a => a.ws.isEmpty
      | 0, _ => true
      | _, .byp .. => false
      | _, .circuits .. => false
      | _, .spill .. => false
      | _, _ => true)

/-- ACTIVE_SERIAL against which a load is checked: the partition's, or the hall's (R340 check 7). -/
def activeSerial (s : State) (h : AlmHdr) : Nat := if h.kind = 0 then s.cfg.hallSerial else (tget {} s.alm.parts h.part).serial

/-- Checks 6 to 10 (R340): the code of the first failure. -/
def checksLate (s : State) (h : AlmHdr) (items : List AlmItem) : Option Nat :=
  if h.detKey ≠ detKey s ∧ ¬ flag s A.ALM_CTRL 0 then some 5
  else if h.serial ≤ activeSerial s h ∨ (h.kind = 2 ∧ h.baseSerial ≠ activeSerial s h) then some 9
  else if ¬ variantOk s h items then some 8
  else if ¬ fenceOk s h items then some 6
  else if ¬ (contentOk s h items ∧ rootNamed h items) then some 7
  else none

/-- Do the entries of the slot tables stand, 16 bytes each, in the section of slot tables (R200, R336; log entry 21)? -/
def slotsStand (b : List Byte) (items : List AlmItem) : Bool :=
  let sec : List Byte := match (dirOf b).find? (fun x => x.1 == 4) with
    | some x => slice b x.2.1 x.2.2
    | none => []
  items.all (fun i => match i with
    | .seq _ t =>
      let e := t.table.raw.flatMap (fun w => toBE 16 w.toNat)
      (List.range (sec.length + 1 - e.length)).any (fun o => slice sec o e.length == e)
    | _ => true)

/-- The checks of a load in their order (R340): the code of the first failure. -/
def loadChecks (s : State) (len : Nat) (a : Almanac) : Option Nat :=
  let b := a.bytes
  let h := hdrOf b
  if len ≠ h.totalLen ∨ b.length ≠ len then some 10
  else if getBE b (len - 8) 8 ≠ crc64 (b.take (len - 8)) then some 1
  else if h.magic ≠ 0x414C4D37 ∨ h.format ≠ 7 ∨ 3 ≤ h.kind ∨ ¬ dirOk s b ∨
      ¬ sectionsOk h.kind ((dirOf b).map (fun x => x.1)) ∨
      ¬ a.items.all (fun i => ((dirOf b).map (fun x => x.1)).contains (itemSection i)) ∨ ¬ slotsStand b a.items then some 2
  else if h.target ≠ s.straps.chip then some 3
  else if ¬ sigOk s b then some 4
  else checksLate s h a.items

/-! The stage and the queue (R339 to R342). -/

/-- Does a valid segment descriptor overlap the loader reserve (R339)? An A200's lies in SRAM of its own. -/
def rsvBusy (s : State) : Bool :=
  s.straps.variant != 2 && (List.range 256).any (fun i => (segOf s 0 i).active &&
    decide (segBase s 0 i ≤ 0x15BBA097FF) && decide (0x156BA09800 ≤ segLimit s 0 i))

/-- The unit in which the loader reserve is split: 256 MiB, or 8 MiB of an A200 (R339). -/
def rsvUnit (s : State) : Nat := if s.straps.variant = 2 then 0x800000 else 0x10000000

/-- Put bytes into the loader reserve, from an offset (R339): in stack 0, or in the loader SRAM of an A200. -/
def rsvPut (o : Nat) (b : List Byte) (s : State) : State :=
  if s.straps.variant = 2 then modAlm (fun x => { x with sram := putBytes o b x.sram }) s
  else modDie (fun d => { d with stack := putBytes (0x156BA09800 + o) b d.stack }) s

/-- Bytes of the loader reserve (R339). -/
def rsvGet (s : State) (o n : Nat) : List Byte :=
  if s.straps.variant = 2 then getBytes s.alm.sram o n else getBytes s.die.stack (0x156BA09800 + o) n

/-- The trailing digest of an almanac's bytes stands (R337). -/
def digestOk (b : List Byte) : Bool := getBE b (b.length - 8) 8 == crc64 (b.take (b.length - 8))

/-- Stage RWC bits of a register (R9). -/
def stageReg (a : Nat) (v : Word) (s : State) : State :=
  { s with staged := tset none s.staged a (some ((rdStaged s a &&& ~~~ rwcMask a) ||| (v &&& rwcMask a))) }

/-- The stage takes an almanac: the staged values of every field its sections cover are written (R340), those of registers first,
then ENABLE and GROUP of the groups, sequencers and sets that it binds (R194, R212, R240). -/
def stageTake (h : AlmHdr) (items : List AlmItem) (s : State) : State :=
  let put (a m v : Nat) (s : State) : State := stageReg a ((rdStaged s a &&& ~~~ BitVec.ofNat 32 m) ||| BitVec.ofNat 32 v) s
  let s1 := forAll items (fun i s => match i with
    | .reg a v => stageReg a v s
    | _ => s) (modAlm (fun x => { x with stage := some ⟨h, items⟩ }) s)
  forAll items (fun i s => match i with
    | .group k _ => put (A.GRP_CFG k) (2 ^ 16) (2 ^ 16) s
    | .seq q t => put (A.SEQ_CFG q) (2 ^ 31 + 63) (2 ^ 31 + t.table.group % 64) s
    | .pset u _ => put (A.PSET_CFG (u / 32) (u % 32)) (2 ^ 31) (2 ^ 31) s
    | _ => s) s1

/-- Does a staged value belong to PART: its resource's partition, and for the hall everything of the package (R343)? -/
def stagedIn (s : State) (items : List AlmItem) (part a : Nat) : Bool :=
  decide (a < 0x4000000) && (part == 0x7F || (match addrRes s items a with
    | some r => resPart s items r == part
    | none => false))

/-- The staged items of a partition. -/
def stagedItems (s : State) (part : Nat) : List AlmItem :=
  match s.alm.stage with
  | some x => if hdrPart x.hdr = part then x.items else []
  | none => []

/-- The stage is emptied, and the staged values of its partition are dropped, host writes included (R342). -/
def discard (s : State) : State :=
  match s.alm.stage with
  | none => s
  | some x =>
    let p := hdrPart x.hdr
    { (modAlm (fun y => { y with stage := none }) s) with
      staged := s.staged.filter (fun e => !stagedIn s x.items p e.1) }

/-- A request joins the queue behind those of its PRIO and above (R341). -/
def enqueueReq (r : LoadReq) : List LoadReq → List LoadReq
  | [] => [r]
  | x :: l => if x.prio < r.prio then r :: x :: l else x :: enqueueReq r l

/-- The eight words of a 32-byte register group, byte 0 in bits 31:24 of the first. -/
def wordsBE (s : State) (a n : Nat) : Nat := (List.range n).foldl (fun x i => x * 2 ^ 32 + rn s (a + 4 * i)) 0

/-- A write of ALM_REQ (R341): beyond 8 queued, or with no ticket free, no ticket and WR_IGN (R442). -/
def almReq (op : Nat) (v : Word) (s : State) : State :=
  if ¬ bit v 31 then s
  else if 8 ≤ s.alm.queue.length then raiseFlag A.ALM_STAT 2 0 12 s
  else
    match nextTicket s with
    | none => raiseFlag A.ALM_STAT 2 0 12 (noTicket s)
    | some t =>
      let r : LoadReq := {
        op := op, prio := bits v 16 3, part := bits v 0 6, ticket := t, src := BitVec.ofNat 64 (rn64 s A.ALM_SRC)
        len := rn s A.ALM_LEN, shape := BitVec.ofNat 256 (wordsBE s (A.ALM_SHAPE_IN) 8) }
      modAlm (fun x => { x with queue := enqueueReq r x.queue }) (issueAs t 14 A.ALM_TICKET .queued s)

/-- LOAD (R340). -/
def execLoad (v : Word) (s : State) : Answer := done (almReq 1 v s)

/-- CACHE_LOAD (R349). -/
def execCacheLoad (v : Word) (s : State) : Answer := done (almReq 2 v s)

/-- DISCARD (R342). -/
def execDiscard (v : Word) (s : State) : Answer := done (almReq 3 v s)

/-- TEARDOWN (R348). -/
def execTeardown (v : Word) (s : State) : Answer := done (almReq 4 v s)

/-- CACHE_DROP (R349). -/
def execCacheDrop (v : Word) (s : State) : Answer := done (almReq 5 v s)

/-- Does a request wait for stage 9: every one but a LOAD not yet found to be no hall almanac, and a DISCARD (R433)? -/
def stageHolds (s : State) (r : LoadReq) : Bool :=
  s.clks.stage != 9 && !(r.op == 3 || (r.op == 1 && !r.held))

/-- The request that may start: the first, or where that waits for the stage the first that does not (R341); a request
held before stage 9 stays at the head (R433). -/
def nextReq (s : State) : Option LoadReq :=
  match s.alm.queue.filter (fun r => !stageHolds s r) with
  | [] => none
  | r :: q =>
    if s.alm.stage.isSome ∧ r.op ≤ 2 then q.find? (fun x => decide (2 < x.op)) else some r

/-- A cache entry by its place. -/
def cacheAt (s : State) (c : Nat) : Option CacheEntry := s.alm.cache.getD c none

/-- CACHE_LOAD stages the entry whose SHAPE_HASH is asked for, after a check of its trailing digest and checks 6 to 10 (R349). -/
def cacheLoad (r : LoadReq) (s : State) : State :=
  match (List.range 4).find? (fun c => (cacheAt s c).any (fun e => e.hdr.shape == r.shape)) with
  | none => endTicket r.ticket 12 s
  | some c =>
    match cacheAt s c with
    | none => s
    | some e =>
      let b := rsvGet s ((c + 1) * rsvUnit s) e.hdr.totalLen
      let s1 := rsvPut 0 b (ticketProgress r.ticket (e.hdr.totalLen / 1024) s)
      match if digestOk b then checksLate s e.hdr e.items else some 1 with
      | some f => endTicket r.ticket f s1
      | none =>
        let s2 := modAlm (fun x => { x with cache := x.cache.set c (some { e with lastUse := pe s .keel }) }) s1
        endTicket r.ticket 0 (stageTake e.hdr e.items s2)

/-- CACHE_DROP empties every entry of a partition (R349). -/
def cacheDrop (p : Nat) (s : State) : State :=
  let s1 := modAlm (fun x => { x with cache := x.cache.map (fun e => match e with
    | some y => if y.hdr.part = p then none else some y
    | none => none) }) s
  modAlm (fun x => { x with parts := tmod {} x.parts p (fun y => { y with cache := 0xFF }) }) s1

/-- The next request starts (R341). A TEARDOWN waits while a COMMIT of its partition is in progress (DESIGN CHOICE, log entry 60). -/
def loaderStart (s : State) : State :=
  if s.alm.working.isSome then s
  else
    match nextReq s with
    | none => s
    | some r =>
      if r.op = 4 ∧ s.alm.commits.any (fun c => c.part == r.part) then s else
      let s1 := ticketTo r.ticket .running (modAlm (fun x => { x with queue := x.queue.erase r }) s)
      match r.op with
      | 1 =>
        if rsvBusy s then endTicket r.ticket 11 s1
        else emitAll (hostReads r.src r.len) (modAlm (fun x => { x with working := some r }) s1)
      | 2 => if rsvBusy s then endTicket r.ticket 11 s1 else cacheLoad r s1
      | 3 => endTicket r.ticket 0 (discard s1)
      | 4 =>
        let c : Commit := {
          part := r.part, at_ := 0, group := 0, ticket := some r.ticket, teardown := true, phase := .preparing, items := []
          hdr := none, regs := [], ready := 0, refuse := 0, before := none, acks := 0, since := 0 }
        let s2 := wr A.COMMIT_TICKET (BitVec.ofNat 32 ((opstat s r.ticket).serial * 65536 + r.ticket)) s1
        modAlm (fun x => { x with
          working := some r, phase := .preparing, fault := 0, ready := 0, refuse := 0, commits := x.commits ++ [c] }) s2
      | _ => endTicket r.ticket 0 (cacheDrop r.part s1)

/-- LOADER_DEQUEUE (R341). -/
def execLoaderDequeue (s : State) : Answer := done (loaderStart s)

/-- The copy of a load ends in the stage, offset 0 of the reserve, and the almanac is checked (R339, R340); a failure leaves the stage empty. Before stage 9 a load that
is not of a hall almanac is held at the head of the queue (R433). -/
def loadDone (got : Option Almanac) (s : State) : State :=
  match s.alm.working with
  | none => s
  | some r =>
    if r.op ≠ 1 then s
    else
      let s1 := modAlm (fun x => { x with working := none }) s
      match got with
      | none => endTicket r.ticket 10 (pcieFail s1)
      | some a =>
        if s.clks.stage ≠ 9 ∧ (hdrOf a.bytes).kind ≠ 0 then
          modAlm (fun x => { x with queue := { r with held := true } :: x.queue }) (ticketTo r.ticket .queued s1)
        else
        let s2 := rsvPut 0 (a.bytes.take (rsvUnit s)) (ticketProgress r.ticket (a.bytes.length / 1024) s1)
        if r.resets.contains (hdrOf a.bytes).part then endTicket r.ticket 13 s2 else
        match loadChecks s r.len a with
        | some f => endTicket r.ticket f s2
        | none => endTicket r.ticket 0 (stageTake (hdrOf a.bytes) a.items s2)

/-- ALM_LOAD_DONE: what the PCIe reads returned (R340). -/
def execAlmLoadDone (got : Option Almanac) (s : State) : Answer := done (loadDone got s)

/-! Key slots (R338). -/

/-- Is a slot usable? -/
def keyUsable (s : State) (i : Nat) : Bool := (s.alm.keys.getD i none).isSome && !s.alm.revoked.getD i true

/-- Slots 1 to 3 are programmed once each with ALM_KEY_HASH. -/
def keyProg (v : Word) (s : State) : State :=
  let i := bits v 0 2
  if ¬ bit v 31 ∨ i = 0 ∨ (s.alm.keys.getD i none).isSome then s
  else modAlm (fun x => { x with keys := x.keys.set i (some (BitVec.ofNat 384 (wordsBE s (A.ALM_KEY_HASH) 12))) }) s

/-- ALM_KEY_PROG, on the expert page (R338, R441). -/
def execAlmKeyProg (v : Word) (s : State) : Answer := done (onExpert 0x300000 (keyProg v) s)

/-- A slot is revoked; a revocation that would leave no usable slot is refused with REVOKE_LAST. -/
def revoke (v : Word) (s : State) : State :=
  let i := bits v 0 2
  if ¬ bit v 31 then s
  else if (List.range 4).any (fun j => j != i && keyUsable s j) then
    modAlm (fun x => { x with revoked := x.revoked.set i true }) s
  else setFlag A.ALM_STAT 8 s

/-- ALM_REVOKE, on the expert page (R338, R441). -/
def execAlmRevoke (v : Word) (s : State) : Answer := done (onExpert 0x300000 (revoke v) s)

/-- The commit of a PART in progress. -/
def commitOf (s : State) (part : Nat) : Option Commit := s.alm.commits.find? (fun c => c.part == part)

/-- Has a partition a muster group (R344)? -/
def partGroups (s : State) (part : Nat) : List Nat :=
  s.cfg.owners.filterMap (fun x => match x with
    | (.group k, p) => if p = part then some k else none
    | _ => none)

/-- PREPARE of a COMMIT (R343): every die copies the staged values of PART into its shadow. -/
def commitBegin (part at_ group : Nat) (t : Option Nat) (s : State) : State :=
  let items := stagedItems s part
  let hdr := match s.alm.stage with
    | some x => if hdrPart x.hdr = part then some x.hdr else none
    | none => none
  let regs : Table Word := s.staged.filterMap (fun e =>
    if stagedIn s items part e.1 then some (e.1, rdStaged s e.1) else none)
  let c : Commit := {
    part := part, at_ := if part = 0x7F ∨ (partGroups s part).isEmpty then 0 else at_
    group := group, ticket := t, teardown := false, phase := .preparing, items := items, hdr := hdr, regs := regs
    ready := 0, refuse := 0, before := none, acks := 0, since := 0, image := (hdr.map (fun h => rsvGet s 0 h.totalLen)).getD [] }
  modAlm (fun x => { x with
    phase := .preparing, fault := 0, ready := 0, refuse := 0, commits := x.commits.filter (fun y => y.part != part) ++ [c] }) s

end Sys2Proof.Machine
end

