-- ==== Sys2Proof/Machine/Bank.lean ====
section
/-! DEFINITION. Commands on banks, stacks and segments (11): BANK_OWNER_WRITE, CLEAR_REQ, BANK_CLEAR_DONE,
BANK_APERTURE_ACCESS, STACK_PATROL_SCRUB, PARTITION_SCRUB_DONE. -/

namespace Sys2Proof.Machine

/-- BANK_OWNER_WRITE: the host writes a bank's owner (R281, R282). -/
def execBankOwnerWrite (die b : Nat) (v : Word) (s : State) : Answer :=
  done (onReduce die (A.BANK_OWNER (die - 5) b) (fun dx s => ownerWrite dx (b % 256) 0xFF (bits v 0 8) s) s)

/-- The clear of a host-owned bank begins; of any other, OWN_REFUSED counts (R284, R294). -/
def clearReq (dx b : Nat) (s : State) : State :=
  if bankOwner s dx b = 0xFF then modBank dx b (fun x => { x with clearing := true }) s
  else bankRefuse dx b 4 0xFF s

/-- CLEAR_REQ: GO starts a zero clear of a host-owned bank (R284). -/
def execClearReq (die : Nat) (v : Word) (s : State) : Answer :=
  done (onReduce die (A.CLEAR_REQ (die - 5)) (fun dx s => if bit v 31 then clearReq dx (bits v 0 8) s else s) s)

/-- Zero a range of bytes of a table: an unlisted byte reads zero. -/
def zeroRange (lo hi : Nat) (t : Table Byte) : Table Byte := tkeep (fun a => decide (a < lo) || decide (hi < a)) t

/-- A bank's clear ends: zero in every line, and the bank passes to the host (R279, R284). -/
def bankCleared (dx b : Nat) (s : State) : State :=
  if (bankOf s dx b).clearing then
    let lo := dx * 2 ^ 27 + b * 2 ^ 19
    modDie (fun d => { d with sram := zeroRange lo (lo + 2 ^ 19 - 1) d.sram })
      (modBank dx b (fun x => { x with clearing := false, owner := 0xFF }) s)
  else s

/-- BANK_CLEAR_DONE (R284). -/
def execBankClearDone (die b : Nat) (s : State) : Answer :=
  done (onReduce die (A.BANK_OWNER (die - 5) b) (fun dx s => bankCleared dx (b % 256) s) s)

/-- A line that the host reads meets an error (R277): corrected, or flagged, and then what the host is given is left open: a free
value (log entry 29). -/
def apertureEcc (dx l : Nat) (ecc : Option Bool) (s : State) : State :=
  match ecc with
  | none => s
  | some true => bankCe dx (l / 8192 % 256) s
  | some false =>
    let (v, s1) := takeFree (lineUe dx l s)
    { s1 with host := { s1.host with rdata := BitVec.ofNat 64 v } }

/-- An access that the aperture turns away: a read shows zero (R285, R437). -/
def aperNone (acc : AperAcc) (s : State) : State :=
  match acc with
  | .write _ => s
  | .read _ => { s with host := { s.host with rdata := 0 } }

/-- The host's access to the bank named in APER_BANK: a read leaves its data in `rdata`; a bank not owned by the host
refuses (R277, R280, R285). -/
def aperture (dx off size : Nat) (acc : AperAcc) (s : State) : State :=
  let b := rf s (A.APER_BANK dx) 0 8
  let a := dx * 2 ^ 27 + b * 2 ^ 19 + off
  if bankOwner s dx b ≠ 0xFF then
    aperNone acc (setFlag (A.BANK_STAT dx) 1 (bankRefuse dx b (if bankBusy s dx b then 3 else 1) 0xFF s))
  else
    match acc with
    | .write v => modDie (fun d => { d with sram := putBytes a (toLE size v.toNat) d.sram }) s
    | .read ecc => apertureEcc dx (b * 8192 + off / 64) ecc
        { s with host := { s.host with rdata := BitVec.ofNat 64 (ofLE (getBytes s.die.sram a size)) } }

/-- Is an access a read? -/
def aperReads : AperAcc → Bool
  | .read _ => true
  | .write _ => false

/-- BANK_APERTURE_ACCESS: a host access of `size` bytes at an offset of the aperture (R285); the window of an absent die reads
zero, and only a write there is logged (R19). A malformed access is that of any register (R438). -/
def execBankApertureAccess (die off size : Nat) (acc : AperAcc) (s : State) : Answer :=
  done (if ¬ ((size = 4 ∨ size = 8) ∧ off % size = 0) then accErr (0x1000000 + die * 0x400000 + 0x380000 + off) (!aperReads acc) s
    else if aperReads acc ∧ ¬ (5 ≤ die ∧ die < 7 ∧ diePresent s die) then aperNone acc s else onReduce die (0x1000000 + die * 0x400000 + 0x380000 + off)
    (fun dx s => if off + size ≤ 2 ^ 19 then aperture dx off size acc s
      else aperNone acc s) s)

/-- Errors of a stack: corrected ones count in STK_CE, uncorrectable ones in STK_UE (R288). -/
def stackErrors (dx st ce ue : Nat) (s : State) : State :=
  forAll (List.replicate ue ()) (fun _ s => stkUe dx st s) (stkCe dx st ce s)

/-- STACK_PATROL_SCRUB: a pass over a stack ends; `ce` and `ues` are what it met (R288). -/
def execStackPatrolScrub (stack ce : Nat) (ues : List Nat) (s : State) : Answer :=
  done (onReduce (5 + stack / 2) (A.SCRUB_PASS (stack / 2) (stack % 2)) (fun dx s =>
    bump (A.SCRUB_PASS dx (stack % 2)) (stackErrors dx (stack % 2) ce ues.length s)) s)

/-- The scrub of a range ends: it reads zero, SCRUBBING clears, and held descriptors outside every range still under
scrub become valid (R293). -/
def scrubDone (dx first : Nat) (s : State) : State :=
  match s.die.scrubs.find? (fun r => r.1 == dx && r.2.1 == first) with
  | none => s
  | some r =>
    let s1 := modDie (fun d => { d with scrubs := d.scrubs.erase r, stack := zeroRange r.2.1 r.2.2.1 d.stack }) s
    let s2 := forAll (List.range 256) (fun i s =>
      if (segOf s dx i).scrubbing ∧ ¬ segUnderScrub s dx i then modSeg dx i (fun x => { x with scrubbing := false }) s
      else s) s1
    forAll (List.range 256) (fun i s => if (segOf s dx i).held ∧ ¬ segUnderScrub s dx i then segInstall dx i s else s) s2

/-- PARTITION_SCRUB_DONE: the zero fill of the range that begins at `first` ends (R293). -/
def execPartitionScrubDone (die first : Nat) (s : State) : Answer :=
  done (onReduce die (A.SEG_STAT (die - 5)) (fun dx s => scrubDone dx first s) s)

end Sys2Proof.Machine
end

