-- ==== Sys2Proof/Machine/Ical.lean ====
section
/-! DEFINITION. Epoch sets (R37 to R40), the windows of UNSURE (R44), pulls and intercalations (R29, R77 to R82). -/

namespace Sys2Proof.Machine

/-- The code of TIME_EPOCH_STATUS (R86). -/
def epochCode : EpochStatus → Nat
  | .idle => 0
  | .armed => 1
  | .done => 2
  | .notRoot => 3
  | .bad => 4
  | .refused => 5
  | .busy => 6
  | .noPps => 7

/-- An outcome of an epoch set: the status, and an entry in the error log (R38). -/
def epochOutcome (t : EpochStatus) (s : State) : State :=
  let s1 := modClk .keel (fun c => { c with epochStatus := t }) s
  event { regEvent s1 A.TIME_EPOCH_STATUS 0 13 (epochCode t) with data1 := BitVec.ofNat 32 (epochCode t) } s1

/-- A write of word 0 with SET arms a load, or is refused (R37, R38). DESIGN CHOICE (log entry 65): where several conditions of the
table hold, the first of them gives the status. -/
def epochSet (v : Word) (s : State) : State :=
  let s0 := wr A.TIME_EPOCH_SET (v &&& 0xFFFF0007#32) s
  let ns := rf s (A.TIME_EPOCH_SET + 4) 0 30
  let val : FabTime := {
    sec := BitVec.ofNat 48 (rn s (A.TIME_EPOCH_SET + 8) + 2 ^ 32 * rf s (A.TIME_EPOCH_SET + 12) 0 16)
    ns := BitVec.ofNat 30 ns
    frac := BitVec.ofNat 32 (bits v 16 16 * 65536) }
  if ¬ bit v 0 then s0
  else if ¬ s.tw.primary then epochOutcome .notRoot s0
  else if nsPerSec ≤ ns then epochOutcome .bad s0
  else if s.keel.clk.valid ∧ ¬ bit v 1 then epochOutcome .refused s0
  else if s.keel.clk.epochArmed.isSome then epochOutcome .busy s0
  else modClk .keel (fun c => { c with epochArmed := some (val, bit v 2, c.pe.toNat), epochStatus := .armed }) s0

/-- TIME_EPOCH_SET (R37). -/
def execTimeEpochSet (v : Word) (s : State) : Answer := done (epochSet v s)

/-- The load (R37 to R41, R44, R78, R79, R210): an intercalation due in the same cycle is discarded (R29). DESIGN CHOICE
(log entry 65): a root that has a sequence goes on with it at a forced epoch set. While the
10 MHz oscillator is lost the counter freewheels with VALID = 0 all the same (R423). -/
def epochTakes (val : FabTime) (s : State) : State :=
  let b := now s .keel
  let forced := s.keel.clk.valid
  let due := s.keel.icl.pend.filter (fun x => fullAtOrAfter b x.apply)
  let s1 := forAll due (fun _ s => icalDrop .keel s) s
  let s2 := modIcl .keel (fun i =>
    let rest := i.pend.filter (fun x => !fullAtOrAfter b x.apply)
    { i with pend := rest, remain := 0, known := true }) s1
  let s3 := modClk .keel (fun c => { c with epochPe := c.pe, valid := c.oscOk, epochArmed := none }) (stepTo .keel val s2)
  icalMirror (uncUpdate .keel (epochOutcome .done (whenDo forced (abortRunning 1) (stepMark .keel b s3))))

/-- Where the pulse of the selected reference stands: its edge has come in this cycle, `phase` after it, and after the write
that armed the load (R37). -/
def epochPulse (s : State) (at_ : Nat) : Option Nat :=
  match selSource s .keel with
  | some i =>
    match (src s .keel i).lastEdge with
    | some (e, phase) => if i < 4 ∧ e = pe s .keel ∧ at_ < e ∧ e ≤ at_ + secC 2 then some phase else none
    | none => none
  | none => none

/-- The armed value is loaded: on the 8th cycle after the write; or on a pulse edge of the selected reference within 2 s, and
that edge, `phase` after this cycle of the counter, then carries the written time (R37). DESIGN CHOICE: the edge at the pin itself,
without PIN_PHASE_OFS (log entry 18). A load with ALIGN_PPS resolves a far phase (R96). -/
def epochLoad (pulse : Bool) (s : State) : State :=
  match s.keel.clk.epochArmed with
  | none => s
  | some (val, align, at_) =>
    if align then
      match (if pulse then epochPulse s at_ else none) with
      | some phase => phaseResolved (epochTakes (fabAdd val (-(phase * 65536 : Nat))) s)
      | none => s
    else if at_ + 8 ≤ pe s .keel then epochTakes val s else s

/-- EPOCH_LOAD (R37). -/
def execEpochLoad (pulse : Bool) (s : State) : Answer := done (epochLoad pulse s)

/-- No pulse edge within 2 s: the load is abandoned (R37). -/
def epochNoPps (s : State) : State :=
  match s.keel.clk.epochArmed with
  | some (_, true, at_) =>
    if at_ + secC 2 ≤ pe s .keel then
      epochOutcome .noPps (modClk .keel (fun c => { c with epochArmed := none }) s)
    else s
  | _ => s

/-- EPOCH_NOPPS (R37). -/
def execEpochNopps (s : State) : Answer := done (epochNoPps s)

/-- The 10 ms window after a step ends (R44). -/
def stepWindowEnd (n : Node) (s : State) : State :=
  match (nd s n).clk.stepUntil with
  | some t => if t ≤ pe s n then modClk n (fun c => { c with stepUntil := none }) s else s
  | none => s

/-- UNSURE_STEP_WINDOW_END (R44). -/
def execUnsureStepWindowEnd (n : Node) (s : State) : Answer := done (stepWindowEnd n s)

/-- 10 ms after the supply recovers the supply-dip cause clears (R44). -/
def dipWindowEnd (n : Node) (s : State) : State :=
  match (nd s n).clk.dipUntil with
  | some t => if t ≤ pe s n then modClk n (fun c => { c with dipUntil := none }) s else s
  | none => s

/-- UNSURE_DIP_WINDOW_END (R44). -/
def execUnsureDipWindowEnd (n : Node) (s : State) : Answer := done (dipWindowEnd n s)

/-- T_snap of an armed snapshot, still to come at the time `b`, moves along with fabric time (R451). -/
def snapIcal (b : FabTime) (q : Int) (s : State) : State :=
  let x := s.host.snap
  if snapAhead x b then { s with host := { s.host with snap := { x with time := fabAdd x.time (q * 65536) } } } else s

/-- An intercalation is applied: q is added in one cycle, and ICAL_SEQ and ICAL_SUM follow (R29, R54, R135). -/
def icalTakes (n : Node) (x : Ical) (s : State) : State :=
  let s1 := modClk n (fun c => { c with
    now := fabAdd c.now (x.q * 65536), moved := c.moved.map (fun m => ((m : Int) + x.q * 65536).toNat) }) s
  let s2 := modIcl n (fun i => { i with
    seq := x.seq, sum := i.sum + BitVec.ofInt 32 x.q, recent := ((x.apply, x.q) :: i.recent).take 8
    pend := i.pend.filter (fun y => y.seq != x.seq) }) s1
  let s3 := nFlag n A.TIME_STATUS A.E_TIME_STATUS 4 s2
  match n with
  | .keel => ticIcal (snapIcal (now s .keel) x.q s3)
  | .evxus => s3

/-- The first pending intercalation whose APPLY time has come (R29). -/
def icalApply (n : Node) (s : State) : State :=
  match (nd s n).icl.pend.find? (fun x => fullAtOrAfter (now s n) x.apply) with
  | some x => icalTakes n x s
  | none => s

/-- INTERCAL_APPLY (R29). -/
def execIntercalApply (n : Node) (s : State) : Answer := done (icalApply n s)

/-- PULL_REQ: a new pull target replaces the unsent remainder, and resolves a far phase (R78, R86, R96); ignored on any other
node than the primary root. -/
def pullReq (v : DWord) (s : State) : State :=
  if s.tw.primary then
    icalMirror (phaseResolved (modIcl .keel (fun i => { i with remain := (v.setWidth 32).toInt }) s))
  else s

/-- PULL_REQ (R77). -/
def execPullReq (v : DWord) (s : State) : Answer := done (pullReq v s)

/-- The ports on which a node serves time (R79). -/
def servePorts (s : State) (n : Node) : List Nat :=
  ((nd s n).ports.filter (fun x => servesOn s n x.1 && portTimes s n x.1)).map (fun x => x.1)

/-- The body of an INTERCALATE (R54). -/
def icalBody (x : Ical) : List Byte :=
  bodyOf [(12, toBE 2 x.seq.toNat), (14, toBE 2 (enc 16 x.q)), (16, toBE 8 (fabFt64 x.apply).toNat), (24, toBE 4 x.sum.toNat)]

/-- Send an INTERCALATE on every downstream timing keel lane (R79). -/
def icalForward (n : Node) (x : Ical) (s : State) : State :=
  forAll (servePorts s n) (fun p s => sendMsg n p tIcal (icalBody x) s) s

/-- The least spacing of APPLY times, 2^-16 ns: 500,000 / PULL_SLOPE µs, rounded down (R77). -/
def icalSpacing (s : State) : Nat := usU (500000 / max 1 (rf s A.PULL_CTRL 16 6))

/-- The root announces the next intercalation of a pull INTERCAL_LEAD ahead of its APPLY time (R77, R78, R82). -/
def icalAnnounce (s : State) : State :=
  let i := s.keel.icl
  let apply := ftWiden (fabFt64 (fabAdd (now s .keel) (usFull (100 * rf s A.PULL_CTRL 0 16)))) (now s .keel)
  let spaced : Bool := match i.lastApply with
    | some l => decide ((icalSpacing s * 65536 : Nat) ≤ fullDiff apply l)
    | none => true
  if ¬ (s.tw.primary ∧ i.known ∧ i.remain ≠ 0 ∧ spaced ∧ i.pend.length < 8) then s
  else
    let q := clampInt (-3276) 3276 i.remain
    let sum := (i.pend.foldl (fun a y => a + BitVec.ofInt 32 y.q) i.sum) + BitVec.ofInt 32 q
    let x : Ical := { seq := icalLast i + 1, q := q, apply := apply, sum := sum }
    icalMirror (icalForward .keel x (modIcl .keel (fun i => { i with
      pend := i.pend ++ [x], remain := i.remain - q, lastApply := some apply }) s))

/-- INTERCALATE_ANNOUNCE (R78). -/
def execIntercalateAnnounce (s : State) : Answer := done (icalAnnounce s)

/-- An INTERCALATE as a node receives it (R54). -/
def icalOf (s : State) (n : Node) (m : Raw) : Ical where
  seq := BitVec.ofNat 16 (getBE m 12 2)
  q := sgn 16 (getBE m 14 2)
  apply := widen s n (BitVec.ofNat 64 (getBE m 16 8))
  sum := BitVec.ofNat 32 (getBE m 24 4)

/-- An INTERCALATE: new ones are forwarded and queued, late ones applied at once, a ninth discarded (R79, R80). -/
def icalReceive (n : Node) (m : Raw) (s : State) : State :=
  let i := (nd s n).icl
  let x := icalOf s n m
  if ¬ i.known ∨ seqDiff x.seq (icalLast i) ≤ 0 then s
  else if 0 < sinceThen s n x.apply then
    let s1 := icalLate n (icalTakes n x (icalForward n x s))
    uncUpdate n (modIcl n (fun i => { i with
      late := i.late ++ [(x.q.natAbs, pe s n + 12500000)], lastApply := some x.apply }) s1)
  else if 8 ≤ i.pend.length then icalDrop n (icalForward n x s)
  else icalForward n x (modIcl n (fun i => { i with pend := i.pend ++ [x], lastApply := some x.apply }) s)

/-- INTERCALATE_RECEIVE (R79). -/
def execIntercalateReceive (n : Node) (p : Nat) (m : Raw) (s : State) : Answer :=
  done (onMsg n p tIcal m (icalReceive n m) s)

/-- 10 ms after a late intercalation its |Q| leaves TIME_UNC (R80). -/
def icalLateEnd (n : Node) (s : State) : State :=
  uncUpdate n (modIcl n (fun i => { i with late := i.late.filter (fun x => decide (pe s n < x.2)) }) s)

/-- INTERCAL_LATE_UNC_END (R80). -/
def execIntercalLateUncEnd (n : Node) (s : State) : Answer := done (icalLateEnd n s)

end Sys2Proof.Machine
end

