-- ==== Sys2Proof/Machine/Link.lean ====
section
/-! DEFINITION. Links and their asymmetry calibration (R59 to R61, R148, R149). -/

namespace Sys2Proof.Machine

/-- The reflection that a tap's PCS is asked for begins, or ends: the far end calibrates at every bring-up, and needs it until the
results of both ends are in, or until the link falls (R59, R149, log entry 26). -/
def loopBegin (n : Node) (p : Nat) (s : State) : State :=
  match n with
  | .keel => s
  | .evxus =>
    if s.ev.loopback.contains p then s
    else emit (.pin (.laneLoopback p) true) { s with ev := { s.ev with loopback := p :: s.ev.loopback } }
def loopEnd (n : Node) (p : Nat) (s : State) : State :=
  match n with
  | .keel => s
  | .evxus =>
    if s.ev.loopback.contains p then
      emit (.pin (.laneLoopback p) false) { s with ev := { s.ev with loopback := s.ev.loopback.filter (fun q => q != p) } }
    else s

/-- Marker patterns of a calibration (R59). -/
abbrev calRounds : Nat := 4096

/-- A calibration begins: the port carries no exchanges and is ineligible meanwhile (R59, R61), and 4,096 marker patterns go
out on the keel lane. -/
def calBegin (n : Node) (p : Nat) (t : Option Nat) (s : State) : State :=
  let s1 := whenDo (port s n p).exch.isSome (failExch n p) s
  emit (.markers n p calRounds) (portLost n p (modPort n p (fun x => { x with
    calibrating := true, calTicket := t, exch := none, reqIn := none }) s1))

/-- Is the twin link held down, by a TWIN_CUT in its first 50 ms (R393)? -/
def cutHolds (s : State) (n : Node) (p : Nat) : Bool :=
  match n with
  | .evxus => false
  | .keel => p == 512 && s.tw.drill.any (fun d => d.code == 1 && decide (pe s .keel - d.since < 62500000))

/-- A TWIN_CUT lets the link go (R393). -/
def cutFree (n : Node) (p : Nat) (s : State) : State :=
  match n with
  | .evxus => s
  | .keel =>
    if p = 512 ∧ s.tw.drill.any (fun d => d.code == 1 && !d.freed) then
      emit (.pin .twinLink true) { s with tw := { s.tw with drill := s.tw.drill.map (fun d => { d with freed := true }) } }
    else s

/-- Is a link number that of a data lane of the twin link: 512 + l for lane l of 1 to 31 (R375; log entry 62)? -/
def twinLane (n : Node) (p : Nat) : Bool :=
  match n with
  | .keel => decide (512 < p) && decide (p < 544)
  | .evxus => false

/-- A data lane of the twin link is lost: a TWIN_LANE event (R375, R397). -/
def laneDown (l : Nat) (s : State) : State :=
  if s.tw.lanesLost.contains l then s
  else
    let s1 := { s with tw := { s.tw with lanesLost := l :: s.tw.lanesLost } }
    event (regEvent s1 (A.PORT_TSTAT 512) 512 6 0xFF) s1

/-- LINK_UP: the keel lane trains, and a fresh calibration starts, at both ends (R59, R60, R149); only on a port whose die, or a
tap, the part has (R17, R137), and not while a TWIN_CUT holds the twin link down (R393). -/
def linkUp (n : Node) (p : Nat) (s : State) : State :=
  if twinLane n p then { s with tw := { s.tw with lanesLost := s.tw.lanesLost.filter (fun l => l != p - 512) } }
  else if (port s n p).linkUp ∨ ¬ portWorks s n p ∨ cutHolds s n p then s
  else
    calBegin n p none (loopBegin n p (cutFree n p <| modPort n p (fun x => { x with
      linkUp := true, lastSync := now s n, lastTx := none, fails := 0, lossTold := false, oks := 0, delays := [], gateRun := 0 }) s))

/-- LINK_UP (R59). -/
def execLinkUp (n : Node) (p : Nat) (s : State) : Answer := done (linkUp n p s)

/-- Is the spread of the samples at most 20 ps RMS (R60)? A unit is 2^-16 ns. -/
def spreadOk (l : List Int) : Bool :=
  let k := l.length
  let sx := l.foldl (· + ·) 0
  let sxx := l.foldl (fun a x => a + x * x) (0 : Int)
  decide ((k * sxx - sx * sx) * 1000000 ≤ ((1310720 * 1310720 * k * k : Nat) : Int))

/-- A calibration ends (R59, R60): each of the 4,096 rounds gives the outgoing delay by reflection and the incoming one that the
far end reported, 2^-16 ns; no round means no reflector. The port's own mean goes to the far end over the keel lane. The fault
code of a failure is a free value (log entry 4). -/
def ownCalDone (n : Node) (p : Nat) (rounds : List (Int × Int)) (s : State) : State :=
  let x := port s n p
  if ¬ x.calibrating ∨ (rounds.length ≠ calRounds ∧ rounds ≠ []) then s
  else
    let s0 := whenDo (!rounds.isEmpty) (loopEnd n p) (modPort n p (fun x => { x with calibrating := false, calTicket := none }) s)
    let outs := rounds.map (fun r => r.1)
    if rounds.isEmpty ∨ ¬ spreadOk outs then
      let s1 := nRaise n (A.PORT_TSTAT p) (A.E_PORT_STAT p) 8 p 11 s0
      match x.calTicket with
      | some t => let (f, s2) := takeFree s1
                  endTicket t (1 + f % 255) s2
      | none => s1
    else
      let d := divRNE (rounds.foldl (fun a r => a + (r.1 - r.2)) 0) rounds.length
      let s1 := wr (nr n (A.ASYM p) (A.E_ASYM p)) (sat32 d) (modPort n p (fun x => { x with asymValid := true }) s0)
      let s2 := match n with
        | .keel => wn (A.HOP_UNC p) 120 s1
        | .evxus => s1
      endTicket? x.calTicket 0 (emit (.calResult n p (divRNE (outs.foldl (· + ·) 0) rounds.length)) s2)

/-- What a calibration on a keel lane brings: the end of the own one; or the far end asks for a reflection, as long as its own one
needs it, or needs it no more (R59, R149). -/
def calDone (n : Node) (p : Nat) (r : CalEnd) (s : State) : State :=
  match r with
  | .rounds l => ownCalDone n p l s
  | .farAsks on => if (port s n p).linkUp then (if on then loopBegin n p s else loopEnd n p s) else s

/-- ASYM_CAL_DONE (R59). -/
def execAsymCalDone (n : Node) (p : Nat) (r : CalEnd) (s : State) : Answer := done (calDone n p r s)

/-- A message that does not complete on a tap, or a beat without rx_sof, is discarded and counted (R147). -/
def tapOrphan (p : Nat) (s : State) : State :=
  setFlag A.EV_ERR_STAT 4 (setFlag (A.E_PORT_STAT p) 10 (bump A.E_TAP_ORPHAN
    { s with ev := { s.ev with taps := tset {} s.ev.taps p {} } }))

/-- A message whose beats are passing a tap when the link falls is discarded (R157). -/
def tapCut (n : Node) (p : Nat) (s : State) : State :=
  match n with
  | .keel => s
  | .evxus => if tget {} s.ev.taps p = {} then s else tapOrphan p s

/-- LINK_DOWN: ASYM_VALID is cleared, the exchange in progress fails, a calibration is abandoned without CAL_FAIL, and a
trained lane is lost (R60, R157, R397). -/
def linkDown (n : Node) (p : Nat) (s : State) : State :=
  let x := port s n p
  if twinLane n p then laneDown (p - 512) s
  else if ¬ x.linkUp then s
  else
    let s1 := whenDo x.exch.isSome (failExch n p) s
    let s2 := loopEnd n p (modPort n p (fun x => { x with
      linkUp := false, asymValid := false, calibrating := false, calTicket := none, exch := none, reqIn := none
      sumDiff := false, lastTx := none }) s1)
    let s3 := match x.calTicket with
      | some t => let (f, y) := takeFree s2
                  endTicket t (1 + f % 255) y
      | none => s2
    let s4 := match n with
      | .keel => event (regEvent s3 (A.PORT_TSTAT p) p (if p = 512 then 6 else 5) 0xFF) s3
      | .evxus => s3
    portLost n p (tapCut n p s4)

/-- LINK_DOWN (R60). -/
def execLinkDown (n : Node) (p : Nat) (s : State) : Answer := done (linkDown n p s)

/-- A write of ASYM under unlock replaces the value and sets ASYM_VALID (R60, R441, R171). DESIGN CHOICE (log entry 59): a record that
the grouping does not use takes the write too, and shows it once a grouping uses the port. -/
def asymWrite (n : Node) (p : Nat) (v : Word) (s : State) : State :=
  let f := fun s => modPort n p (fun x => { x with asymValid := true }) (wr (nr n (A.ASYM p) (A.E_ASYM p)) v s)
  match n with
  | .keel => onExpert 0x150000 (fun s => wn (A.HOP_UNC p) 120 (f s)) s
  | .evxus => onEvExpert (A.E_ASYM p) f s

/-- ASYM_WRITE (R60). -/
def execAsymWrite (n : Node) (p : Nat) (v : Word) (s : State) : Answer := done (evHold n (.asymWrite n p v) (asymWrite n p v) s)

/-- CAL_START begins a recalibration of a port or tap that the part has (R17, R137); on the package it takes a ticket (R61, R148). -/
def calStart (n : Node) (p : Nat) (s : State) : State :=
  if (port s n p).calibrating ∨ ¬ portWorks s n p then s
  else
    match n with
    | .evxus => calBegin n p none s
    | .keel =>
      match nextTicket s with
      | none => noTicket s
      | some t => calBegin n p (some t) (issueAs t 10 (A.CAL_TICKET p) .running s)

/-- CAL_START (R61). -/
def execCalStart (n : Node) (p : Nat) (s : State) : Answer := done (evHold n (.calStart n p) (calStart n p) s)

end Sys2Proof.Machine
end

