-- ==== Sys2Proof/Machine/Evx.lean ====
section
/-! DEFINITION. The Evxus block besides its time side (06): resets, the page, the host clock, launch lines, event inputs,
arrivals, wake, the taps' beats, loss of the reference clock. -/

namespace Sys2Proof.Machine

/-- Change the Evxus block. -/
def modEv (f : EvSt → EvSt) (s : State) : State := { s with ev := f s.ev }

/-- A launch line. -/
def lineOf (s : State) (l : Nat) : Line := s.ev.lines.getD l {}

/-- Change a launch line. -/
def modLine (l : Nat) (f : Line → Line) (s : State) : State :=
  modEv (fun e => { e with lines := e.lines.set l (f (e.lines.getD l {})) }) s

/-- GROUP of a line in force, if it is enabled (R167). -/
def lineGroup (s : State) (l : Nat) : Nat := (s.ev.bound.getD l (false, 0)).2
def lineEnabled (s : State) (l : Nat) : Bool := (s.ev.bound.getD l (false, 0)).1

/-- Is any line armed? -/
def anyArmed (s : State) : Bool := s.ev.lines.any (fun x => x.armed.isSome)

/-- Put an output line to a level. -/
def driveLine (l : Nat) (v : Bool) (s : State) : State :=
  let was := (lineOf s l).level
  let s1 := modLine l (fun x => { x with level := v }) s
  if was = v then s1 else emit (.pin (.launch l) v) s1

/-- Lower an output line; while the host clock is absent it holds its level, and falls when the clock is back (R142). -/
def lowerLine (l : Nat) (s : State) : State :=
  if s.ev.hclk then driveLine l false s else modLine l (fun x => { x with lowers := x.level }) s

/-- All lines low. -/
def linesLow (s : State) : State := forAll (List.range 8) (fun l s => driveLine l false s) s

/-- Does an address lie outside the register window of the Evxus? -/
def notEv (a : Nat) : Bool := decide (a < evLo) || decide (evHi ≤ a)

/-- ev_rst_n: every register at its reset value with what the window holds and latches for the host, the page, the muster state,
time, lines, FIFO; the requests for a reflection fall (R154). What remains is what stands at the pins: the level of each link, the
reference clock, and an access the host still holds (R141). -/
def evReset (s : State) : State :=
  let s1 := forAll s.ev.loopback (fun p => emit (.pin (.laneLoopback p) false)) (linesLow s)
  let ups := s1.evx.ports.map (fun x => (x.1, x.2.linkUp))
  -- R171: HOP_UNC is 300 ps in every grade but the part grade.
  whenDo (s.straps.evGrade != 2#2) (wn A.EV_HOP_UNC 300) { s1 with
    regs := tkeep notEv s1.regs
    staged := tkeep notEv s1.staged
    host := { s1.host with latch := tkeep notEv s1.host.latch, lowHeld := tkeep notEv s1.host.lowHeld }
    evx := { clk := { oscOk := s1.evx.clk.oscOk }
             ports := (ups.filter (fun x => x.2)).map (fun x => (x.1, { linkUp := true })) }
    ev := { refclkOk := s1.ev.refclkOk, held := s1.ev.held }
    evMus := {} }

/-- EV_RST_N (R154). -/
def execEvRstN (s : State) : Answer := done (evReset s)

/-- SOFT_RST: lines, LINE_STAT, the FIFO, the RC counters, ARRIVE_STAT and the arrivals sent (R154). -/
def softReset (s : State) : State :=
  let s1 := forAll (List.range 8) lowerLine s
  let s2 := modEv (fun e => { e with
    lines := e.lines.map (fun x => { level := x.level, lowers := x.lowers }), fifo := [], arrSent := [] }) s1
  let s3 := forAll (List.range 8) (fun l s => wn (A.E_LINE_STAT l) 0 s) (wn A.E_ARRIVE_STAT 0 s2)
  clearRc evLo evHi s3

/-- SOFT_RST (R154). -/
def execSoftRst (s : State) : Answer := done (evHold .evxus .softRst softReset s)

/-- The page as staged: binding of a virtual reference, role of a tap (R166, R169). -/
def pageBind (s : State) (v : Nat) : Option Nat :=
  let t := bits (rdStaged s (A.EVU_SRC_CFG v)) 0 10
  if t = 0x3FF then none else some t
def pageRole (s : State) (p : Nat) : Nat := bits (rdStaged s (A.E_PORT_STAT p)) 0 2

/-- Is the staged page to be rejected: an upstream bound to a tap at or above EV_TAPS, a serving tap of an END, both
virtual references on one tap (R155)? -/
def pageBad (s : State) : Bool :=
  let a := pageBind s 0
  let b := pageBind s 1
  let overs (x : Option Nat) : Bool := match x with
    | some t => decide (s.straps.evTaps ≤ t)
    | none => false
  overs a || overs b || (a.isSome && a == b) ||
    (!s.straps.evRelay && (List.range s.straps.evTaps).any (fun p => pageRole s p == 1))

/-- A virtual reference is bound to a port or tap; a new binding starts its source afresh, which counts as its loss of activity
(R90, R98; log entry 18), and the monitor record of one that is unbound reads zero (R90). -/
def bindRef (n : Node) (v : Nat) (p : Option Nat) (s : State) : State :=
  if (nd s n).ref.bind.getD v none = p then s
  else
    let s1 := modRef n (fun r => { r with bind := r.bind.set v p }) (sourceLost n (4 + v) s)
    whenDo p.isNone (fun s => wn (nr n (A.V_SRC_MISS v) (A.EVU_SRC_MISS v)) 0 (modSrc n (4 + v) (fun _ => {}) s)) s1

/-- The role of code `c` (R88, R169). -/
def roleOf : Nat → PortRole
  | 1 => .serves
  | 2 => .follows
  | _ => .noTiming

/-- The staged page takes effect (R155, R105, R166). -/
def pageApply (s : State) : State :=
  let s1 := commitStaged evLo evHi (modEv (fun e => { e with commitPend := false }) s)
  let s2 := modEv (fun e => { e with
    node := BitVec.ofNat 20 (rn s1 A.EV_NODE), root := BitVec.ofNat 20 (rn s1 A.EV_ROOT)
    bound := (List.range 8).map (fun l => (flag s1 (A.E_LAUNCH_CFG l) 16, rf s1 (A.E_LAUNCH_CFG l) 0 6)) }) s1
  let s3 := forAll (List.range s.straps.evTaps) (fun p s => modPort .evxus p (fun x => { x with role := roleOf (pageRole s1 p) }) s) s2
  let s4 := bindRef .evxus 1 (pageBind s1 1) (bindRef .evxus 0 (pageBind s1 0) s3)
  modRef .evxus (fun r => { r with applyPend := some (tableStaged s1 .evxus, flag s1 A.EVU_CTRL 0) }) s4

/-- A page is rejected: nothing is applied, no commit waits any more, and PAGE_BAD is set (R155). -/
def pageReject (s : State) : State := setFlag A.EV_CTRL 2 (modEv (fun e => { e with commitPend := false }) s)

/-- PAGE_COMMIT: the page is rejected with PAGE_BAD, waits while a line is armed, or takes effect (R155). -/
def pageCommit (s : State) : State :=
  if pageBad s then pageReject s
  else if anyArmed s then modEv (fun e => { e with commitPend := true }) s
  else pageApply s

/-- PAGE_COMMIT (R155). -/
def execPageCommit (s : State) : Answer := done (evHold .evxus .pageCommit pageCommit s)

/-- A waiting commit takes effect once no line is armed, with the fields as they are staged then, unless these are to be rejected
(R155). -/
def pageCommitDue (s : State) : State :=
  if ¬ (s.ev.commitPend ∧ ¬ anyArmed s) then s
  else if pageBad s then pageReject s
  else pageApply s

/-- PAGE_COMMIT_APPLY (R155). -/
def execPageCommitApply (s : State) : Answer := done (pageCommitDue s)

/-- EV_UNLOCK: the key opens the expert page, any other value closes it (R164). -/
def evUnlock (v : Word) (s : State) : State := modEv (fun e => { e with unlocked := v == 0x4558#32 }) s

/-- EV_UNLOCK (R164). -/
def execEvUnlock (v : Word) (s : State) : Answer := done (evHold .evxus (.evUnlock v) (evUnlock v) s)

/-- No host-clock edge for 16 ns (R142). -/
def hclkLoss (s : State) : State :=
  if s.ev.hclk then
    setFlag A.EV_ERR_STAT 2 (modEv (fun e => { e with
      hclk := false, hclkPeriod := 0, hclkLost := some (now s .evxus) }) s)
  else s

/-- HCLK_LOSS (R142). -/
def execHclkLoss (s : State) : Answer := done (hclkLoss s)

/-- Did T pass while the host clock was absent (R157)? -/
def passedAbsent (s : State) (x : Line) : Bool :=
  x.armed.isSome && fullAtOrAfter (now s .evxus) x.full &&
    (match s.ev.hclkLost with
     | none => true
     | some l => fullAtOrAfter x.full l)

/-- EV_TB_LAT: cycles of ev_host_clk by which the time bus lags (R143). -/
abbrev tbLat : Nat := 3

/-- A rising edge of ev_host_clk at a fabric time, with the clock present: the time bus shows the edge TB_LAT before it, valid only
if the clock has been present since (R143). -/
def busEdge (t : BitVec 64) (s : State) : State :=
  let l := s.ev.busLast ++ [(t, s.evx.clk.valid, unsure s .evxus)]
  modEv (fun e => { e with
    bus := if tbLat < l.length then l.headD (t, false, false) else (ftAdd t (-(tbLat * e.hclkPeriod : Nat)), false, unsure s .evxus)
    busLast := if tbLat < l.length then l.drop 1 else l
    busNext := e.busNext + 5 * e.hclkPeriod }) s

/-- A cycle of the 1.25 GHz timing clock in fifths of 2^-16 ns. -/
abbrev busCycleLen : Nat := 262144

/-- The edges of ev_host_clk in one cycle of the Evxus' timing clock, three at most, by the measured period (R142, R143; log
entry 26). -/
def busCycle (s : State) : State :=
  let t := now64 s .evxus
  let edge (s : State) : State := whenDo (decide (s.ev.busNext < busCycleLen)) (busEdge (ftAdd t (s.ev.busNext / 5 : Nat))) s
  modEv (fun e => { e with busNext := e.busNext - busCycleLen }) (edge (edge (edge s)))

/-- 256 edges with periods in range, 0.3125 ns to 4.02 ns: the host clock is present, or goes on with a new period (R142). A line
that was to fall meanwhile falls. -/
def hclkPresent (period : Nat) (s : State) : State :=
  if period < 20480 ∨ 263454 < period then s
  else if s.ev.hclk then modEv (fun e => { e with hclkPeriod := period }) s
  else
    let s1 := modEv (fun e => { e with
      hclk := true, hclkPeriod := period, busLast := [], busNext := 0
      lines := e.lines.map (fun x => { x with missed := x.missed || passedAbsent s x, lowers := false }) }) s
    forAll ((List.range 8).filter (fun l => (lineOf s l).lowers)) (fun l s => driveLine l false s) (busEdge (now64 s .evxus) s1)

/-- HCLK_PRESENT (R142). -/
def execHclkPresent (period : Nat) (s : State) : Answer := done (hclkPresent period s)

/-- A LAUNCH as it is carried (R182). -/
def launchOf (m : Raw) : Launch where
  group := getBE m 12 1 % 64
  step := getBE m 16 8
  t := BitVec.ofNat 64 (getBE m 24 8)
  cut := BitVec.ofNat 64 (getBE m 32 8)
  degraded := bitsN (getBE m 13 1) 0 1 == 1
  floor := bitsN (getBE m 13 1) 2 1 == 1
  forced := bitsN (getBE m 13 1) 3 1 == 1
  roleEpoch := BitVec.ofNat 32 (getBE m 40 4)

/-- A line meets a second LAUNCH for the step it holds, with a different T (R381). -/
def lineConflict (l : Nat) (s : State) : State :=
  setFlag (A.E_LINE_STAT l) 4 (modLine l (fun x => { x with conflict := true }) s)

/-- Arm a line (R144, R150, R185). -/
def armLine (l : Nat) (x : Launch) (again : Bool) (s : State) : State :=
  let t := now64 s .evxus
  let late := decide (0 < ftDiff t x.t)
  let s1 := modLine l (fun y => { y with
    armed := some (x.step, x.t), full := widen s .evxus x.t, epoch := x.roleEpoch, late := late, missed := false, stalled := false
    conflict := again && y.conflict }) s
  let s2 := whenDo late (setFlag (A.E_LINE_STAT l) 2) s1
  whenDo (!s.ev.hclk) (setFlag A.E_WAKE_STAT 1) s2

/-- A LAUNCH at one line bound to its group (R185, R381). -/
def lineLaunch (x : Launch) (l : Nat) (s : State) : State :=
  let y := lineOf s l
  if ¬ (lineEnabled s l ∧ lineGroup s l = x.group) then s
  else if y.recorded ∧ x.step ≤ y.lastStep then
    (if x.step = y.lastStep ∧ y.lastT ≠ x.t then lineConflict l s else s)
  else if x.step = 0 then s
  else
    match y.armed with
    | some (st, t) =>
      if st = x.step then
        if t = x.t then s
        else if y.epoch.toNat < x.roleEpoch.toNat then armLine l x true (lineConflict l s)
        else lineConflict l s
      else armLine l x false s
    | none => armLine l x false s

/-- The taps on which the Evxus takes a LAUNCH: its two upstream taps (R183). -/
def isUpstream (s : State) (n : Node) (p : Nat) : Bool := (nd s n).ref.bind.any (fun b => b == some p)

/-- A LAUNCH reaches an Evxus (R183, R185). -/
def evLaunch (p : Nat) (m : Raw) (s : State) : State :=
  if isUpstream s .evxus p then forAll (List.range 8) (lineLaunch (launchOf m)) s
  else if s.straps.evRelay then s
  else bump A.E_FOREIGN_ARR s

/-- EV_LAUNCH_RECEIVE (R185). -/
def execEvLaunchReceive (p : Nat) (m : Raw) (s : State) : Answer := done (onMsg .evxus p tLaunch m (evLaunch p m) s)

/-- May a line assert on an edge at a fabric time (R144, R153)? -/
def lineDue (s : State) (t : BitVec 64) (l : Nat) : Bool :=
  match (lineOf s l).armed with
  | none => false
  | some _ => s.ev.hclk && s.ev.refclkOk && fullAtOrAfter (widen s .evxus t) (lineOf s l).full &&
    (!(lineOf s l).stalled || s.evx.clk.valid)

/-- A line asserts on an edge (R144, R153, R157, R186). -/
def assertLine (t : BitVec 64) (l : Nat) (s : State) : State :=
  let x := lineOf s l
  match x.armed with
  | none => s
  | some (st, t0) =>
    let dt := fullDiff (widen s .evxus t) x.full / 65536
    let missed := x.missed || (x.stalled && decide (0 < dt))
    let mode := rf s (A.E_LAUNCH_CFG l) 8 2
    let s1 := modLine l (fun x => { x with
      armed := none, lastStep := st, lastT := t0, recorded := true, edgeDt := dt
      lastLate := x.late || missed, late := false, missed := false, stalled := false
      pulseLeft := if mode = 0 then some (rf s (A.E_LAUNCH_CFG l) 12 4 + 1) else none }) s
    let s2 := whenDo missed (setFlag (A.E_LINE_STAT l) 3) s1
    driveLine l (if mode = 2 then !x.level else true) s2

/-- A rising edge of ev_host_clk at `phase` past now at which a line is due: it asserts, and with it the lines of its
group that the same LAUNCH armed (R144). -/
def launchAssert (l phase : Nat) (s : State) : State :=
  let t := ftAdd (now64 s .evxus) phase
  if ¬ lineDue s t l then s
  else
    forAll ((List.range 8).filter (fun k => k == l ||
      (lineDue s t k && lineGroup s k == lineGroup s l && (lineOf s k).armed == (lineOf s l).armed)))
      (fun k s => assertLine t k s) s

/-- LAUNCH_LINE_ASSERT (R144). -/
def execLaunchLineAssert (l phase : Nat) (s : State) : Answer := done (launchAssert l phase s)

/-- A pulse has had its WIDTH + 1 cycles; while the clock is absent the line holds its level (R144). -/
def pulseEnd (l : Nat) (s : State) : State :=
  if (lineOf s l).pulseLeft.isSome ∧ s.ev.hclk then driveLine l false (modLine l (fun x => { x with pulseLeft := none }) s)
  else s

/-- LAUNCH_PULSE_END (R144). -/
def execLaunchPulseEnd (l : Nat) (s : State) : Answer := done (pulseEnd l s)

/-- LAUNCH_CLR lowers the LEVEL lines whose bit is 1 (R144, R167). -/
def launchClr (v : Word) (s : State) : State :=
  forAll ((List.range 8).filter (fun l => bit v l && rf s (A.E_LAUNCH_CFG l) 8 2 == 1)) lowerLine s

/-- LAUNCH_CLR (R144). -/
def execLaunchClr (v : Word) (s : State) : Answer := done (evHold .evxus (.launchClr v) (launchClr v) s)

/-- The body of a single ARRIVE (R176), which is complete with its one member. -/
def arriveBody (group flags step node : Nat) (t : Stamp) : List Byte :=
  bodyOf [(12, toBE 1 group), (13, [0]), (14, toBE 1 (flags + 4)), (16, toBE 8 step), (24, stampBytes t),
    (36, toBE 8 t.ft.toNat), (44, toBE 4 1), (48, toBE 4 1), (52, toBE 4 (node * 4096))]

/-- Send one message on each upstream tap, with the PLANE flag of the tap (R175). -/
def sendUps (n : Node) (type : Nat) (body : Nat → List Byte) (s : State) : State :=
  forAll [0, 1] (fun v s => match (nd s n).ref.bind.getD v none with
    | some p => if (port s n p).linkUp then sendMsg n p type (body v) s else s
    | none => s) s

/-- An arrival is asked for at a line, with a stamp (R146). -/
def arriveAt (l : Nat) (t : Stamp) (s : State) : State :=
  let x := lineOf s l
  let g := lineGroup s l
  let st := x.lastStep + 1
  if ¬ nodeRuns s .evxus ∨ s.ev.outage ∨ x.armed.isSome ∨ (tget [] s.ev.arrSent g).contains st then setFlag A.E_ARRIVE_STAT 1 s
  else
    let fl := b2n x.lastLate * 2 + b2n x.conflict * 32
    let s1 := sendUps .evxus tArrive (fun v => arriveBody g (fl + v) st (nodeId s .evxus) t) s
    setFlag A.E_ARRIVE_STAT 0 (modEv (fun e => { e with arrSent := tmod [] e.arrSent g (fun l => st :: l) }) s1)

/-- The stamp of an edge of ev_host_clk (R145, R142): one period, and 200 ps or 500 ps. -/
def hclkStamp (t : BitVec 64) (s : State) : Stamp :=
  stampAt s .evxus t ((s.ev.hclkPeriod * 1000 + 65535) / 65536 + (if s.straps.evGrade = 2#2 then 200 else 500))

/-- A write of ARRIVE: GO and the line (R146, R167). -/
def arriveWrite (v : Word) (s : State) : State :=
  if bit v 31 then arriveAt (bits v 0 3) (hclkStamp (now64 s .evxus) s) s else s

/-- ARRIVE (R146). -/
def execArrive (v : Word) (s : State) : Answer := done (evHold .evxus (.arrive v) (arriveWrite v) s)

/-- Replace the latest entry of an input. -/
def mergeLast (i : Nat) (irq : Bool) : List EvtEntry → List EvtEntry
  | [] => []
  | x :: r =>
    if x.input = i ∧ ¬ r.any (fun y => y.input == i) then
      { x with merge := min (x.merge + 1) 255, irq := x.irq || irq } :: r
    else x :: mergeLast i irq r

/-- An accepted edge goes to the FIFO: an entry, a merge, or a loss (R145). -/
def evtPush (i : Nat) (falling irq : Bool) (t : Stamp) (s : State) : State :=
  let q := s.ev.evtSeq
  let fill := s.ev.fifo.length
  let s1 := modEv (fun e => { e with evtSeq := q + 1 }) s
  if 60 < fill ∧ s.ev.fifo.any (fun x => x.input == i) then
    bump A.E_EVT_MERGED (modEv (fun e => { e with fifo := mergeLast i irq e.fifo }) s1)
  else if fill < 64 then
    modEv (fun e => { e with fifo := e.fifo ++ [⟨i, falling, q, 0, t, irq⟩] }) s1
  else setFlag A.EV_ERR_STAT 5 (bump A.E_EVT_OVF s1)

/-- Does EVT_CFG take the edge (R168)? -/
def edgeTaken (s : State) (i : Nat) (falling : Bool) : Bool := flag s (A.E_EVT_CFG i) (if falling then 2 else 1)

/-- An edge that has passed the filter of an event input, captured at an edge of ev_host_clk `phase` past now (R145,
R146). -/
def eventEdge (i : Nat) (falling : Bool) (phase : Nat) (s : State) : State :=
  if ¬ (i < 16 ∧ nodeRuns s .evxus ∧ s.ev.hclk ∧ edgeTaken s i falling) then s
  else
    let t := hclkStamp (ftAdd (now64 s .evxus) phase) s
    let c := A.E_EVT_CFG i
    let s1 := evtPush i falling (flag s c 8) t s
    let s2 := whenDo (flag s c 9) (setFlag A.E_WAKE_STAT 2) s1
    whenDo (flag s c 15) (arriveAt (rf s c 12 3) t) s2

/-- EVENT_EDGE (R145). -/
def execEventEdge (i : Nat) (falling : Bool) (phase : Nat) (s : State) : Answer := done (eventEdge i falling phase s)

/-- EVT_POP word 0 of an entry (R168). -/
def evtWord0 (e : EvtEntry) : Word :=
  packW [(e.seq.toNat, 0), (e.merge, 16), (e.input, 24), (b2n e.falling, 30), (1, 31)]

/-- A read of EVT_POP word 0 pops the head, returns it and latches the stamp record (R168). -/
def evtPop (s : State) : State :=
  let x := s.ev.fifo.head?
  modEv (fun e => { e with fifo := e.fifo.tail, popped := x })
    { s with host := { s.host with rdata := (match x with | some e => evtWord0 e | none => 0).setWidth 64 } }

/-- EVT_POP (R168). -/
def execEvtPop (s : State) : Answer := done (evHold .evxus .evtPop evtPop s)

/-- What WAKE_AT takes from a write of its high word: the low word that the host has written before it, if any, goes with it, and
nanoseconds past their range take its limit (R150, R440, R472). -/
def wakeValue (v : Word) (s : State) : BitVec 64 :=
  ftClamp (v ++ (tget none s.host.lowHeld A.E_WAKE_AT).getD (rd s A.E_WAKE_AT))

/-- A write of the high word of WAKE_AT arms the timer (R150). -/
def wakeAt (v : Word) (s : State) : State :=
  let f := wakeValue v s
  let s1 := { s with host := { s.host with lowHeld := tset none s.host.lowHeld A.E_WAKE_AT none } }
  modEv (fun e => { e with wakeArmed := true, wakeDue := widen s .evxus f })
    (wr (A.E_WAKE_AT + 4) (wordAt f.toNat 1) (wr A.E_WAKE_AT (wordAt f.toNat 0) s1))

/-- WAKE_AT (R150). -/
def execWakeAt (v : Word) (s : State) : Answer := done (evHold .evxus (.wakeAt v) (wakeAt v) s)

/-- At the armed fabric time WAKE_TIMER is set, once (R150). -/
def wakeTimer (s : State) : State :=
  if s.ev.wakeArmed ∧ s.ev.refclkOk ∧ fullAtOrAfter (now s .evxus) s.ev.wakeDue then
    setFlag A.E_WAKE_STAT 3 (modEv (fun e => { e with wakeArmed := false }) s)
  else s

/-- WAKE_TIMER (R150). -/
def execWakeTimer (s : State) : Answer := done (wakeTimer s)

/-- The one-step stamp is filled into beats 1 and 2 of a SYNC or a REQ, and the CRC follows (R147, R52, R54). -/
def fillStamp (t : Stamp) (m : Raw) : Raw :=
  let b := putAt (m.take 60) 12 (stampBytes t)
  if mType m = tSync ∨ mType m = tReq then b ++ toBE 4 (crc32 b) else m

/-- The PCS accepts beat 0 of a message: the block stamps it; the request of the exchange in progress keeps the stamp as
t3 (R147, R62). A message that is not whole stays on the beats. -/
def tapTx (p : Nat) (m : Raw) (s : State) : State :=
  if ¬ (nodeRuns s .evxus ∧ (port s .evxus p).linkUp) then s
  else if m.length ≠ 64 then modEv (fun e => { e with taps := tmod {} e.taps p (fun x => { x with tx := some m }) }) s
  else
    let t := txStamp s .evxus p 0
    let s1 := modPort .evxus p (fun x => { x with exch := x.exch.map (fun y =>
      { y with req := match y.req with
        | some (q, t3) => some (q, if mType m = tReq ∧ q = mSeq m then t else t3)
        | none => none }) }) s
    emit (.msg .evxus p (fillStamp t m)) s1

/-- TAP_TX_SOF (R147); the transmit latency is fixed, and there is no transmit barrel (R148). -/
def execTapTxSof (p _barrel : Nat) (m : Raw) (s : State) : Answer := done (tapTx p m s)

/-- TAP_ORPHAN (R147); a node out of service discards without counting (R153). -/
def execTapOrphan (p : Nat) (s : State) : Answer := done (if nodeRuns s .evxus then tapOrphan p s else s)

/-- A write of TX_LAT, RX_LAT or UI_FS of a tap, under unlock: ASYM_VALID is cleared (R149, R171). -/
def tapLat (p which : Nat) (v : Word) (s : State) : State :=
  let a := match which with
    | 0 => A.E_TX_LAT p
    | 1 => A.E_RX_LAT p
    | _ => A.E_UI_FS p
  if ¬ (p < 64 ∧ which < 3) then s
  else onEvExpert a (fun s => portLost .evxus p (modPort .evxus p (fun x => { x with asymValid := false }) (wr a v s))) s

/-- TAP_LAT_WRITE (R149). -/
def execTapLatWrite (p which : Nat) (v : Word) (s : State) : Answer :=
  done (evHold .evxus (.tapLatWrite p which v) (tapLat p which v) s)

/-- Loss of ev_refclk: REFCLK_LOSS, VALID cleared, no stamping, messages or events until READY; armed lines wait for
VALID (R153). Whether the PLL loses its lock with it is free (log entry 26). -/
def refclkLoss (s : State) : State :=
  if ¬ s.ev.refclkOk then s
  else
    let (v, s0) := takeFree s
    let s1 := setFlag A.EV_ERR_STAT 0 (modEv (fun e => { e with
      ready := false, refclkOk := false, outage := true, lockLost := v % 2 == 1
      lines := e.lines.map (fun x => { x with stalled := x.armed.isSome }) }) s0)
    uncUpdate .evxus (modClk .evxus (fun c => { c with valid := false, oscOk := false }) s1)

/-- REFCLK_LOSS (R153). -/
def execRefclkLoss (s : State) : Answer := done (refclkLoss s)

/-- The PLL has relocked after a loss: PLL_UNLOCK if the lock had been lost, and the node takes its acquisition step anew (R153,
R70). -/
def pllRelock (s : State) : State :=
  if s.ev.refclkOk then s
  else
    let s1 := whenDo s.ev.lockLost (setFlag A.EV_ERR_STAT 1) (modEv (fun e => { e with refclkOk := true, lockLost := false }) s)
    modSvo .evxus (fun v => { v with
      acquired := false, overs := [], under := 0, change := none, jumpPending := false, grant := false
      grantDeferred := false })
      (modClk .evxus (fun c => { c with oscOk := true, causeJump := false }) s1)

/-- EV_PLL_RELOCK (R153). -/
def execEvPllRelock (s : State) : Answer := done (pllRelock s)

end Sys2Proof.Machine
end

