-- ==== Sys2Proof/Machine/Fstep.lean ====
section
/-! DEFINITION. Frequency steps of the reduce dies (R424 to R427), the condition bins (R411), the power cap. -/

namespace Sys2Proof.Machine

/-- Change the clock side of the package, and of a die. -/
def modClks (f : ClkSt → ClkSt) (s : State) : State := { s with clks := f s.clks }
def modClkDie (d : Nat) (f : DieClk → DieClk) (s : State) : State :=
  modClks (fun c => { c with dies := tmod {} c.dies d f }) s

/-- CAP_STEP (R427). -/
def capStep (s : State) : Nat := rf s A.PWR_CAP 0 3

/-- The floor of a reduce die (R425): the highest F_SCHED of its committed tables. -/
def dieFloor (s : State) (dx : Nat) : Nat :=
  (s.cfg.seqs.filter (fun e => e.1 / 4 == dx)).foldl (fun m e => max m e.2.table.fSched) 0

/-- The target of a reduce die (R425): CAP_STEP, or the fence of its current bin where that is lower. -/
def dieTarget (s : State) (dx : Nat) : Nat :=
  let k := condFence s (s.hl.bins.getD dx 0)
  if k = 0 then capStep s else min (capStep s) k

/-- FLOOR and TARGET take their current values; a target below the floor sets CAP_BLOCKED (R425, R199). -/
def fstepInputs (dx : Nat) (s : State) : State :=
  if ¬ reduceDie s dx then s
  else
    let f := dieFloor s dx
    let t := dieTarget s dx
    whenDo (decide (t < f)) (setFlag A.SCH_STAT 9) (modClkDie (5 + dx) (fun c => { c with floor := f, target := t }) s)

/-- Both reduce dies. -/
def fstepAll (s : State) : State := fstepInputs 1 (fstepInputs 0 s)

/-- The sequencers of a die. -/
def dieSeqs (dx : Nat) : List Nat := (List.range 4).map (fun i => dx * 4 + i)
def anyRunning (s : State) (dx : Nat) : Bool := (dieSeqs dx).any (fun q => decide ((seqOf s q).state = .running))
def dieIdle (s : State) (dx : Nat) : Bool := (dieSeqs dx).all (fun q => decide ((seqOf s q).state = .idle))

/-- Is an UPD, ERS or DMA engine of the die busy (R272)? -/
def workBusy (s : State) (dx : Nat) : Bool :=
  s.die.engines.any (fun e => e.1 / 108 == dx && (match e.1 % 108 with
    | k => (decide (0x48 ≤ k) && decide (k < 0x4C)) || (decide (0x54 ≤ k) && decide (k < 0x68))) && e.2.state == .busy)

/-- The step that R425 asks for; `idle` says that no DMA, UPD or ERS engine has been busy for 10 ms. -/
def stepWanted (s : State) (dx : Nat) (idle : Bool) : Nat :=
  let c := clkDie s (5 + dx)
  if c.floor = 0 ∧ idle ∧ ¬ workBusy s dx then 0 else max c.floor c.target

/-- May a change to a step begin (R426)? A rise that a COMMIT needs waits for no RUNNING sequencer, any other change for every
sequencer IDLE. -/
def stepMay (s : State) (dx step : Nat) : Bool :=
  let c := clkDie s (5 + dx)
  !c.changing && !c.tripped && !c.heldReset && step != c.fstep && !anyRunning s dx &&
    (dieIdle s dx || decide (c.fstep < c.floor))

/-- A change of step begins (R425, R426). -/
def fstepStart (dx : Nat) (idle : Bool) (s : State) : State :=
  let s1 := fstepInputs dx s
  let n := stepWanted s1 dx idle
  if reduceDie s1 dx ∧ stepMay s1 dx n then modClkDie (5 + dx) (fun c => { c with changing := true, nextStep := n }) s1 else s1

/-- FSTEP_CHANGE_START (R426). -/
def execFstepChangeStart (die : Nat) (idle : Bool) (s : State) : Answer :=
  done (if 5 ≤ die ∧ die < 7 then fstepStart (die - 5) idle s else s)

/-- The change ends: FSTEP and FSTEP_CHG (R426). -/
def fstepDone (die : Nat) (s : State) : State :=
  if (clkDie s die).changing then
    bump (A.FSTEP_CHG die) (modClkDie die (fun c => { c with changing := false, fstep := c.nextStep }) s)
  else s

/-- A write of PWR_CAP; a CAP_STEP of 0 is ignored (R427, R435). -/
def pwrCap (v : Word) (s : State) : State := if bits v 0 3 = 0 then s else fstepAll (wn A.PWR_CAP (bits v 0 3) s)

/-- PWR_CAP (R427). -/
def execPwrCap (v : Word) (s : State) : Answer := done (pwrCap v s)

/-- A write of COND_FENCE[b] (R412). -/
def condFenceWrite (b : Nat) (v : Word) (s : State) : State :=
  if b < 32 then fstepAll (wn (A.COND_FENCE b) (bits v 0 3) s) else s

/-- COND_FENCE (R412). -/
def execCondFence (b : Nat) (v : Word) (s : State) : Answer := done (condFenceWrite b v s)

/-- The package budget of a step in W (R424). -/
def packageBudget (variant step : Nat) : Nat :=
  match variant with
  | 0 => 1430 + (if step = 0 then 0 else 80 + 20 * step)
  | 1 => 709 + (if step = 0 then 0 else 40 + 10 * step)
  | _ => 290

/-- PKG_POWER has stayed above the budget of CAP_STEP for 1 s; `w` is its value in 0.1 W (R427). -/
def overCap (w : Nat) (s : State) : State :=
  if packageBudget s.straps.variant (capStep s) * 10 < w then raiseFlag A.CLK_STAT 2 0 13 s else s

/-- OVER_CAP (R427). -/
def execOverCap (w : Nat) (s : State) : Answer := done (overCap w s)

/-! Condition bins (R411). -/

/-- tbin of a temperature in 0.1 °C. -/
def tbinOf (tj : Int) : Nat := if tj < 450 then 0 else min 7 ((tj - 450).toNat / 100 + 1)

/-- The next temperature bin: a boundary counts once it is crossed by 2 °C. -/
def tbinNext (was : Nat) (tj : Int) : Nat :=
  if was < tbinOf (tj - 20) then tbinOf (tj - 20)
  else if tbinOf (tj + 19) < was then tbinOf (tj + 19)
  else was

/-- lbin of a busy share in per cent. -/
def lbinOf (load : Nat) : Nat := if load < 25 then 0 else if load < 50 then 1 else if load < 75 then 2 else 3

/-- A reduce die's condition bin after a measurement. -/
def binTake (dx : Nat) (tj : Int) (load : Nat) (s : State) : State :=
  let b := 4 * tbinNext (s.hl.bins.getD dx 0 / 4) tj + lbinOf load
  fstepInputs dx { s with hl := { s.hl with bins := s.hl.bins.set dx b } }

end Sys2Proof.Machine
end

