-- ==== Sys2Proof/Machine/Dma.lean ====
section
/-! DEFINITION. Commands on the DMA engines (12): DMA_START, DMA_BURST, DMA_DESC_DONE, DMA_PREEMPT, DMA_PREEMPT_STOP,
DMA_RESTART. A command names DMA engine 0x58 + `k` by `k`. -/

namespace Sys2Proof.Machine

/-- A word of a descriptor (R312). -/
def dw (d : List Word) (i : Nat) : Word := d.getD i 0

/-- The fields of a descriptor (R312). -/
def dOp (d : List Word) : Nat := bits (dw d 0) 28 4
def dLast (d : List Word) : Bool := bit (dw d 0) 27
def dTake (d : List Word) : Bool := bit (dw d 0) 26
def dSrcKind (d : List Word) : Nat := bits (dw d 0) 22 2
def dDstKind (d : List Word) : Nat := bits (dw d 0) 20 2
def dLen (d : List Word) : Nat := (dw d 1).toNat
def dSrc (d : List Word) : Nat := (dw d 2).toNat + 2 ^ 32 * (dw d 3).toNat
def dDst (d : List Word) : Nat := (dw d 4).toNat + 2 ^ 32 * (dw d 5).toNat
def dSrcSeg (d : List Word) : Nat := bits (dw d 6) 24 8
def dDstSeg (d : List Word) : Nat := bits (dw d 6) 16 8
def dWaitRef (d : List Word) : Nat := bits (dw d 8) 16 16
def dWaitVal (d : List Word) : Nat := bits (dw d 8) 0 16
def dSigRef (d : List Word) : Nat := bits (dw d 9) 16 16
def dSigDelta (d : List Word) : Int := sgn 16 (bits (dw d 9) 0 16)

/-- Does the descriptor move data (COPY or FILL)? -/
def dData (d : List Word) : Bool := decide (dOp d ≤ 1)

/-- Does a bank range cross a bank boundary, or lie outside the die's SRAM (R275, R313)? -/
def bankCross (a n : Nat) : Bool := decide (a / 2 ^ 19 ≠ (a + n - 1) / 2 ^ 19) || decide (2 ^ 27 ≤ a)

/-- The targets a REGWRITE may have: BANK_OWNER records of this die, TALLY_CMD and TALLY_CMD_VAL (R312). -/
def regwriteOk (off : Nat) : Bool :=
  (decide (0x81000 ≤ off) && decide (off < 0x82000) && off % 16 == 0) || off == 0xC0008 || off == 0xC0004

/-- The space of a source or destination: two ranges overlap only in one space (R313). -/
def dSpace (kind : Nat) : Nat := kind

/-- The checks of R313: is the descriptor bad? `sched` says whether the chain is a scheduled one. -/
def descBad (s : State) (dx k : Nat) (sched : Bool) (d : List Word) : Bool :=
  let op := dOp d
  let part := engPart s dx (0x58 + k)
  let sk := dSrcKind d
  let dk := dDstKind d
  let n := dLen d
  let foreignRef (r : Nat) : Bool := refIdx r != 63 && engPart s (refDie r) (refEng r) != part
  decide (op > 4) || bits (dw d 0) 24 2 != 0 || bits (dw d 0) 0 20 != 0 || dw d 10 != 0 || dw d 11 != 0 ||
    dw d 14 != 0 || dw d 15 != 0 || bits (dw d 6) 0 16 != 0 || bits (dw d 13) 26 5 != 0 || bits (dw d 13) 8 6 != 0 ||
    sk == 3 || (dData d && n == 0) ||
    (op == 0 && sk == 1 && bankCross (dSrc d) n) ||
    (dData d && (dk == 1 || dk == 3) && bankCross (dDst d) n) ||
    !refForm s (dWaitRef d) || !refForm s (dSigRef d) ||
    (refIdx (dWaitRef d) != 63 && refDie (dWaitRef d) != dx) ||
    (sched && (foreignRef (dWaitRef d) || foreignRef (dSigRef d) ||
      (op == 4 && gatePart s dx (bits (dw d 7) 0 4) != part) ||
      (op == 0 && sk == 2 && segPart s dx (dSrcSeg d) != part) ||
      (dData d && dk == 2 && segPart s dx (dDstSeg d) != part))) ||
    (op == 0 && dSpace sk == dSpace dk && decide (dSrc d < dDst d + n) && decide (dDst d < dSrc d + n)) ||
    (op == 2 && !regwriteOk (dDst d))

/-- A descriptor begins (R303, R306, R313): its checks, then its wait unless WAIT_DONE is set, then, of a GATE, its gate. -/
def descBegin (dx k : Nat) (d : List Word) (s : State) : State :=
  let x := dmaOf s dx k
  let gen (ref : Nat) : BitVec 8 := if refIdx ref < 48 then genSeen s dx ref else 0
  let s1 := modDma dx k (fun x => { x with
    desc := some ⟨d⟩, sigGen := gen (dSigRef d), regGen := gen (bits (dw d 7) 0 16), gateDone := false }) s
  if descBad s dx k x.sched d then dmaStop dx k 2 (modDma dx k (fun x => { x with bytes := 0 }) s1)
  else if x.waitDone ∨ refIdx (dWaitRef d) = 63 then
    descArrive dx (0x58 + k) (modDma dx k (fun x => { x with state := .running, waitDone := true }) s1)
  else
    tallyWait (tallyKey (dWaitRef d)) (0x58 + k) (dTake d) (dWaitVal d)
      (modDma dx k (fun x => { x with state := .waiting }) s1)

/-- The progress of a descriptor as its words 12 and 13 hold it (R312, R316). -/
def descProgress (d : List Word) (x : Dma) : Dma :=
  { x with bytes := (dw d 12).toNat, waitDone := bit (dw d 13) 15, sigDone := bit (dw d 13) 14 }

/-- DMA engines with bursts outstanding on a segment (R292): one that RUNS a descriptor whose data is not all moved, and that names
the segment as its source or destination, has one (DESIGN CHOICE: bursts in flight are no other state; log entry 58). -/
def segOutstanding (s : State) (dx i : Nat) : Nat :=
  ((List.range 16).filter (fun k =>
    let x := dmaOf s dx k
    match x.desc with
    | some ⟨d⟩ => decide (x.state = .running) && dData d && decide (x.bytes < dLen d) &&
        ((dOp d == 0 && dSrcKind d == 2 && dSrcSeg d == i) || (dDstKind d == 2 && dDstSeg d == i))
    | none => false)).length

/-- The descriptor with which a host chain starts or goes on: it begins, where its words 12 and 13 left it if it had begun; where the
fetch fails the chain stops with HOST, and what PCIe reports counts (R311, R314, R316, R453). -/
def chainFetched (dx k : Nat) (d : Option (List Word)) (s : State) : State :=
  match d with
  | some d => descBegin dx k d (whenDo (dmaOf s dx k).desc.isSome (modDma dx k (descProgress d)) s)
  | none => dmaHalt dx k 6 (pcieFail s)

/-- A chain is started or restarted: while the clock of its die stands still the engine stalls, and begins when it runs again (R426). -/
def chainBegin (dx k : Nat) (d : Option (List Word)) (s : State) : State :=
  if coreOn s dx then chainFetched dx k d s else modDma dx k (fun x => { x with state := .waiting, fetched := some d }) s

/-- The clock of a reduce die runs again: what its DMA engines have held begins (R426). -/
def chainsGoOn (dx : Nat) (s : State) : State :=
  if coreOn s dx then
    forAll (List.range 16) (fun k s =>
      match (dmaOf s dx k).fetched with
      | some d => chainFetched dx k d (modDma dx k (fun x => { x with fetched := none }) s)
      | none => s) s
  else s

/-- START of a host chain: refused, with WR_IGN and no ticket, when the engine is not IDLE or a committed slot table names
it (R311, R442), and when it is bound to no partition, since it executes nothing then (R273; DEDUCED, log entry 31). -/
def dmaStart (dx k : Nat) (d : Option (List Word)) (s : State) : State :=
  let x := dmaOf s dx k
  if x.state ≠ .idle ∨ dmaScheduled s dx k ∨ engPart s dx (0x58 + k) = 0xFF then raiseFlag (A.DMA_STAT dx k) 6 k 12 s
  else
    match nextTicket s with
    | none => raiseFlag (A.DMA_STAT dx k) 6 k 12 (noTicket s)
    | some t =>
      let s1 := issueAs t 24 (A.DMA_TICKET dx k) .running s
      let s2 := modEng dx (0x58 + k) (fun e => { e with state := .busy }) s1
      chainBegin dx k d (modDma dx k (fun _ => { host := true, cur := rn64 s (A.DMA_CHAIN dx k), ticket := some t }) s2)

/-- DMA_START: `d` is the first descriptor as the engine fetches it; none where the fetch fails, which is HOST (R311, R314). -/
def execDmaStart (die k : Nat) (d : Option (List Word)) (s : State) : Answer :=
  done (onReduce die (A.DMA_CTRL (die - 5) k) (fun dx s => dmaStart dx (k % 16) d s) s)

/-- The length of the next burst: at most 256 bytes, never across a 4 KiB boundary of bytes done (R313). -/
def burstLen (x : Dma) (n : Nat) : Nat := min (min 256 (n - x.bytes)) (4096 - x.bytes % 4096)

/-- The FILL word repeated over a burst that begins `from_` bytes into the range. -/
def fillBytes (w : Word) (from_ n : Nat) : List Byte :=
  (List.range n).map (fun i => BitVec.ofNat 8 (w.toNat >>> (8 * ((from_ + i) % 4))))

/-- A burst's source: the bytes, or STATUS, cause and number of what refused it (R280, R291). -/
def burstRead (s : State) (dx k : Nat) (host : Bool) (d : List Word) (done_ len : Nat) (got : List Byte) :
    Except (Nat × Nat × Nat) (List Byte) :=
  let who := 0x58 + k
  let a := dSrc d + done_
  if dOp d = 1 then .ok (fillBytes (dw d 7) done_ len)
  else match dSrcKind d with
    | 0 => .ok ((got ++ List.replicate len 0).take len)
    | 1 =>
      match bankAccess s dx (a / 2 ^ 19) who with
      | some c => .error (4, c, a / 2 ^ 19)
      | none => .ok (getBytes s.die.sram (dx * 2 ^ 27 + a) len)
    | _ =>
      match segCheck s dx (dSrcSeg d) host (engPart s dx who) false a len with
      | some c => .error (3, c, dSrcSeg d)
      | none => .ok (getBytes s.die.stack a len)

/-- A burst's destination: the state after it, or what refused it (R280, R291, R312). -/
def burstWrite (s : State) (dx k : Nat) (host : Bool) (d : List Word) (done_ : Nat) (b : List Byte) :
    Except (Nat × Nat × Nat) State :=
  let who := 0x58 + k
  let a := dDst d + done_
  match dDstKind d with
  | 0 => .ok (emit (.hostWrite (BitVec.ofNat 64 a) b) s)
  | 1 =>
    match bankAccess s dx (a / 2 ^ 19) who with
    | some c => .error (4, c, a / 2 ^ 19)
    | none => .ok (modDie (fun x => { x with sram := putBytes (dx * 2 ^ 27 + a) b x.sram }) s)
  | 2 =>
    match segCheck s dx (dDstSeg d) host (engPart s dx who) true a b.length with
    | some c => .error (3, c, dDstSeg d)
    | none => .ok (modDie (fun x => { x with stack := putBytes a b x.stack }) s)
  | _ =>
    let y := bankOf s (1 - dx) (a / 2 ^ 19)
    if bankBusy s (1 - dx) (a / 2 ^ 19) ∨ ¬ reduceDie s (1 - dx) ∨ 0x6C ≤ y.owner ∨ engPart s (1 - dx) y.owner = 0xFF ∨
        engPart s (1 - dx) y.owner ≠ engPart s dx who then
      .error (4, if bankBusy s (1 - dx) (a / 2 ^ 19) then 3 else 1, a / 2 ^ 19)
    else .ok (modDie (fun x => { x with sram := putBytes ((1 - dx) * 2 ^ 27 + a) b x.sram }) s)

/-- An engine is a member no more, or is pre-empted: a FILLING gate that it is a member of breaks, and its own arrival is not released
ORPHANED (R308). `o` holds the masks under which it is a member. -/
def gateLeave (o : State) (dx e : Nat) (s : State) : State :=
  forAll ((List.range 16).filter (fun g => (gateMask o dx g).getLsbD e && (gateOf s dx g).arrived != 0))
    (fun g s =>
      let s1 := modGate dx g (fun x => { x with arrived := x.arrived &&& ~~~ BitVec.ofNat 128 (2 ^ e) }) s
      if (gateOf s1 dx g).arrived = 0 then
        raiseFlag (A.GATE_STAT dx g) 3 g 12 (modGate dx g (fun x => { x with gen := x.gen + 1 }) s1)
      else gateBreak dx g 1 s1) s

/-- An engine whose pre-emption takes effect leaves its gates, and its tallies are cleared (R301, R308, R315). -/
def preemptLeave (dx k : Nat) (s : State) : State := clearEngTallies dx (0x58 + k) (gateLeave s dx (0x58 + k) s)

/-- A descriptor stops in a fault; one that comes while pre-emption is pending takes its place, and the tallies are then cleared
(R314, R315). -/
def dmaFail (dx k status : Nat) (s : State) : State :=
  whenDo (dmaOf s dx k).preempt (preemptLeave dx k) (dmaStop dx k status s)

/-- A burst fails, or, with no descriptor, a fetch: DMA_FAULT_INFO, the records of the segment or the bank, and the chain stops
(R291, R314). -/
def burstFail (dx k : Nat) (d : List Word) (st cause num : Nat) (write : Bool) (s : State) : State :=
  let x := dmaOf s dx k
  let who := if x.host then 0xFF else 0x58 + k
  let s1 := modDma dx k (fun x => { x with faultInfo := BitVec.ofNat 32 (cause * 2 ^ 24 + num) }) s
  let s2 :=
    if st = 3 then segViol dx num cause who write (if d.isEmpty then x.cur else (if write then dDst d else dSrc d) + x.bytes) s1
    else if st = 4 then bankRefuse (if write ∧ dDstKind d = 3 then 1 - dx else dx) num cause (0x58 + k) s1
    else s1
  dmaFail dx k st s2

/-- Errors that a burst's source corrected: of a bank's lines in SRAM_CE (R277), of a stack in STK_CE (R288). -/
def sourceCe (dx : Nat) (d : List Word) (done_ n : Nat) (s : State) : State :=
  if dOp d ≠ 0 then s
  else if dSrcKind d = 1 then forAll (List.replicate n ()) (fun _ s => bankCe dx ((dSrc d + done_) / 2 ^ 19 % 256) s) s
  else if dSrcKind d = 2 then
    stkCe dx (dSrc d / 2 ^ 37 % 2) n s
  else s

/-- An uncorrectable error of the source of a burst of `n` bytes (R277, R288): the stack's, or the bank line of the burst that it is in. -/
def sourceUe (dx : Nat) (d : List Word) (done_ n line : Nat) (s : State) : State :=
  let a := dSrc d + done_
  if dOp d ≠ 0 then s
  else if dSrcKind d = 2 then stkUe dx (dSrc d / 2 ^ 37 % 2) s
  else if dSrcKind d = 1 then lineUe dx (min (a / 64 + line) ((a + n - 1) / 64)) s
  else s

/-- A burst of the descriptor in hand: `got` is what a PCIe read returned; the source answers 0, 5 MEM where it returned an
uncorrectable error, or 6 HOST where a PCIe access failed, and the lines or units that it corrected (R277, R288, R313, R314, R453). -/
def dmaBurst (dx k : Nat) (got : List Byte) (ends : BurstEnd) (s0 : State) : State :=
  let x := dmaOf s0 dx k
  match x.state, x.desc with
  | .running, some ⟨d⟩ =>
    if ¬ dData d ∨ dLen d ≤ x.bytes ∨ (x.preempt ∧ x.bytes % 4096 = 0 ∧ x.bytes ≠ 0) then s0
    else
      let n := burstLen x (dLen d)
      let s := sourceCe dx d x.bytes ends.ce s0
      match burstRead s dx k x.host d x.bytes n got with
      | .error (st, c, i) => burstFail dx k d st c i false s
      | .ok b =>
        if ends.err = 5 ∨ ends.err = 6 then
          dmaFail dx k ends.err (if ends.err = 5 then sourceUe dx d x.bytes n ends.line s else pcieFail s)
        else
          match burstWrite s dx k x.host d x.bytes b with
          | .error (st, c, i) => burstFail dx k d st c i true s
          | .ok s1 => modDma dx k (fun x => { x with bytes := x.bytes + n }) s1
  | _, _ => s0

/-- DMA_BURST (R313). -/
def execDmaBurst (die k : Nat) (got : List Byte) (ends : BurstEnd) (s : State) : Answer :=
  done (onCore die (A.DMA_STAT (die - 5) k) (fun dx s => dmaBurst dx (k % 16) got ends s) s)

/-- The REGWRITE of a descriptor (R312): a BANK_OWNER record, TALLY_CMD or TALLY_CMD_VAL. A signal given so is the engine's own: it
carries the GEN seen when the descriptor began, and stays in the partition (R298, R303, R304). SET, CLEAR_ERR and CLEAR are the
host's alone (R297): from an engine they are commands that are ignored (DESIGN CHOICE, log entry 57). -/
def dmaRegwrite (dx k : Nat) (d : List Word) (s : State) : State :=
  let off := dDst d
  let v := dw d 7
  if off = 0xC0004 then wf (A.TALLY_CMD_VAL dx) 0 16 (bits v 0 16) s
  else if off = 0xC0008 then
    let ref := bits v 0 16
    if ¬ refTally s ref then raiseFlag (A.TALLY_STAT dx) 6 0 12 s
    else
      match bits v 28 4 with
      | 1 => signalOut (srcOf dx (0x58 + k)) ref (dmaOf s dx k).regGen (sgn 16 (rf s (A.TALLY_CMD_VAL dx) 0 16)) s
      | _ => raiseFlag (A.TALLY_STAT dx) 6 0 12 s
  else ownerWrite dx ((off - 0x81000) / 16 % 256) (0x58 + k) (bits v 0 8) s

/-- Has the work of the descriptor in hand ended, its signal and write-back apart? -/
def descComplete (d : List Word) (x : Dma) : Bool :=
  x.waitDone && (if dData d then decide (dLen d ≤ x.bytes) else if dOp d = 4 then x.gateDone else true)

/-- The signal of a completed descriptor, unless SIG_DONE is set (R313, R298). -/
def descSignal (dx k : Nat) (d : List Word) (s : State) : State :=
  let x := dmaOf s dx k
  let s1 := modDma dx k (fun x => { x with sigDone := true }) s
  if x.sigDone ∨ refIdx (dSigRef d) = 63 then s1
  else signalOut (srcOf dx (0x58 + k)) (dSigRef d) x.sigGen (dSigDelta d) s1

/-- The words of a descriptor of a scheduled chain, in region 3 under the set-up's segment (R311). -/
def stackDesc (s : State) (a : Nat) : List Word :=
  (List.range 16).map (fun i => BitVec.ofNat 32 (ofLE (getBytes s.die.stack (a + 4 * i) 4)))

/-- Complete the descriptor in hand: its register write, its signal, its write-back, and the counts (R313, R317); a write-back
that its segment refuses stops the chain with SEG (R291, R314). -/
def descFinish (dx k : Nat) (d : List Word) (s : State) : State :=
  let s1 := whenDo (dOp d == 2) (dmaRegwrite dx k d) s
  let s2 := descSignal dx k d s1
  match writeBackFails s2 dx k with
  | some cause =>
    whenDo (dmaOf s2 dx k).preempt (preemptLeave dx k) (dmaHalt dx k 3
      (modDma dx k (fun y => { y with faultInfo := BitVec.ofNat 32 (cause * 2 ^ 24 + y.seg) }) (dmaWriteBack dx k 1 s2)))
  | none =>
    let s3 := bump (A.DMA_DESC_DONE dx k) (dmaWriteBack dx k 1 s2)
    let s4 := modDma dx k (fun x => { x with done := x.done + 1 }) s3
    let y := dmaOf s4 dx k
    match y.ticket with
    | some t => ticketPartial t (ticketProgress t y.done s4)
    | none => s4

/-- The chain ends with its last descriptor (R311, R317). -/
def chainEnd (dx k : Nat) (s : State) : State :=
  let x := dmaOf s dx k
  endTicket? x.ticket 0 (modEng dx (0x58 + k) (fun e => { e with state := .idle })
    (modDma dx k (fun x => { x with state := .idle, fault := 0, preempt := false, seq := none }) s))

/-- A scheduled chain fetches the descriptor at DMA_CUR from its segment: a burst that fails its check stops it with SEG, an error that
the stack does not correct with MEM (R288, R291, R311, R314). -/
def schedFetch (dx k : Nat) (f : DescFetch) (s : State) : State :=
  let x := dmaOf s dx k
  let st := x.cur / 2 ^ 37 % 2
  let none_ (s : State) : State := modDma dx k (fun x => { x with desc := none }) s
  match segCheck s dx x.seg false (engPart s dx (0x58 + k)) false x.cur 64 with
  | some c => burstFail dx k [] 3 c x.seg false (none_ s)
  | none =>
    let s1 := stkCe dx st f.ce s
    if f.ue then dmaFail dx k 5 (stkUe dx st (none_ s1)) else descBegin dx k (stackDesc s1 x.cur) s1

/-- The next descriptor of the chain begins: `next` is how its fetch ends (R311, R314). -/
def nextDesc (dx k : Nat) (next : DescFetch) (s : State) : State :=
  let s1 := modDma dx k (fun x => { x with
    cur := x.cur + 64, idx := x.idx + 1, bytes := 0, waitDone := false, sigDone := false, gateDone := false }) s
  let x := dmaOf s1 dx k
  if x.preempt then preemptStop dx k (modDma dx k (fun x => { x with desc := none }) s1)
  else if x.host then chainFetched dx k next.words (modDma dx k (fun x => { x with desc := none }) s1)
  else schedFetch dx k next s1
where
  /-- a pre-empted chain stops before its next descriptor (R315) -/
  preemptStop (dx k : Nat) (s : State) : State := preemptLeave dx k (dmaStop dx k 7 s)

/-- A descriptor ends (R313). -/
def descDone (dx k : Nat) (next : DescFetch) (s : State) : State :=
  let x := dmaOf s dx k
  match x.state, x.desc with
  | .running, some ⟨d⟩ =>
    if descComplete d x then
      let s1 := descFinish dx k d s
      if (dmaOf s1 dx k).state ≠ .running then s1
      else if dLast d then chainEnd dx k (whenDo x.preempt (preemptLeave dx k) s1)
      else nextDesc dx k next s1
    else s
  | _, _ => s

/-- DMA_DESC_DONE (R313). -/
def execDmaDescDone (die k : Nat) (next : DescFetch) (s : State) : Answer :=
  done (onCore die (A.DMA_STAT (die - 5) k) (fun dx s => descDone dx (k % 16) next s) s)

/-- A waiting engine leaves the queue of its tally, which then tests its new head, and waits on nothing any more (R300, R315, R318:
it has consumed nothing). -/
def leaveQueue (dx e : Nat) (s : State) : State :=
  let mine (t : Nat × Tally) : Bool := t.1 / 5184 == dx && t.2.waiters.any (fun w => w.engine == e)
  forAll ((s.die.tallies.filter mine).map (fun t => t.1)) testWaiters
    (modDie (fun d => { d with tallies := d.tallies.filterMap (fun t =>
      let y := if mine t then { t.2 with waiters := t.2.waiters.filter (fun w => w.engine != e) } else t.2
      if y = {} then none else some (t.1, y)) }) (wf (A.WAIT_STAT dx e) 14 2 0 s))

/-- The descriptor in hand ends PREEMPTED and the engine's tallies are cleared (R315). -/
def preemptEnd (dx k : Nat) (s : State) : State :=
  preemptLeave dx k (dmaStop dx k 7 (leaveQueue dx (0x58 + k) s))

/-- Pre-empt a DMA engine: a descriptor that still waits stops at once; a running one stops at the next 4 KiB boundary
(R315). -/
def dmaPreempt (dx k : Nat) (s : State) : State :=
  match (dmaOf s dx k).state with
  | .waiting => preemptEnd dx k s
  | .running => modDma dx k (fun x => { x with preempt := true }) s
  | _ => s

/-- DMA_PREEMPT (R315). -/
def execDmaPreempt (die k : Nat) (s : State) : Answer :=
  done (onReduce die (A.DMA_CTRL (die - 5) k) (fun dx s => dmaPreempt dx (k % 16) s) s)

/-- The stop of a pre-empted engine: at a 4 KiB boundary of bytes done, or at the end of its descriptor, whose signal
then stands (R315). -/
def dmaPreemptStop (dx k : Nat) (s : State) : State :=
  let x := dmaOf s dx k
  match x.state, x.desc with
  | .running, some ⟨d⟩ =>
    if ¬ x.preempt then s
    else if descComplete d x then
      let s1 := descFinish dx k d s
      if (dmaOf s1 dx k).state ≠ .running then s1
      else if dLast d then chainEnd dx k (preemptLeave dx k s1)
      else nextDesc.preemptStop dx k (modDma dx k (fun x => { x with
        cur := x.cur + 64, idx := x.idx + 1, bytes := 0, waitDone := false, sigDone := false, gateDone := false,
        desc := none }) s1)
    else if x.bytes % 4096 = 0 then preemptEnd dx k s
    else s
  | _, _ => s

/-- DMA_PREEMPT_STOP (R315). -/
def execDmaPreemptStop (die k : Nat) (s : State) : Answer :=
  done (onCore die (A.DMA_STAT (die - 5) k) (fun dx s => dmaPreemptStop dx (k % 16) s) s)

/-- A slot-table entry issues a scheduled chain: it starts from its first descriptor, every status word as PENDING (R311,
R316). An engine runs one chain at a time: one that still has a chain in hand ends it PREEMPTED, at the last 4 KiB boundary of bytes
done (DESIGN CHOICE: the spec does not say; log entry 57). -/
def schedStart (dx k addr seg q : Nat) (f : DescFetch) (s : State) : State :=
  let s0 := if dmaWorks s dx k then preemptEnd dx k (modDma dx k (fun x => { x with bytes := x.bytes / 4096 * 4096 }) s) else s
  schedFetch dx k f (modEng dx (0x58 + k) (fun e => { e with state := .busy })
    (modDma dx k (fun _ => { sched := true, seq := some q, seg := seg, cur := addr }) s0))

/-- RESTART of a stopped host chain at DMA_CUR, where its words 12 and 13 left it (R316), or at its start where it has not yet run in
this run of the chain (PENDING, R314); an unbound engine executes nothing
(R273). -/
def dmaRestart (dx k : Nat) (d : Option (List Word)) (s : State) : State :=
  let x := dmaOf s dx k
  if x.state ≠ .stopped ∨ ¬ x.host ∨ engPart s dx (0x58 + k) = 0xFF then raiseFlag (A.DMA_STAT dx k) 6 k 12 s
  else
    match nextTicket s with
    | none => raiseFlag (A.DMA_STAT dx k) 6 k 12 (noTicket s)
    | some t =>
      let s1 := issueAs t 24 (A.DMA_TICKET dx k) .running s
      let s2 := modEng dx (0x58 + k) (fun e => { e with state := .busy }) s1
      chainBegin dx k d (modDma dx k (fun x => { x with ticket := some t, preempt := false, fault := 0, done := 0 }) s2)

/-- DMA_RESTART: `d` is the descriptor at DMA_CUR as the engine fetches it; none where the fetch fails (R314, R316). -/
def execDmaRestart (die k : Nat) (d : Option (List Word)) (s : State) : Answer :=
  done (onReduce die (A.DMA_CTRL (die - 5) k) (fun dx s => dmaRestart dx (k % 16) d s) s)

end Sys2Proof.Machine
end

