-- ==== Sys2Proof/Machine/Seq.lean ====
section
/-! DEFINITION. Slot sequencers (08): arming at a LAUNCH, slot pulses, guard slots, the issue and the completion of entries,
clock stretching; the return grid of an UPDATE tree (R234, R235). -/

namespace Sys2Proof.Machine

/-- One slot of the grid in 2^-16 ns: 512 ns (R195). -/
abbrev slotU : Nat := 512 * 65536

/-- Is sequencer `q` bound, to a partition too, and its die there (R200, R212, R273)? -/
def seqBound (s : State) (q : Nat) : Bool :=
  reduceDie s (q / 4) && flag s (A.SEQ_CFG q) 31 && decide (seqPart s q ≠ 0xFF)
def seqGroup (s : State) (q : Nat) : Nat := rf s (A.SEQ_CFG q) 0 6
def guardLimit (s : State) (q : Nat) : Nat := rf s (A.SEQ_CFG q) 16 8

/-- A sequencer is armed with a step and its T; a return table runs RETURN_OFS later (R201, R234). -/
def seqArmWith (q step : Nat) (t : BitVec 64) (s : State) : State :=
  let run := tget {} s.cfg.seqs q
  modSeq q (fun x => { x with
    state := .armed, step := step, t := ftAdd t (nsU run.returnOfs : Nat), run := run, idx := 0, g := 0, guarding := false
    holding := false, started := false, issued := [], active := [], late := [], sent := [], flagged := [], stale := [], gens := [], limitHit := false
    fault := 0, stepSlack := none, slotCyc := none, stalls := [], stretched := false, waited := [] }) (owedDrop q s)

/-- T of a sequencer's step: its grid begins there, or RETURN_OFS later (R212, R234). -/
def launchT (x : Seq) : BitVec 64 := ftAdd x.t (-((nsU x.run.returnOfs : Nat) : Int))

/-- A LAUNCH reaches the package's sequencers of the group: one that is IDLE arms; one that is not holds it (R201, R209).
Those of a held partition stay as they are (R345). -/
def seqLaunch (k step : Nat) (t : BitVec 64) (s : State) : State :=
  forAll ((List.range 8).filter (fun q => seqBound s q && seqGroup s q == k && !s.alm.held.contains (seqPart s q)))
    (fun q s =>
      if (seqOf s q).state = .idle then seqArmWith q step t s
      else if (seqOf s q).step = step then s
      else modSeq q (fun x => { x with next := some (step, t) }) s) s

/-- The set-up of an entry. -/
def entrySetup (x : Seq) (e : SlotEntry) : Option Setup := x.run.setups[e.setup]?

/-- The LATE bales in the landing that an entry consumes: waystation, bale (R205). -/
def lateBales (s : State) (dx : Nat) (x : Seq) (e : SlotEntry) : List (Nat × Nat) :=
  match entrySetup x e with
  | some ⟨.reduce w bs, _, _, _, _⟩ =>
    ((wsOf s dx w).landed.filter (fun b => b.late && b.step.toNat == x.step && bs.contains b.bale.toNat)).map
      (fun b => (w, b.bale.toNat))
  | _ => []

/-- Does the landing that an entry consumes hold a LATE bale (R205)? -/
def lateLanded (s : State) (dx : Nat) (x : Seq) (e : SlotEntry) : Bool := !(lateBales s dx x e).isEmpty

/-- The LATE bales in the landings of an index (R205). -/
def idxLate (s : State) (dx : Nat) (x : Seq) : List (Nat × Nat) :=
  ((slotEntries x.run.table).filter (fun e => e.slot == x.idx)).flatMap (lateBales s dx x)

/-- Must an entry wait at its START_CYC: its tally short of its value, or a LATE bale in its landing for which no guard slot has been
held (R201, R205)? A LATE bale costs one guard slot. -/
def entryWaits (s : State) (q : Nat) (e : SlotEntry) : Bool :=
  let dx := q / 4
  let x := seqOf s q
  let tallyShort := e.waitTally < 48 && !probe s (dx * 5184 + e.engine * 48 + e.waitTally) e.waitVal
  tallyShort || (lateBales s dx x e).any (fun b => !x.waited.contains b)

/-- A guard slot is held: the index is tried again at the next pulse, and the LATE bales that have landed for it by now have had theirs
(R205); one that a return table holds for the update sets RET_LATE (R240). -/
def guardSlot (q : Nat) (s : State) : State :=
  let x := seqOf s q
  let s1 := setFlag (A.SEQ_STAT q) 5 (bump (A.GUARD_CNT q) (modSeq q (fun x => { x with
    guarding := true, g := x.g + 1, waited := (x.waited ++ idxLate s (q / 4) x).eraseDups }) s))
  match x.run.pset with
  | some u => setFlag (A.PSET_STAT (q / 4) u) 6 s1
  | none => s1

/-- Lines in error met by an entry (R277). -/
def entryEcc (dx : Nat) (ecc : List EccLine) (s : State) : State :=
  forAll ecc (fun x s => if x.corrected then bankCe dx (x.line / 8192 % 256) s else lineUe dx x.line s) s

/-- The die SRAM address to which a DMA has brought the stack data that a bale takes (R289). -/
def stackSrc (st : Setup) (b : Nat) : Nat := ((st.stackIn.find? (fun x => x.1 == b)).map (fun x => x.2)).getD 0

/-- The runs of bytes in the banks of its die that an entry's engine accesses (R276, R280): its landing, the residuals or parameters
that a DMA has brought (R289), and what its set-up names. -/
def actRuns (s : State) (dx : Nat) (st : Setup) : List (Nat × Nat) :=
  (match st.act with
   | .reduce w bs =>
     let c := wsCfg s dx w
     (c.bank * 2 ^ 19 + 64 * c.lines.1, 1) :: (bs.filter (residualStored s dx w)).map (fun b => (stackSrc st b, 7920))
   | .ret _ bs => bs.map (fun b => (stackSrc st b, 30720))
   | _ => []) ++ st.access

/-- The accesses of an entry's engine to its banks are tried; the first that is refused faults the engine (R276, R280). -/
def actBanks (dx who : Nat) (st : Setup) (s : State) : Bool × State :=
  match (actRuns s dx st).find? (fun a => (runRefused s dx who a.1 a.2).isSome) with
  | some a => runTry dx who a.1 a.2 s
  | none => (true, s)

/-- The engine of an issued entry begins its work (R200): it takes the landing, starts its chain, arrives at its gate. -/
def actBegin (q : Nat) (en : SlotEntry) (f : DescFetch) (s : State) : State :=
  let dx := q / 4
  let s1 := if isDma en.engine then s else modEng dx en.engine (fun y => { y with state := .busy }) s
  match entrySetup (seqOf s q) en with
  | none => s1
  | some st =>
    let (ok, s2) := actBanks dx en.engine st s1
    if ¬ ok then s2
    else match st.act with
      | .reduce w bs => modWs dx w (fun y => { y with consumed := y.consumed ++ bs }) s2
      | .chain a seg => if isDma en.engine then schedStart dx (en.engine - 0x58) a seg q f s2 else s2
      | .gate g => gateArrive dx g en.engine s2
      | .ret _ _ => s2
      | .idle => s2

/-- Count an entry issued after LIMIT_HIT (R331, R333). -/
def ndetLimit (s : State) : State := setFlag A.DET_STAT 2 (bumpNdet A.NDET_LIMIT s)

/-- Is a return entry's bale range wholly applied for the step (R235)? -/
def rangeApplied (s : State) (dx : Nat) (x : Seq) (en : SlotEntry) : Bool :=
  match entrySetup x en with
  | some ⟨.ret u bs, _, _, _, _⟩ =>
    let y := psetOf s dx u
    y.step == x.step && bs.all (fun b => decide (b - (psetCfg s dx u).baleBase < y.doneBales))
  | _ => true

/-- The tallies that an entry's work signals: its set-up's, and the gradient tally of the set it reduces into (R229, R298). -/
def entrySignals (s : State) (dx : Nat) (x : Seq) (en : SlotEntry) : List Nat :=
  match entrySetup x en with
  | none => []
  | some st =>
    (st.signal.map (fun y => y.1)).toList ++ (match st.act with
      | .reduce w _ => ((wsCfg s dx w).pset.bind (fun u => (psetCfg s dx u).gradTally)).toList
      | _ => [])

/-- An entry issues (R201, R206, R235, R277, R303): one that consumes a LATE landing sets LATE_SEEN (R212). -/
def entryGo (q e : Nat) (ecc : IssueEcc) (en : SlotEntry) (s : State) : State :=
  let x := seqOf s q
  let s1 := whenDo (lateLanded s (q / 4) x en) (setFlag (A.SEQ_STAT q) 4) s
  let s2 := modSeq q (fun x => { x with
    issued := x.issued ++ [e], active := x.active ++ [e]
    flagged := x.flagged ++ (ecc.lines.filter (fun l => !l.corrected)).map (fun l => (e, l.bale, l.residual))
    stale := if rangeApplied s (q / 4) x en then x.stale else x.stale ++ [e]
    gens := x.gens.filter (fun y => y.1 != e) ++ (entrySignals s (q / 4) x en).map (fun r => (e, r, genSeen s (q / 4) r)) }) s1
  actBegin q en ecc.fetch (entryEcc (q / 4) ecc.lines s2)

/-- An entry reaches its START_CYC (R201, R205, R206). -/
def entryIssue (q e : Nat) (ecc : IssueEcc) (s : State) : State :=
  let x := seqOf s q
  match (slotEntries x.run.table)[e]? with
  | none => s
  | some en =>
    if ¬ coreOn s (q / 4) ∨ x.state ≠ .running ∨ ¬ x.started ∨ x.guarding ∨ en.slot ≠ x.idx ∨ x.issued.contains e ∨
        seqPart s q = 0xFF ∨ engPart s (q / 4) en.engine = 0xFF then s
    else if entryWaits s q en ∧ x.g < guardLimit s q then
      guardSlot q (whenDo (lateLanded s (q / 4) x en) (setFlag (A.SEQ_STAT q) 4) s)
    else
      let s1 := whenDo (entryWaits s q en && !x.limitHit) (fun s => raiseFlag (A.SEQ_STAT q) 6 q 13
        (modSeq q (fun x => { x with limitHit := true }) s)) s
      entryGo q e ecc en (whenDo (seqOf s1 q).limitHit ndetLimit s1)

/-- ENTRY_ISSUE: `ecc` gives what the memories answer (R201, R277, R288). -/
def execEntryIssue (q e : Nat) (ecc : IssueEcc) (s : State) : Answer := done (entryIssue q e ecc s)

/-- How a parameter set's return bales are formed: FP32 parameters into OUT_FMT, to nearest, under the NF_POLICY of the tree
(R234, R255, R265). -/
def returnMode (c : WsCfg) (outFmt : Nat) : Mode where
  inF := 0
  outF := match outFmt with
    | 0 => 2
    | 1 => 3
    | _ => 1
  rkind := 0
  div := 1
  saturate := c.saturate
  stoch := false
  ef := false

/-- The parameters of a bale as an FP32 payload; zero is written +0, since no sum of R250 formed it (R245). -/
def paramPayload (l : List Byte) : List Byte :=
  (List.range (l.length / 4)).flatMap (fun n =>
    let v := ofLE (slice l (4 * n) 4)
    toBE 4 (if v = 0x80000000 then 0 else v))

/-- A return bale of set `u` (R234, R235, R269, R289): p, which a DMA has brought to the set-up's place in the SRAM, quantised, and
counted in the arithmetic record of the tree's waystation; ABORT, MEM, or UPD_INCOMPLETE of a range that was not applied when the
entry issued. -/
def returnBale (dx u bale step : Nat) (k : OutCase) (stale : Bool) (s : State) : State :=
  let c := psetCfg s dx u
  match returnStation s dx u with
  | none => s
  | some w =>
    let wc := wsCfg s dx w
    let md := returnMode wc c.outFmt
    let p := getBytes s.die.sram (dx * 2 ^ 27 + k.src) 30720
    let dip := dipOpen s dx
    let f := formBale md [⟨0, paramPayload p⟩] none ⟨wc.wsPos, wc.level - 1, bale, step, c.tree.toNat, jobSeed s dx w⟩
    let exceeds := qerrExceeds (fpRead (rn s (A.QERR_LIMIT dx w))) f && flag s (A.ARITH_CFG dx w) 3
    let cause := if k.abort then 5 else if k.mem then 4 else if stale then 3
      else if exceeds then 2 else if dip ∧ flag s A.DIP_CTRL 0 then 6 else 0
    let inv := decide (cause ≠ 0)
    let b : Bale := {
      variant := wc.variant, tree := c.tree, format := BitVec.ofNat 4 md.outF, late := k.late, invalid := inv
      poison := !inv && f.poison, clamped := !inv && f.clamped, dipSuspect := !inv && dip, down := true
      bale := BitVec.ofNat 32 bale, step := BitVec.ofNat 64 step
      contrib := BitVec.ofNat 32 (((psetOf s dx u).grads.find? (fun g => g.1 == bale)).map (fun g => g.2.2) |>.getD 0)
      source := BitVec.ofNat 20 (nodeId s .keel), digestFrag := 0, invCause := BitVec.ofNat 8 cause
      payload := if inv then List.replicate (payloadLen md.outF) 0 else f.payload }
    let s2 := whenDo (cause == 0 || cause == 2 || cause == 6) (arithCounts dx w f) s
    whenDo inv (invalidCounts dx w bale cause) (handOff dx w b (downPorts wc bale) [] s2)

/-- Ascending order of bale indices (R218). -/
def ascending : List Nat → List Nat
  | [] => []
  | x :: r => ins x (ascending r)
where
  ins (x : Nat) : List Nat → List Nat
    | [] => [x]
    | y :: r => if x ≤ y then x :: y :: r else y :: ins x r

/-- The bales of a set-up, in the order in which they are handed off (R218). -/
def actBales (st : Setup) : List Nat :=
  match st.act with
  | .reduce _ bs => ascending bs
  | .ret _ bs => ascending bs
  | _ => []

/-- One bale of an entry in hand ends. `h` is what the table has in hand; `aborted` says that the sequencer has aborted it. -/
def baleEnd (dx e : Nat) (h : Leftover) (aborted late : Bool) (en : SlotEntry) (st : Setup) (b : Nat) (s : State) : State :=
  let k : OutCase := {
    gens := (h.gens.filter (fun g => g.1 == e)).map (fun g => g.2)
    mem := h.flagged.any (fun f => f.1 == e && f.2.1 == b), memRes := h.flagged.contains (e, b, true)
    abort := aborted, late := late, produces := en.produces, src := stackSrc st b }
  match st.act with
  | .reduce w _ => baleOut dx w b h.step en.engine k s
  | .ret u _ => if en.produces then returnBale dx u b h.step k (h.stale.contains e) s else s
  | _ => s

/-- Has the engine faulted, or is it in reset: it hands nothing over, and signals nothing (R282, R305)? -/
def engDown (s : State) (dx e : Nat) : Bool :=
  decide ((engOf s dx e).state = .fault) || decide ((engOf s dx e).state = .inReset)

/-- The work of an entry ends (R218, R281): its bales in ascending order, those handed off before it was late apart (R204), its
hand-overs, its signal. -/
def actEnd (q e : Nat) (h : Leftover) (aborted : Bool) (en : SlotEntry) (s : State) : State :=
  let dx := q / 4
  match h.run.setups[en.setup]? with
  | none => s
  | some st =>
    let s1 := forAll ((actBales st).drop (tget 0 h.sent e)) (baleEnd dx e h aborted (h.late.contains e) en st) s
    if engDown s1 dx en.engine ∨ h.dead.contains e then s1
    else
      let s2 := forAll st.handover (fun h s => ownerWrite dx h.1 en.engine h.2 s) s1
      match st.signal with
      | some (ref, d) =>
        sendSignal (srcOf dx en.engine) ref (genAtBegin ((h.gens.filter (fun g => g.1 == e)).map (fun g => g.2)) s dx ref) d s2
      | none => s2

/-- The accesses of an entry in hand meet the owners that its banks have by its end (R282): one refused faults the engine. -/
def actAgain (dx : Nat) (run : SeqTable) (en : SlotEntry) (s : State) : State :=
  match run.setups[en.setup]? with
  | none => s
  | some st => if engDown s dx en.engine then s else (actBanks dx en.engine st s).2

/-- An engine whose work has ended is IDLE again. -/
def engRest (dx e : Nat) (s : State) : State :=
  if isDma e ∨ (engOf s dx e).state ≠ .busy then s else modEng dx e (fun y => { y with state := .idle }) s

/-- The first aborted table of a sequencer that still runs an entry (R211). -/
def leftWith (x : Seq) (e : Nat) : Option Leftover := x.left.find? (fun h => h.active.contains e)

/-- Tallies of an aborted table are cleared once the entries already issued have finished (R211, R301). -/
def abortClears (q : Nat) (s : State) : State :=
  let x := seqOf s q
  forAll (x.left.filter (fun h => h.active.isEmpty)) (fun h s => forAll h.clearAfter (fun e s => clearEngTallies (q / 4) e s) s)
    (modSeq q (fun x => { x with left := x.left.filter (fun h => !h.active.isEmpty) }) s)

/-- An entry of an aborted table ends: its bales are INVALID with ABORT (R211, R269). -/
def leftComplete (q e : Nat) (h : Leftover) (s : State) : State :=
  match (slotEntries h.run.table)[e]? with
  | none => s
  | some en =>
    let dead := h.dead.contains e
    if ¬ dead ∧ (engOf s (q / 4) en.engine).gate.isSome then s
    else
      let s1 := actEnd q e h true en (if dead then s else actAgain (q / 4) h.run en s)
      let s2 := modSeq q (fun x => { x with
        left := x.left.map (fun y => if y = h then { y with active := y.active.erase e } else y) }) s1
      abortClears q (if dead then s2 else engRest (q / 4) en.engine s2)

/-- The cycle that a bubble cost an entry is made up with its end (R208). -/
def bubbleMadeUp (q e : Nat) (s : State) : State :=
  modDie (fun d => { d with crossings := d.crossings.map (fun c => (c.1, { c.2 with owed := c.2.owed.filter (fun o => o != (q, e)) })) }) s

/-- The frequency step of a die. -/
def dieFstep (s : State) (d : Nat) : Nat := (tget {} s.clks.dies d).fstep

/-- An entry has completed in cycle `c` of its slot, at a step with U cycles (R203, R212): the slot's completion, which a late entry no
longer has a part in, and the least slack of the step. -/
def cycNote (late : Bool) (c u : Nat) (x : Seq) : Seq :=
  { x with
    slotCyc := if late then x.slotCyc else some (max (x.slotCyc.getD 0) c)
    stepSlack := some (match x.stepSlack with | some m => min m ((u : Int) - c) | none => (u : Int) - c) }

/-- An entry completes its work (R203), unless a bank that it needs has been taken from its engine (R282): its cycle is END_CYC and the cycles that crossings have stalled it since it issued. -/
def entryComplete (q e : Nat) (s : State) : State :=
  let x := seqOf s q
  match leftWith x e with
  | some h => leftComplete q e h s
  | none =>
    match (slotEntries x.run.table)[e]? with
    | none => s
    | some en =>
      if ¬ x.active.contains e ∨ (engOf s (q / 4) en.engine).gate.isSome then s
      else
        let t := actAgain (q / 4) x.run en s
        if engDown t (q / 4) en.engine then t
        else
        let s0 := actEnd q e (inHand x []) false en t
        let s1 := modSeq q (fun x => cycNote (x.late.contains e) (en.endCyc + tget 0 x.stalls e) (usable (dieFstep s (5 + q / 4)))
          { x with active := x.active.erase e, stalls := tdel e x.stalls }) s0
        bubbleMadeUp q e (engRest (q / 4) en.engine s1)

/-- ENTRY_COMPLETE (R203); engines of a die whose clock is stopped complete nothing (R426). -/
def execEntryComplete (q e : Nat) (s : State) : Answer := done (if coreOn s (q / 4) then entryComplete q e s else s)

/-- Bubbles of a slot that entries of the sequencer have not made up count once a crossing: a crossing counted less than half a
slot before has counted in this slot (R208, R331). -/
def ndetBubbles (q : Nat) (s : State) : State :=
  let t := pe s .keel
  let es := (seqOf s q).active
  forAll (s.die.crossings.filter (fun c => c.2.owed.any (fun o => o.1 == q && es.contains o.2) &&
      c.2.counted.all (fun u => decide (320 ≤ t - u))))
    (fun c s => bumpNdet A.NDET_BUBBLE (bump A.NDET_SLOT
      (modDie (fun d => { d with crossings := tmod {} d.crossings c.1 (fun x => { x with counted := some t }) }) s))) s

/-- The slot in hand ends (R203, R208): CYC_LAST, which after a slot in which no entry completes keeps its value (DESIGN CHOICE:
the spec does not say what it shows then; log entry 31), the stretched slots, and, of a slot that was no guard slot, bubbles not made
up. -/
def slotEnd (q : Nat) (s : State) : State :=
  let x := seqOf s q
  let s1 := whenDo x.stretched (bump (A.STRETCH_SLOT q)) s
  let s2 := whenDo (!(x.guarding || x.holding)) (ndetBubbles q) s1
  modSeq q (fun x => { x with cycLast := x.slotCyc.getD x.cycLast, slotCyc := none, stretched := false, holding := false }) s2

/-- After the last index the sequencer returns to IDLE, and a LAUNCH it holds arms it (R201, R209, R328). -/
def seqEnd (q : Nat) (s : State) : State :=
  let x := seqOf s q
  let s1 := modSeq q (fun x => { x with
    state := .idle, started := false, guarding := false, lastShift := x.g, minSlack := x.stepSlack.getD x.minSlack, next := none }) s
  let s2 := forAll (tableRet s (q / 4) x.run) (fun w s => wsDigestEnd (q / 4) w false s)
    (forAll (tableWs x.run) (fun w s => wsStepEnd (q / 4) w false s) s1)
  let s3 := match x.run.pset with
    | some u => modPset (q / 4) u (fun y => { y with returned := x.step }) s2
    | none => s2
  match x.next with
  | some (st, t) =>
    let s4 := seqArmWith q st t s3
    whenDo (decide (0 < ftDiff (now64 s .keel) (seqOf s4 q).t)) (setFlag (A.SEQ_STAT q) 7) s4
  | none => s3

/-- Has the pulse at which a sequencer does its next thing come (R195)? -/
def pulseDue (s : State) (x : Seq) (n : Nat) : Bool := atOrAfter (now64 s .keel) (ftAdd x.t (n * slotU : Nat))

/-- Does a pulse of the grid that begins at `t` fall in the present cycle (R195)? -/
def onGrid (s : State) (t : BitVec 64) : Bool :=
  let d := ftDiff (now64 s .keel) t
  decide (0 ≤ d) && decide (d.toNat % slotU * 65536 < lastCycle s.keel.clk)

/-- The first pulse of the step's grid after arming: pulses already past count as guard slots (R201, R209). -/
def firstPulse (q : Nat) (s : State) : State :=
  let x := seqOf s q
  let past := (ftDiff (now64 s .keel) x.t).toNat / slotU
  let s1 := modSeq q (fun x => { x with state := .running, started := true, g := past, idx := 0 }) s
  let s2 := bumpBy (A.GUARD_CNT q) past (whenDo (past ≠ 0) (setFlag (A.SEQ_STAT q) 5) s1)
  forAll (tableRet s (q / 4) x.run) (fun w s => retStepBegin (q / 4) w x.step s)
    (forAll (tableWs x.run) (fun w s => wsStepBegin (q / 4) w x.step s) s2)

/-- An entry becomes late (R204): the bales of its caravan that it has handed off by the pulse carry no LATE. How many they are is a
matter of cycles, which the spec leaves to the engine: a free number (log entry 31). -/
def latePart (q e : Nat) (s : State) : State :=
  let x := seqOf s q
  match (slotEntries x.run.table)[e]? with
  | none => s
  | some en =>
    match entrySetup x en with
    | none => s
    | some st =>
      let bs := actBales st
      if ¬ en.produces ∨ bs.isEmpty then s
      else
        let (v, s1) := takeFree s
        let n := v % (bs.length + 1)
        forAll (bs.take n) (baleEnd (q / 4) e (inHand x []) false false en st)
          (modSeq q (fun x => { x with sent := tput e n x.sent }) s1)

/-- Entries in hand at a pulse that were not late before: they are late now (R204). -/
def lateNow (q : Nat) (s : State) : State :=
  let x := seqOf s q
  let es := x.active.filter (fun e => !x.late.contains e)
  whenDo (!es.isEmpty) (fun s => setFlag (A.SEQ_STAT q) 4 (bumpBy (A.SLOT_LATE q) es.length
    (forAll es (latePart q) (modSeq q (fun x => { x with late := x.late ++ es }) s)))) s

/-- A slot pulse of a running sequencer (R195, R204 to R206): entries of the index that have not issued meet their START_CYC;
a late entry costs one guard slot; else the index is tried again, the next begins, or, no entry being in hand any more, the table
ends (DESIGN CHOICE: a late entry of the last index runs on beyond GUARD_LIMIT; log entry 31). -/
def nextPulse (q : Nat) (s : State) : State :=
  let es := slotEntries (seqOf s q).run.table
  let s0 := forAll ((List.range es.length).filter (fun i => (es[i]?.map (fun e => e.slot)) == some (seqOf s q).idx))
    (fun i s => entryIssue q i {} s) s
  let s1 := slotEnd q s0
  let x := seqOf s1 q
  if x.state ≠ .running then s1
  else
    let late := x.active.any (fun e => !x.late.contains e)
    let s2 := lateNow q s1
    if late ∧ x.g < guardLimit s q then
      modSeq q (fun x => { x with holding := true, g := x.g + 1 }) (setFlag (A.SEQ_STAT q) 5 (bump (A.GUARD_CNT q) s2))
    else
      let s3 := whenDo (late && !x.limitHit) (fun s => raiseFlag (A.SEQ_STAT q) 6 q 13
        (modSeq q (fun x => { x with limitHit := true }) s)) s2
      if x.guarding then modSeq q (fun x => { x with guarding := false }) s3
      else if x.idx + 1 < x.run.table.count then modSeq q (fun x => { x with idx := x.idx + 1, issued := [] }) s3
      else if x.active.isEmpty then seqEnd q s3
      else s3

/-- SLOT_PULSE of sequencer `q`: a pulse fires in the cycle in which its time on the grid comes (R195, R197). -/
def slotPulse (q : Nat) (s : State) : State :=
  let x := seqOf s q
  if ¬ onGrid s x.t ∨ seqPart s q = 0xFF then s
  else match x.state with
    | .idle => s
    | .armed => firstPulse q s
    | .running => if pulseDue s x (x.idx + x.g + (if x.guarding then 0 else 1)) then nextPulse q s else s

/-- What a sequencer's return to IDLE lets happen (R331 apart): the newcomer's comparison is in Twin.lean. -/
def execSlotPulseCore (q : Nat) (s : State) : State := if q < 8 then slotPulse q s else s

/-- The key of a crossing: sending die, receiving die, number. -/
def crossKey (a b i : Nat) : Nat := (a * 8 + b) * 65536 + i % 65536

/-- Change a crossing. -/
def modCross (k : Nat) (f : Crossing → Crossing) (s : State) : State :=
  modDie (fun d => { d with crossings := tmod {} d.crossings k f }) s

/-- Entries in hand lose one cycle to a crossing (R203, R207). -/
def stallHits (hits : List (Nat × Nat)) (s : State) : State :=
  forAll hits (fun h s => modSeq h.1 (fun x =>
    if x.active.contains h.2 then { x with stalls := tmod 0 x.stalls h.2 (fun n => n + 1) } else x) s) s

/-- The stretched die sends over a crossing (R207): what the buffer holds covers the missing entry; where it holds nothing, one
cycle of the receiver finds it empty. The entries of a step that was aborted make no cycle up (R208). -/
def senderStretch (die : Nat) (x : CrossUse) (s : State) : State :=
  let k := crossKey die x.other x.id
  if (tget {} s.die.crossings k).level ≠ 0 then modCross k (fun c => { c with level := c.level - 1 }) s
  else bump (A.BUBBLE_COUNT (x.other - 1)) (stallHits x.hits
    (modCross k (fun c => { c with owed := (c.owed ++ x.hits.filter (fun h => (seqOf s h.1).active.contains h.2)).eraseDups }) s))

/-- The stretched die receives over a crossing (R207): the occupancy rises by an entry; where no credit is left, the sender
stalls. -/
def receiverStretch (die : Nat) (x : CrossUse) (s : State) : State :=
  let k := crossKey x.other die x.id
  if (tget {} s.die.crossings k).level < 8 then modCross k (fun c => { c with level := c.level + 1 }) s
  else bump (A.CREDIT_STALL (x.other - 1)) (stallHits x.hits s)

/-- Is the other side of a crossing a die that is there? -/
def crossThere (s : State) (x : CrossUse) : Bool := decide (1 ≤ x.other) && decide (x.other ≤ 6) && diePresent s x.other

/-- Crossings of the die that carry no data have drained (R207); `live` are the keys of those that do. -/
def crossDrain (die : Nat) (live : List Nat) (s : State) : State :=
  let mine (k : Nat) : Bool := k / 65536 / 8 == die || k / 65536 % 8 == die
  modDie (fun d => { d with crossings := d.crossings.map (fun c =>
    if mine c.1 && !live.contains c.1 then (c.1, { c.2 with level := 0 }) else c) }) s

/-- A droop stretches one period of a die's forwarded clock (R202). Of its crossings that carry data then, those it sends over lose an
entry or make a bubble and those it receives over gain one or stall their sender; where both sides stretch in the same period
neither happens (R207). -/
def clockStretch (die : Nat) (sent received both : List CrossUse) (s : State) : State :=
  if ¬ (1 ≤ die ∧ die ≤ 6 ∧ diePresent s die) then s
  else
    let seqs : List Nat := if 5 ≤ die then (List.range 4).map (fun i => (die - 5) * 4 + i) else []
    let s1 := forAll seqs (fun q s => modSeq q (fun x => if x.state = .running then { x with stretched := true } else x) s)
      (bump (A.STRETCH_COUNT (die - 1)) s)
    let live := (sent ++ both).map (fun x => crossKey die x.other x.id) ++ (received ++ both).map (fun x => crossKey x.other die x.id)
    let s2 := crossDrain die live s1
    forAll (received.filter (crossThere s)) (receiverStretch die) (forAll (sent.filter (crossThere s)) (senderStretch die) s2)

/-- CLOCK_STRETCH (R202). -/
def execClockStretch (die : Nat) (sent received both : List CrossUse) (s : State) : Answer := done (clockStretch die sent received both s)

end Sys2Proof.Machine
end

