-- ==== Sys2Proof/Machine/Twin.lean ====
section
/-! DEFINITION. Commands of the pair, the convoy and the rehearsals (16): heartbeats, probes, mirrored items, takeover, notices,
parity, admission, drills. REBUILD_DONE stands in Muster.lean. -/

namespace Sys2Proof.Machine

/-! The twin link (R375, R376). -/

/-- HEARTBEAT_SEND, every 10 µs on a link that is up (R375); an expelled package has sent its last (R407). -/
def execHeartbeatSend (s : State) : Answer :=
  done (if twinTrained s ∧ ¬ s.hl.expelled ∧ s.tw.lastTx.all (fun t => decide (usCyc 10 ≤ pe s .keel - t)) then
    modTw (fun t => { t with lastTx := some (pe s .keel) }) (sendHeartbeat s) else s)

/-- Is the chip identifier of a heartbeat expected: the partner's, the admitted newcomer's, or in SOLO any newcomer's (R375)? -/
def chipExpected (s : State) (chip : BitVec 64) : Bool :=
  s.tw.mode == .solo || s.cfg.hall.partner.any (fun p => p.2 == chip) || s.tw.peerChip == some chip

/-- What a mark in the partner's heartbeat asks for (R407, R408, R431). -/
def hbMark (mark : Nat) (s : State) : State :=
  match mark with
  | 1 =>
    if s.hl.partnerExpelled then s
    else
      let s1 := raiseFlag A.HLTH_HIST 8 0 13 { s with hl := { s.hl with partnerExpelled := true } }
      match s1.tw.mode with
      | .split => enterSolo s1
      | .shadow => if s1.tw.newcomer then newcomerStops s1 else shadowFail 1 s1
      | .solo => s1
  | 2 =>
    match s.tw.mode with
    | .split => enterSolo s
    | .shadow => if s.tw.newcomer then newcomerStops s else shadowFail 6 s
    | .solo => s
  | 3 =>
    if s.tw.mode = .split then modTw (fun t => { t with partnerHeld := true }) (demotePartner s) else s
  | _ => if s.hl.partnerExpelled then { s with hl := { s.hl with partnerExpelled := false } } else s

/-- Both packages are PRIMARY (R380): DUAL_PRIMARY; the lower epoch demotes itself, and on equal epochs the one that the almanac
does not name. -/
def hbPrimary (epoch : Word) (s : State) : State :=
  if ¬ s.tw.primary then s
  else
    let s1 := twinHist 7 s
    if s.tw.roleEpoch.toNat < epoch.toNat ∨ (s.tw.roleEpoch = epoch ∧ ¬ s.cfg.hall.primaryHere) then
      twinHist 6 (modTw (fun t => { t with primary := false }) s1)
    else s1

/-- Mode codes of a heartbeat (R395). -/
def modeOf : Nat → PairMode
  | 0 => .split
  | 1 => .solo
  | _ => .shadow

/-- What the partner's mode makes of this package's (R374, R391): a partner that is the working twin of a SHADOW pair makes it
the newcomer; a newcomer whose working twin shows SOLO is one no more, and serves nothing. -/
def hbMode (m : PairMode) (mark : Nat) (is700 : Bool) (s : State) : State :=
  match m, s.tw.mode with
  | .shadow, .shadow => s
  | .shadow, _ => if mark = 3 then s else becomeNewcomer is700 s
  | .solo, .shadow =>
    if s.tw.newcomer then modTw (fun t => { t with mode := .solo, newcomer := false, adm := .none, stopped := true }) (twinHist 0 s) else s
  | _, _ => s

/-- A twin heartbeat (R375, R376, R380, R407): one of an unexpected chip identifier makes the link count as down. -/
def heartbeatTake (mode : Nat) (primary : Bool) (epoch : Word) (chip : BitVec 64) (is700 : Bool) (mark : Nat) (s : State) :
    State :=
  if ¬ twinTrained s then s
  else if ¬ chipExpected s chip then modTw (fun t => { t with badChip := true }) s
  else
    let s1 := modTw (fun t => { t with
      badChip := false, lastHb := some (pe s .keel), hbChip := some chip, probing := none, link := .up, partner700 := is700 }) s
    let s2 := whenDo primary (hbPrimary epoch) s1
    hbMode (modeOf mode) mark is700 (hbMark mark s2)

/-- HEARTBEAT_RECEIVE (R375). -/
def execHeartbeatReceive (mode : Nat) (primary : Bool) (epoch : Word) (chip : BitVec 64) (is700 : Bool) (mark : Nat)
    (s : State) : Answer := done (heartbeatTake mode primary epoch chip is700 mark s)

/-- Purpose of a probe (R376; log entry 6). -/
abbrev ctrlProbe : Nat := 0x10008

/-- The two probes, CTRL frames to the partner: the path, and the package through which the almanac has it run (R376). -/
def sendProbes (s : State) : State :=
  modTw (fun t => { t with lastProbe := pe s .keel })
    (emitAll ([0, 1].map (fun i => .ctrl ((partnerNode s).getD 0) ctrlProbe [i, s.cfg.hall.probeVia.getD i 0])) s)

/-- No heartbeat for HB_TIMEOUT: probing begins (R376). -/
def hbTimeout (s : State) : State :=
  if s.cfg.hall.partner.isNone ∨ s.tw.probing.isSome ∨ s.tw.link = .partnerLost ∨ hbPresent s then s
  else sendProbes (modTw (fun t => { t with probing := some (pe s .keel), lastAnswer := none }) s)

/-- HB_TIMEOUT (R376). -/
def execHbTimeout (s : State) : Answer := done (hbTimeout s)

/-- PROBE_SEND, every 100 µs while the heartbeat is missing (R376). -/
def execProbeSend (s : State) : Answer :=
  done (if s.tw.probing.isSome ∧ usCyc 100 ≤ pe s .keel - s.tw.lastProbe then sendProbes s else s)

/-- A probe is answered: LINK_LOST (R376). -/
def probeAnswer (s : State) : State :=
  if s.tw.probing.isNone then s
  else
    let s1 := modTw (fun t => { t with
      lastAnswer := some (pe s .keel), link := .linkLost, drill := t.drill.map (fun d => { d with lost := true }) }) s
    whenDo (s.tw.link != .linkLost) (twinHist 3) s1

/-- PROBE_ANSWER (R376). -/
def execProbeAnswer (_path : Nat) (s : State) : Answer := done (probeAnswer s)

/-- PROBE_WAIT passes without an answer (R376). -/
def probeWait (s : State) : State :=
  match s.tw.probing with
  | none => s
  | some t =>
    if pe s .keel - (match s.tw.lastAnswer with | some a => max a t | none => t) < usCyc (rn s A.PROBE_WAIT) then s
    else partnerLost s

/-- PROBE_WAIT (R376). -/
def execProbeWait (s : State) : Answer := done (probeWait s)

/-! Mirrored state (R377). -/

/-- Do two items concern the same thing? A later one replaces an earlier. -/
def sameItem : Mirror → Mirror → Bool
  | .group k .., .group k' .. => k == k'
  | .launch k .., .launch k' .. => k == k'
  | .ical .., .ical .. => true
  | .serial p _, .serial p' _ => p == p'
  | .waiting p .., .waiting p' .. => p == p'
  | .convoy _ u .., .convoy _ u' .. => u == u'
  | .score .., .score .. => true
  | .role .., .role .. => true
  | .position _ u .., .position _ u' .. => u == u'
  | .digest d w st .., .digest d' w' st' .. => d == d' && w == w' && st == st'
  | .admission .., .admission .. => true
  | _, _ => false

/-- CONV_STAT STATE from its code. -/
def convOf : Nat → ConvState
  | 0 => .healthy
  | 1 => .rebuilding
  | 2 => .exposed
  | _ => .lost

/-- What the twin uses of an item at once (R187, R377, R390, R391, R404, R406). -/
def mirrorUse (i : Mirror) (s : State) : State :=
  match i with
  | .group k st pol tmo lead bc _ _ _ _ began =>
    if ¬ (s.tw.mode = .shadow ∧ s.tw.newcomer) ∧ (s.tw.primary ∨ ¬ s.cfg.hall.rootPair) then s
    else
      let s1 := wn (A.BCAST_MIN k) bc (wn (A.LAUNCH_LEAD k) lead (wn (A.MUSTER_TIMEOUT k) tmo (wf (A.GRP_CFG k) 8 2 pol s)))
      let s2 := whenDo ((grp s .keel k).step == st) (modGrp .keel k (fun g => { g with params := began })) s1
      whenDo (s.tw.newcomer && decide ((grp s .keel k).step < st)) (modGrp .keel k (fun g => { g with step := st, params := began })) s2
  | .ical _ _ r _ => if s.tw.primary then s else modIcl .keel (fun x => { x with remain := r }) s
  | .score v rs =>
    { s with hl := { s.hl with partnerScore := v, records := (s.hl.records ++ rs).eraseDups } }
  | .position st _ _ r => if s.tw.mode = .shadow ∧ s.tw.newcomer then modTw (fun t => { t with convStep := st, rebuilt := r }) s else s
  | .capture die tree bale step _ l => mirrorOut 12 [die, tree, bale, step, (Config.reform tree bale step l).toNat] s
  | .role e n c l => if s.tw.primary then s else modTw (fun t => { t with roleEpoch := e, rehNext := n, lastCode := c, soloLast := l }) s
  | .admission m c x v =>
    if s.tw.mode ≠ .shadow ∨ s.tw.newcomer then s
    else
      let s1 := modTw (fun t => { t with partnerConv := convOf v }) s
      if v = 3 then admitEnd 7 s1
      else if s.tw.adm = .compare then
        admitCheck (admitProgress (modTw (fun t => { t with admitMatch := m, compared := c }) (bumpBy A.ADMIT_MISS x s1)))
      else admitCheck s1
  | .landing dx w b =>
    if s.tw.mode = .shadow ∧ s.tw.newcomer ∧ s.tw.adm = .compare ∧ dx < 2 ∧ w < 512 ∧ reduceDie s dx then landChecks dx w b s else s
  | _ => s

/-- EARLIEST of a mirrored group record, in full, is that of the record before where the two agree (R35). -/
def mirrorFirstSet (i : Mirror) (s : State) : State :=
  match i with
  | .group k _ _ _ _ _ _ _ e _ _ =>
    let same := s.tw.mirror.any (fun m => match m with
      | .group k' _ _ _ _ _ _ _ e' _ _ => k' == k && e' == e
      | _ => false)
    if same then s else modTw (fun t => { t with mirrorFirst := tput k (widen s .keel e) t.mirrorFirst }) s
  | _ => s

/-- A mirrored item is stored (R377). -/
def mirrorUpdate (i : Mirror) (s : State) : State :=
  match i with
  | .landing .. => mirrorUse i s
  | .capture .. => mirrorUse i s
  | _ => mirrorUse i (modTw (fun t => { t with mirror := (t.mirror.filter (fun x => !sameItem x i)) ++ [i] }) (mirrorFirstSet i s))

/-! The root role (R379). -/

/-- The sequence of intercalations and the pull go on where the mirrored state leaves them (R82). -/
def icalFromMirror (s : State) : State :=
  match s.tw.mirror.findSome? (fun i => match i with | .ical q x r l => some (q, x, r, l) | _ => none) with
  | some (q, x, r, l) => icalContinue q x r l s
  | none => s

/-- The package becomes primary root (R379): ROLE_EPOCH, TAKEOVER, PRIMARY, and ROOT_TABLE as by TABLE_APPLY. -/
def takeRole (s : State) : State :=
  let s1 := icalFromMirror (roleMirror (twinHist 5 (modTw (fun t => { t with primary := true, roleEpoch := t.roleEpoch + 1 }) s)))
  let tab := s1.cfg.hall.rootTable
  let s2 := forAll ((List.range tab.length).zip tab) (fun e s => wn (A.REF_TABLE e.1) (e.2.1 * 256 + e.2.2) s) s1
  if tab.isEmpty then s2 else tableApply .keel s2

/-- May the root's twin take the role: SOLO, the working twin of a SHADOW pair, or a ROOT_HANDOVER that gives it the role, and at its end
gives it back (R379, R393)? -/
def rootAlone (s : State) : Bool :=
  s.tw.mode == .solo || (s.tw.mode == .shadow && !s.tw.newcomer) || s.tw.drill.any (fun d => d.code == 3 && d.here == decide (d.steps = 0))

/-- The root's twin that stands alone takes the role once ROOT_WARM is set (R379). -/
def rootTakeover (s : State) : State :=
  if s.cfg.hall.rootPair ∧ ¬ s.tw.primary ∧ rootAlone s ∧ s.keel.ref.rootWarm ∧ serving s then takeRole s else s

/-- ROOT_TAKEOVER (R379). -/
def execRootTakeover (s : State) : Answer := done (rootTakeover s)

/-! Notices (R382, R388). -/

/-- A named package stores s_alt of each group; a notice after that LAUNCH sets NOTICE_MISSED, and the alternates wait for the
group's next launch (R382). A retiring notice gives the promoting step; the position of the package in this one's convoy is CURRENT
(R391). -/
def soloNoticeTake (lost : Nat) (alts : List (Nat × Nat)) (retire : Bool) (s : State) : State :=
  if retire then
    let here (p : Nat) : Bool := (s.cfg.hall.convoy.getD p (2 ^ 32, false, 0, 0)).1 == lost
    convRecompute (modTw (fun t => { t with
      retires := t.retires ++ alts.map (fun a => (lost, a.1, a.2))
      positions := if t.member then ((List.range 8).zip t.positions).map (fun x => if here x.1 then .current else x.2) else t.positions }) s)
  else
    let s1 := modTw (fun t => { t with
      alts := (t.alts.filter (fun x => x.2.2 != lost)) ++ alts.map (fun a => (a.1, a.2, lost)) }) s
    whenDo (alts.any (fun a => decide (a.2 ≤ (grp s .keel a.1).step))) (twinHist 12) s1

/-- SOLO_NOTICE_RECEIVE (R382). -/
def execSoloNoticeReceive (lost : Nat) (alts : List (Nat × Nat)) (retire : Bool) (s : State) : Answer :=
  done (soloNoticeTake lost alts retire s)

/-- CONVOY_LOSS_RECEIVE (R388). -/
def execConvoyLossReceive (pos total : Nat) (s : State) : Answer := done (convoyLoss pos total s)

/-! Parity (R385 to R387). -/

/-- A byte times g = 2 in GF(2^8) with the polynomial 0x11D (R386). -/
def gfDouble (x : Nat) : Nat := if 128 ≤ x then ((2 * x) ^^^ 0x11D) % 256 else 2 * x

/-- A byte times g^j (R386). -/
def gfMulG : Nat → Nat → Nat
  | 0, x => x
  | j + 1, x => gfMulG j (gfDouble x)

/-- The data chunk number of a position in a row: its place among the six positions that hold no parity, in ascending order
(R385). -/
def dataIndex (row p : Nat) : Nat := ((List.range p).filter (fun q => !(holders row).contains q)).length

/-- The address of a parity chunk of a row (R385): in the convoy-parity region of the row's stack. -/
def parityAddr (row : Nat) : Nat :=
  row / rowsPerStack * 2 ^ 37 + 0x0EE6B28000 + row % rowsPerStack / 4 * chunkLen

/-- P := P xor delta at the holder of P, Q := Q xor g^j × delta at the holder of Q (R386, R387), by an ERS engine under the segment
check (R274, R290; log entry 55): the answer says whether it was applied. -/
def parityApply (src : Nat) (r : Nat × List Byte) (s : State) : Bool × State :=
  let a := parityAddr r.1
  let n := r.2.length
  let dx := r.1 / rowsPerStack / 2
  let h := holders r.1
  let upd (f : Nat → Nat) : Bool × State :=
    let k := segNamed s dx a n 0x54 4
    let (old, s1) := stackRead dx k.1 k.2 a n s
    match old with
    | none => (false, s1)
    | some l => stackWrite dx k.1 k.2 a ((List.range n).map (fun i => l.getD i 0 ^^^ BitVec.ofNat 8 (f ((r.2.getD i 0).toNat)))) s1
  if h[0]? = some s.cfg.hall.pos then upd id
  else if h[1]? = some s.cfg.hall.pos then upd (gfMulG (dataIndex r.1 src))
  else (true, s)

/-- A bale's deltas are applied, and the bale is acknowledged where every one was (R387); an error that the stacks do not correct stops
the ERS engine with fault MEM (R288, R294). -/
def deltasApply (d : DeltaIn) (s : State) : State :=
  let s1 := forAll d.ecc.ce (fun st s => stkCe (st / 2) (st % 2) 1 s) (modTw (fun t => { t with deltas := t.deltas.erase d }) s)
  match d.ecc.ue, d.rows with
  | some st, r :: _ =>
    let a := parityAddr r.1
    engFault (st / 2) (segNamed s1 (st / 2) a r.2.length 0x54 4).2 (stkUe (st / 2) (st % 2) s1)
  | _, _ =>
    let (ok, s2) := d.rows.foldl (fun (y : Bool × State) r =>
      let (k, t) := parityApply (dataPos s d.src d.set) r y.2
      (y.1 && k, t)) (true, s1)
    if ok then emit (.ctrl ((s.cfg.hall.convoy.getD d.src (0, false, 0, 0)).1) ctrlAck [d.set, d.bale]) s2 else s2

/-- The bales whose frames are all in are applied where the ERS engines of their rows' dies run; while a die's clock stands still its
engines stall (R387, R426). -/
def deltasReady (s : State) : State :=
  forAll (s.tw.deltas.filter (fun d => decide (d.total ≤ d.frames.length) && d.rows.all (fun r => coreOn s (r.1 / rowsPerStack / 2))))
    deltasApply s

/-- A frame of a bale's deltas comes in (R387). -/
def parityDelta (src set bale frame frames : Nat) (delta : DeltaFrame) (s : State) : State :=
  if ¬ s.tw.member then s
  else
    let mine (d : DeltaIn) : Bool := d.src == src && d.set == set && d.bale == bale
    let was : DeltaIn := (s.tw.deltas.find? mine).getD ⟨src, set, bale, [], [], frames, {}⟩
    let now_ : DeltaIn := if was.frames.contains frame then was
      else { was with
        frames := was.frames ++ [frame], rows := was.rows ++ delta.rows
        ecc := ⟨was.ecc.ue.or delta.ecc.ue, was.ecc.ce ++ delta.ecc.ce⟩ }
    deltasReady (modTw (fun t => { t with deltas := t.deltas.filter (fun d => !mine d) ++ [now_] }) s)

/-- PARITY_DELTA (R387). -/
def execParityDelta (src set bale frame frames : Nat) (delta : DeltaFrame) (s : State) : Answer :=
  done (parityDelta src set bale frame frames delta s)

/-- FSTEP_CHANGE_DONE: the die's engines go on, and with them the deltas that waited (R426). -/
def execFstepChangeDone (die : Nat) (s : State) : Answer := done (if 5 ≤ die ∧ die < 7 then deltasReady (chainsGoOn (die - 5) (fstepDone die s)) else s)

/-- A holder acknowledges a bale; CONV_STEP follows the last acknowledgement of the pass (R387). -/
def parityAck (holder set bale : Nat) (s : State) : State :=
  let ack (d : Nat × Nat × List Nat) : Nat × Nat × List Nat :=
    if d.1 = set ∧ d.2.1 = bale then (d.1, d.2.1, d.2.2.filter (fun h => h != holder)) else d
  convMirror set (convAdvance (modTw (fun t => { t with deltaPend := (t.deltaPend.map ack).filter (fun d => !d.2.2.isEmpty) }) s))

/-- PARITY_ACK (R387). -/
def execParityAck (holder set bale : Nat) (s : State) : Answer := done (parityAck holder set bale s)

/-! Admission (R390 to R392). -/

/-- The fault that an admission meets at once, in the order of the codes (R390, R407). -/
def admitRefusal (key : BitVec 128) (s : State) : Option Nat :=
  if ¬ hbPresent s ∨ s.hl.partnerExpelled then some 1
  else if key ≠ detKey s then some 4
  else if s.tw.partnerConv = .lost then some 7
  else none

/-- ADMIT and ADMIT_COMPAT at the survivor of a SOLO pair: a ticket, and SHADOW (R374, R390). ADMIT_COMPAT applies only where the
newcomer is a 700-series part (R392; ignored otherwise: log entry 62). -/
def admitWrite (key : BitVec 128) (compat : Bool) (s : State) : State :=
  if s.tw.mode ≠ .solo ∨ (compat ∧ ¬ s.tw.partner700) then s
  else
    match nextTicket s with
    | none => noTicket s
    | some t =>
      let s1 := issueAs t 4 A.TWIN_TICKET .running s
      match admitRefusal key s with
      | some f => twinHist 8 (endTicket t f s1)
      | none => recordEvent 4 A.TWIN_CMD 0xFF (becomeWorking compat (some t) s1)

/-- ADMIT: the newcomer's DET_KEY (R390). -/
def execAdmitStart (key : BitVec 128) (s : State) : Answer := done (admitWrite key false s)

/-- ADMIT_COMPAT (R392). -/
def execAdmitCompat (key : BitVec 128) (s : State) : Answer := done (admitWrite key true s)

/-- DEMOTE_PARTNER (R374). -/
def execDemotePartner (s : State) : Answer := done (demotePartner s)

/-- CANCEL_ADMIT ends an admission with fault CANCELLED (R390). -/
def execCancelAdmit (s : State) : Answer := done (shadowFail 5 s)

/-- Bytes copied into this package's stacks, by an ERS engine of each stack's own die under the segment check, in bursts (R274, R290,
R291; log entry 55). -/
def copyIn (data : List (Nat × List Byte)) (s : State) : State :=
  forAll data (fun e s =>
    let dx := e.1 / 2 ^ 38
    let k := segNamed s dx e.1 e.2.length 0x54 4
    (stackWrite dx k.1 k.2 e.1 e.2 s).2) s

/-- What the newcomer has staged and what it holds WAITING for its partitions goes on to its activation before the state is copied,
which needs the descriptors: it serves nothing before its promotion (R391; log entry 61). -/
def newcomerCommits (s : State) : State :=
  if ¬ s.tw.newcomer then s
  else
    let s1 := modAlm (fun x => { x with
      phase := if x.commits.any (fun c => c.phase == .waiting && decide (c.part < 64)) then .activating else x.phase
      commits := x.commits.map (fun c => if c.phase == .waiting && decide (c.part < 64) then { c with phase := .activating, at_ := 0 } else c) }) s
    match s.alm.stage with
    | some x =>
      if hdrPart x.hdr < 64 ∧ (commitOf s1 (hdrPart x.hdr)).isNone then commitBegin (hdrPart x.hdr) 0 0 none s1 else s1
    | none => s1

/-- The newcomer's copy is whole: the position's data stand here and at its hosts until the promotion (R391). -/
def restoredPlace (s : State) : State :=
  if s.tw.newcomer ∧ s.tw.positions.getD (ownHall s).pos .absent = .erased then
    convRecompute (modTw (fun t => { t with positions := t.positions.set (ownHall s).pos .rebuilt }) s)
  else s

/-- The newcomer's servo is in TRACK: RESTORE, or COMPARE after a SOLO_DRILL, whose package kept its state (R391, R393). -/
def admitTrackReached (s : State) : State :=
  if s.tw.mode ≠ .shadow ∨ s.tw.adm ≠ .almanac ∨ (s.tw.newcomer ∧ s.keel.svo.stage ≠ .track) then s
  else if s.tw.drill.any (fun d => d.code == 2) then modTw (fun t => { t with adm := .compare, restoreDone := true }) s
  else newcomerCommits (modTw (fun t => { t with adm := .restore }) s)

/-- ADMIT_TRACK_REACHED (R391). -/
def execAdmitTrackReached (s : State) : Answer := done (admitTrackReached s)

/-- RESTORE ends (R391): `data` is what the newcomer has copied, and the position's parity chunks as recomputed. Later writes that the
hosts forward are copied too. -/
def restoreDone (bytes : Nat) (data : List (Nat × List Byte)) (s : State) : State :=
  if s.tw.mode ≠ .shadow ∨ s.tw.compat then s
  else
    match s.tw.adm with
    | .restore => admitCheck (restoredPlace (modTw (fun t => { t with adm := .compare, restoreDone := true, restored := bytes })
        (whenDo s.tw.newcomer (copyIn data) s)))
    | .compare => modTw (fun t => { t with restored := bytes }) (whenDo s.tw.newcomer (copyIn data) s)
    | .promoting => modTw (fun t => { t with restored := bytes }) (whenDo s.tw.newcomer (copyIn data) s)
    | _ => s

/-- RESTORE_DONE (R391). -/
def execRestoreDone (bytes : Nat) (data : List (Nat × List Byte)) (s : State) : Answer := done (restoreDone bytes data s)

/-- The newcomer's built-in test ends: the stream follows, or the admission ends with fault BIST (R392). -/
def compatBistDone (pass : Bool) (s : State) : State :=
  if s.tw.mode ≠ .shadow ∨ s.tw.adm ≠ .bist then s
  else if pass then newcomerCommits (modTw (fun t => { t with adm := .restore }) s)
  else shadowFail 3 s

/-- COMPAT_BIST_DONE (R392). -/
def execCompatBistDone (pass : Bool) (s : State) : Answer := done (compatBistDone pass s)

/-- The state stream ends; with it the working twin has sent the control state, and the newcomer is promoted at the next step boundary (R392),
after a rebuild (R389). -/
def compatStreamDone (data : List (Nat × List Byte)) (s : State) : State :=
  if s.tw.mode ≠ .shadow ∨ ¬ s.tw.compat ∨ s.tw.adm ≠ .restore then s
  else admitCheck (restoredPlace (modTw (fun t => { t with restoreDone := true })
    (if s.tw.newcomer then copyIn data s else mirrorHeld s)))

/-- COMPAT_STREAM_DONE (R392). -/
def execCompatStreamDone (data : List (Nat × List Byte)) (s : State) : Answer := done (compatStreamDone data s)

/-! Rehearsals (R393, R394). -/

/-- REH_INTERVAL in minutes, the enabled drills (R393, R395). -/
def rehInterval (s : State) : Nat := rf s A.REH_CTRL 16 16
def rehMenu (s : State) : List Nat :=
  [1, 2, 3, 4].filter (fun c => flag s A.REH_CTRL c && (c != 3 || s.cfg.hall.rootPair))

/-- An interval in 2^-32 ns. -/
def minutesU (m : Nat) : Nat := m * 60 * nsPerSec * 2 ^ 32

/-- The next drill becomes due: in ascending code among those enabled (R393). -/
def rehDue (s : State) : State :=
  if rehInterval s = 0 ∨ ¬ s.cfg.hallActive ∨ ¬ fullAtOrAfter (now s .keel) s.tw.rehNext then s
  else
    let m := rehMenu s
    let c := (m.find? (fun c => decide (s.tw.lastCode < c))).or m.head?
    roleMirror (modTw (fun t => { t with
      rehNext := fabAdd t.rehNext (minutesU (rehInterval s) : Nat)
      rehDue := match t.rehDue with | some d => some d | none => c }) s)

/-- REH_DUE (R393). -/
def execRehDue (s : State) : Answer := done (rehDue s)

/-- REH_NOW names a drill for the next eligible launch; codes outside 1 to 4 are ignored (R394, R472). -/
def execRehNow (drill : Nat) (s : State) : Answer :=
  done (if 1 ≤ drill ∧ drill ≤ 4 ∧ (drill ≠ 3 ∨ s.cfg.hall.rootPair) then modTw (fun t => { t with rehNow := some drill }) s
    else s)

/-- May a drill fire (R394)? -/
def rehEligible (s : State) : Bool :=
  s.tw.mode == .split && s.tw.convState == .healthy && s.tw.adm == .none && s.tw.drill.isNone

/-- A drill fires (R393, R394). Of a ROOT_HANDOVER the one that gives the role keeps it until its twin, once warm, has taken it, and then
demotes itself (R379, R380). The first SOLO_DRILL stops plane A's package (DESIGN CHOICE, log entry 62). -/
def rehFire (code : Nat) (s : State) : State :=
  let here := match code with
    | 2 => s.tw.soloLast.elim (!s.straps.planeB) (fun q => q != b2n s.straps.planeB)
    | 3 => s.tw.primary
    | _ => true
  let n := (s.tw.rehNumber + 1) % 65536
  let s1 := roleMirror (modTw (fun t => { t with
    drill := some { code := code, steps := rn s A.REH_STEPS, number := n, here := here, since := pe s .keel }, rehNumber := n
    lastCode := code, rehDue := none, rehNow := none, deferSince := none
    soloLast := if code = 2 then some (if here then b2n s.straps.planeB else 1 - b2n s.straps.planeB) else t.soloLast }) s)
  let s2 := recordEvent 4 A.REH_LAST 0xFF (twinHist 13 (wn A.REH_LAST (n * 65536 + code * 256)
    (bump A.REH_COUNT s1)))
  match code with
  | 1 => emit (.pin .twinLink false) (linkDown .keel 512 s2)
  | 2 =>
    let s3 := twinHist 0 (modTw (fun t => { t with mode := .solo }) s2)
    if here then abortAll 3 s3 else soloNotice s3
  | 3 => if here then s2 else rootTakeover s2
  | _ => s2

/-- The steps of a drill that lasts REH_STEPS end: the stopped package returns by admission, the role returns (R393). -/
def drillReturn (d : Drill) (s : State) : State :=
  match d.code with
  | 2 => if s.tw.mode ≠ .solo then s else if d.here then becomeNewcomer false s else becomeWorking false none s
  | 3 => if d.here then rootTakeover s else s
  | _ => s

/-- At a LAUNCH a drill that runs counts the step; one that is due fires or is deferred (R393, R394). -/
def rehAtLaunch (s : State) : State :=
  match s.tw.drill with
  | some d =>
    if d.steps = 0 then s
    else
      let s1 := modTw (fun t => { t with drill := some { d with steps := d.steps - 1 } }) s
      if d.steps = 1 then drillReturn d s1 else s1
  | none =>
    match s.tw.rehNow.or s.tw.rehDue with
    | none => s
    | some c =>
      if rehEligible s then rehFire c s
      else
        bump A.REH_DEFER (modTw (fun t => { t with
          deferSince := match t.deferSince with | some x => some x | none => some (pe s .keel) }) s)

/-- Entries of a failed drill are logged untagged (R394). -/
def untag (n : Nat) (s : State) : State :=
  let f (e : LogEntry) : LogEntry := if e.reh ∧ e.rehNo = n % 256 then { e with reh := false, rehNo := 0 } else e
  { s with hl := { s.hl with logs := s.hl.logs.map (fun l => (l.1, { l.2 with head := l.2.head.map f, ring := l.2.ring.map f })) } }

/-- Has what a drill must show been seen: of a TWIN_CUT, LINK_LOST and then LINK UP (R393)? -/
def drillShown (d : Drill) (s : State) : Bool := d.code != 1 || (d.lost && s.tw.link == .up)

/-- The place in the rebuild reserve of a stack to which a CONVOY_VERIFY rebuilds a chunk (R384, R393; log entry 62). -/
def verifyPlace (a : Nat) : Nat := a / 2 ^ 37 * 2 ^ 37 + protectedLen + a % 2 ^ 37 % (0x0EE6B28000 - protectedLen)

/-- A CONVOY_VERIFY: the rebuilt chunks are written to the own reserve and compared with the data byte by byte; nothing is replaced
(R393). -/
def drillVerify (d : Drill) (l : List (Nat × List Byte)) (s : State) : Bool × State :=
  if d.code ≠ 4 then (true, s)
  else
    let s1 := copyIn (l.map (fun e => (verifyPlace e.1, e.2))) s
    (l.all (fun e => getBytes s1.die.stack (verifyPlace e.1) e.2.length == getBytes s.die.stack e.1 e.2.length), s1)

/-- A drill ends (R393, R394): REH_LAST, and REH_FAIL for one that fails, or that has not shown what it must; a link still held down
is let go. -/
def drillEnd (asked : Nat) (rebuilt : List (Nat × List Byte)) (s : State) : State :=
  match s.tw.drill with
  | none => s
  | some d =>
    let (same, s0) := drillVerify d rebuilt s
    let result := if same ∧ drillShown d s then asked else 1
    let s1 := wn A.REH_LAST (d.number * 65536 + d.code * 256 + result) s0
    let s2 := recordEvent 4 A.REH_LAST 0xFF s1
    let s3 := modTw (fun t => { t with drill := none }) s2
    let s4 := whenDo (d.code == 1 && !d.freed) (emit (.pin .twinLink true)) s3
    if result = 1 then twinHist 14 (untag d.number s4) else s4

/-- DRILL_END (R393). -/
def execDrillEnd (r : DrillResult) (s : State) : Answer := done (drillEnd (if r.passed then 0 else 1) r.rebuilt s)

/-- REH_STARVED: a drill has been deferred for 24 h (R394). -/
def execRehStarved (s : State) : Answer :=
  done (match s.tw.deferSince with
    | some t => if secC 86400 ≤ pe s .keel - t then twinHist 15 s else s
    | none => s)

end Sys2Proof.Machine
end

