-- ==== Sys2Proof/Machine/Commit.lean ====
section
/-! DEFINITION. COMMIT, its vote, its activation and its rollback, and the teardown of a partition (R343 to R349). -/

namespace Sys2Proof.Machine

/-! What a COMMIT would change. -/

/-- Change the commit of a PART. -/
def modCommit (part : Nat) (f : Commit → Commit) (s : State) : State :=
  modAlm (fun x => { x with commits := x.commits.map (fun c => if c.part = part then f c else c) }) s

/-- The change that a COMMIT makes; host writes alone have no KIND. -/
def changeOf (c : Commit) : Change :=
  ⟨c.hdr.map (fun h => h.kind), (c.hdr.map (fun h => h.types)).getD [], c.part, c.teardown, c.items⟩

/-- The resources that a COMMIT takes from their partition. -/
def commitGone (s : State) (c : Commit) : List Res := goneRes s.cfg (ownersAfter s.cfg (changeOf c))

/-- Is the partition of an engine of a die not the same under two partition tables (R301, R309)? -/
def engMoved (a b : List (Res × Nat)) (dx e : Nat) : Bool := ownerIn a (.engine (5 + dx) e) != ownerIn b (.engine (5 + dx) e)

/-- The engines, by reduce die place, whose partition is not the same under two partition tables. -/
def engsMoved (a b : List (Res × Nat)) : List (Nat × Nat) :=
  ([0, 1].flatMap (fun dx => (List.range 108).map (fun e => (dx, e)))).filter (fun x => engMoved a b x.1 x.2)

/-- A staged register of the COMMIT that differs from the one in force. -/
def regChanges (s : State) (c : Commit) (lo hi : Nat) : Bool :=
  c.regs.any (fun e => decide (lo ≤ e.1) && decide (e.1 < hi) && (e.2 &&& rwcMask e.1) != (rd s e.1 &&& rwcMask e.1))

/-- The PARTITION that a COMMIT gives a gate, none where it unbinds it (R306, R309). -/
def gatePartAfter (s : State) (c : Commit) (dx g : Nat) : Nat :=
  match c.regs.find? (fun e => e.1 == A.GATE_CFG dx g) with
  | some e => bits e.2 16 8
  | none => if (commitGone s c).contains (.gate (5 + dx) g) then 0xFF else gatePart s dx g

/-- The FILLING gates that refuse a COMMIT which changes an engine's partition (R309). -/
def gatesBusy (s : State) (c : Commit) (dx : Nat) : List Nat :=
  let moved := engsMoved s.cfg.owners (ownersAfter s.cfg (changeOf c))
  if moved.isEmpty then []
  else (List.range 16).filter (fun g => (gateOf s dx g).arrived != 0 &&
    ((maskEngines (gateMask s dx g)).any (fun e => moved.contains (dx, e)) || gatePartAfter s c dx g != gatePart s dx g))

/-- Does a descriptor with bursts outstanding change or become invalid (R292)? -/
def segsBusy (s : State) (c : Commit) (dx : Nat) : Bool :=
  (List.range 256).any (fun i => (segOf s dx i).active && decide (segOutstanding s dx i ≠ 0) &&
    ((commitGone s c).contains (.seg (5 + dx) i) || regChanges s c (A.SEG_BASE dx i) (A.SEG_BASE dx i + 0x20)))

/-- Is a table bound to a sequencer of an absent die (R200, R343)? -/
def absentTable (s : State) (c : Commit) : Bool :=
  c.items.any (fun i => match i with | .seq q _ => !reduceDie s (q / 4) | _ => false)

/-- The dies that refuse, and the fault (R343). -/
def refusals (s : State) (c : Commit) : Nat × Nat :=
  let ds := [0, 1].filter (fun dx => reduceDie s dx)
  let g := ds.filter (fun dx => !(gatesBusy s c dx).isEmpty)
  let b := ds.filter (fun dx => segsBusy s c dx)
  let a := absentTable s c
  let mask := ((g ++ b).eraseDups).foldl (fun m dx => m + 2 ^ (5 + dx)) (b2n a)
  (mask, if !g.isEmpty then 2 else if !b.isEmpty then 3 else if a then 8 else 0)

/-- The partition of a PART: the alternates of a group are of the group's (R382). -/
def partOf (s : State) (part : Nat) : Nat := if part < 0x80 then part else ownerPart s (.group (part - 0x80))

/-- The sequencers of PART: of the hall, all. -/
def partSeqs (s : State) (part : Nat) : List Nat :=
  (List.range 8).filter (fun q => part == 0x7F || seqPart s q == partOf s part)

/-! PREPARE. -/

/-- A COMMIT ends (R343): COMMIT_STAT, its ticket; a teardown's request is worked no more. An activation of alternates shows nothing
there (R382). -/
def commitEnd (c : Commit) (fault : Nat) (s : State) : State :=
  let s1 := modAlm (fun x => { x with
    commits := x.commits.filter (fun y => y.part != c.part)
    phase := if c.part < 0x80 then .idle else x.phase, fault := if c.part < 0x80 then fault else x.fault
    working := if x.working.any (fun r => c.ticket == some r.ticket) then none else x.working }) s
  whenDo (decide (c.part < 0x80)) (recordEvent 14 A.COMMIT_STAT 0xFF) (endTicket? c.ticket fault s1)

/-- A write of ALM_COMMIT with GO (R343): a ticket, and PREPARE. A commit of PART that the twin's WAITING one began (R377) gives way
to the host's. -/
def almCommit (v : Word) (s : State) : State :=
  let part := bits v 0 7
  if ¬ bit v 31 ∨ (64 ≤ part ∧ part ≠ 0x7F) then s
  else if (commitOf s part).any (fun c => c.ticket.isSome || c.phase == .activating) then raiseFlag A.ALM_STAT 2 0 12 s
  else
    match nextTicket s with
    | none => raiseFlag A.ALM_STAT 2 0 12 (noTicket s)
    | some t => commitBegin part (rn64 s A.COMMIT_AT) (bits v 8 6) (some t) (issueAs t 14 A.COMMIT_TICKET .running s)

/-- ALM_COMMIT (R343). -/
def execAlmCommit (v : Word) (s : State) : Answer := done (almCommit v s)

/-- The flags of a refusal: GATE_BUSY, SEG_BUSY (R309, R292). -/
def refusalFlags (c : Commit) (s : State) : State :=
  forAll [0, 1] (fun dx s =>
    whenDo (reduceDie s dx && segsBusy s c dx) (setFlag (A.SEG_STAT dx) 2)
      (forAll (if reduceDie s dx then gatesBusy s c dx else []) (fun g s => setFlag (A.GATE_STAT dx g) 2 s) s)) s

/-- Every die has voted (R343, R344); before stage 9 only a hall COMMIT goes on (R433). -/
def prepareVotes (part : Nat) (s : State) : State :=
  match commitOf s part with
  | none => s
  | some c =>
    if c.phase ≠ .preparing ∨ (s.clks.stage ≠ 9 ∧ c.part ≠ 0x7F ∧ ¬ c.teardown) then s
    else if ¬ c.teardown ∧ c.items.isEmpty ∧ c.hdr.isNone ∧ c.regs.isEmpty then commitEnd c 1 s
    else
      let (mask, fault) := refusals s c
      let ready := BitVec.ofNat 8 (dieMask s) &&& ~~~ BitVec.ofNat 8 mask
      let s1 := modCommit part (fun c => { c with ready := ready, refuse := BitVec.ofNat 8 mask })
        (modAlm (fun x => { x with ready := ready, refuse := BitVec.ofNat 8 mask }) s)
      if fault ≠ 0 then commitEnd c fault (refusalFlags c s1)
      else if c.at_ = 0 then modCommit part (fun c => { c with phase := .activating }) (modAlm (fun x => { x with phase := .activating }) s1)
      else if c.at_ ≤ (grp s .keel c.group).step then commitEnd c 4 s1
      else
        mirrorSplit 4 [part, c.at_, c.group]
          (modCommit part (fun c => { c with phase := .waiting }) (modAlm (fun x => { x with phase := .waiting }) s1))

/-- PREPARE_VOTES_DONE (R343). -/
def execPrepareVotesDone (part : Nat) (s : State) : Answer := done (prepareVotes part s)

/-- The commits that wait for a LAUNCH activate with it: until they have, no sequencer of their PART issues index 0 (R344, R345,
R351). -/
def commitsAtLaunch (k step : Nat) (t : BitVec 64) (all : Bool) (s : State) : State :=
  let due (c : Commit) : Bool := c.phase == .waiting && (all || (c.group == k && c.at_ == step))
  modAlm (fun x => { x with
    phase := if x.commits.any due then .activating else x.phase
    commits := x.commits.map (fun c => if due c then { c with phase := .activating, t := t } else c) }) s

/-- At a LAUNCH of a group the alternates that wait for it activate, and those under a retiring notice retire, as a commit for that
step does, without the stage (R382, R391). -/
def altsAtLaunch (k step : Nat) (t : BitVec 64) (s : State) : State :=
  let due := s.tw.alts.filter (fun a => a.1 == k && decide (a.2.1 ≤ step))
  let gone := s.tw.retires.filter (fun r => r.2.1 == k && decide (r.2.2 ≤ step))
  let alts := due.flatMap (fun d => (altsFor s d.2.2).filter (fun a => a.group == k && a.kind != 2))
  let back := gone.filterMap (fun r => if s.tw.activeAlts.any (fun a => a.lost == r.1 && a.group == k) then some r.1 else none)
  if (commitOf s (0x80 + k)).isSome then s
  else
    let s1 := modTw (fun x => { x with
      alts := x.alts.filter (fun a => !(a.1 == k && decide (a.2.1 ≤ step)))
      retires := x.retires.filter (fun r => !(r.2.1 == k && decide (r.2.2 ≤ step))) }) s
    if alts.isEmpty ∧ back.isEmpty then s1
    else
      let c : Commit := {
        part := 0x80 + k, at_ := step, group := k, ticket := none, teardown := false, phase := .activating, items := [], hdr := none
        regs := [], ready := 0, refuse := 0, before := none, acks := 0, since := 0, t := t, alts := alts, retires := back }
      modAlm (fun x => { x with commits := x.commits ++ [c] }) s1

/-- Is a sequencer held: an activation of its partition is under way, or it stays held after a rollback (R345)? -/
def seqHeld (s : State) (q : Nat) : Bool :=
  s.alm.held.contains (seqPart s q) || s.alm.held.contains 0x7F ||
    s.alm.commits.any (fun c => c.phase == .activating && (c.part == 0x7F || partOf s c.part == seqPart s q))

/-! ACTIVATE. -/

/-- The registers that the items of an almanac set beside the staged values: the compiled limits of a table (R212), ROOT_TABLE. -/
def itemRegs (i : AlmItem) (s : State) : State :=
  match i with
  | .seq q t => wf (A.SEQ_CFG q) 8 3 t.table.fSched (wf (A.SEQ_CFG q) 16 8 t.table.guardLimit s)
  | .refTable t rev =>
    forAll ((List.range 8).zip t) (fun e s => wn (A.REF_TABLE e.1) (e.2.1 * 256 + e.2.2) s) (putFlag A.REF_CTRL 0 rev s)
  | _ => s

/-- The registers that `itemRegs` sets. -/
def itemAddrs : AlmItem → List Nat
  | .seq q _ => [A.SEQ_CFG q]
  | .refTable .. => A.REF_CTRL :: (List.range 8).map A.REF_TABLE
  | _ => []

/-- The bindings in force of every waystation: the variant that WS_CFG names (R228). -/
def wsInForce (s : State) : State :=
  let rs := (s.cfg.wsVars.map (fun e => e.1 / 4)).eraseDups
  let pick (r : Nat) : WsCfg := tget {} s.cfg.wsVars (4 * r + rf s (A.WS_CFG (r / 512) (r % 512)) 28 2)
  { s with cfg := { s.cfg with ws := rs.foldl (fun t r => tset {} t r (pick r)) [] } }

/-- Does a COMMIT leave a waystation record alone: neither its binding nor its WS_CFG is its own, nor is the tree that it serves
unbound? -/
def recordKept (c : Commit) (gone : List Res) (cfg0 : HwCfg) (r : Nat) : Bool :=
  !c.items.any (fun i => match i with | .ws r' _ => r' == r | _ => false) &&
    !c.regs.any (fun e => e.1 == A.WS_CFG (r / 512) (r % 512)) && !gone.contains (.tree (tget {} cfg0.ws r).tree.toNat)

/-- Alternates in force stay in force over a COMMIT that leaves their records alone (R382, R391). -/
def altsStay (c : Commit) (gone : List Res) (cfg0 : HwCfg) (s : State) : State :=
  let rs := ((s.tw.activeAlts.flatMap (fun a => a.ws.map (fun e => e.1))).eraseDups).filter (recordKept c gone cfg0)
  { s with cfg := { s.cfg with ws := rs.foldl (fun t r => tset {} t r (tget {} cfg0.ws r)) s.cfg.ws } }

/-- Bindings put in the place of those in force. -/
def wsPut (l : List (Nat × WsCfg)) (s : State) : State :=
  forAll l (fun e s => { s with cfg := { s.cfg with ws := tset {} s.cfg.ws e.1 e.2 } }) s

/-- The alternates in force that an activation retires. -/
def altsBack (s : State) (c : Commit) : List ActiveAlt :=
  s.tw.activeAlts.filter (fun a => 0x80 + a.group == c.part && c.retires.contains a.lost)

/-- Every die swaps its shadow in (R345): the configuration, the registers. Where the activation waits for no step, RUNNING sequencers
of PART abort SWITCH, and with a teardown or a change of their partition those that are ARMED too (R344, R348). -/
def commitSwap (c : Commit) (s : State) : State :=
  let gone := commitGone s c
  let stops := (List.range 8).filter (fun q => (seqOf s q).state == .running && (partSeqs s c.part).contains q || gone.contains (.seq q))
  let s1 := whenDo (c.at_ == 0) (fun s => forAll stops (fun q s => seqAbort q 3 s) s) s
  let keep : Table Word := (c.regs.map (fun e => e.1) ++ c.items.flatMap itemAddrs).map (fun a => (a, rd s a))
  let cfg0 := s1.cfg
  let s3 := if 0x80 ≤ c.part then wsPut (c.alts.flatMap (fun a => a.ws)) (wsPut ((altsBack s c).flatMap (fun a => a.ws)) s1)
    else
      let s2 := { s1 with
        cfg := cfgAfter cfg0 (changeOf c)
        staged := s1.staged.filter (fun e => !c.regs.any (fun y => y.1 == e.1 && y.2 == rdStaged s1 e.1)) }
      altsStay c gone cfg0 (wsInForce
        (forAll c.items itemRegs (forAll c.regs (fun e s => wr e.1 ((rd s e.1 &&& ~~~ rwcMask e.1) ||| (e.2 &&& rwcMask e.1)) s) s2)))
  modCommit c.part (fun c => { c with before := some (cfg0, keep), since := pe s .keel }) (fstepAll s3)

/-! What the swap takes away. `o` is the machine's registers and configuration before it. -/

/-- Does a COMMIT set a register? -/
def kept (keep : Table Word) (a : Nat) : Bool := keep.any (fun e => e.1 == a)

/-- A register of a resource that is unbound reads its reset value, but for what the COMMIT sets there. -/
def unbindReg (keep : Table Word) (a : Nat) (s : State) : State := if kept keep a then s else wn a 0 s

/-- An engine loses its partition (R284, R301, R308, R315): the gates that it was a member of break, a DMA engine is pre-empted, its
tallies are cleared, and the banks that it owns pass to the host, cleared. -/
def unbindEng (o : State) (dx e : Nat) (s : State) : State :=
  let s0 := if isDma e then dmaPreempt dx (e - 0x58) (gateLeave o dx e s)
    else forAll ((List.range 16).filter (fun g => (gateMask o dx g).getLsbD e)) (fun g s => gateBreak dx g 1 s) s
  let s2 := clearEngTallies dx e s0
  forAll ((List.range 256).filter (fun b => (bankOf s dx b).owner == e)) (fun b s =>
    modBank dx b (fun x => { x with clearing := true }) s) s2

/-- A descriptor becomes invalid, and what it covered in regions 0 to 2 is scrubbed (R293). -/
def unbindSeg (o : State) (keep : Table Word) (dx i : Nat) (s : State) : State :=
  let was := (segOf s dx i).active
  let s0 := if kept keep (A.SEG_CFG dx i) then s else clrFlag (A.SEG_CFG dx i) 31 s
  let s1 := modSeg dx i (fun x => { x with active := false, held := false }) s0
  if was ∧ segRegion o dx i < 3 then
    modSeg dx i (fun x => { x with scrubbing := true })
      (modDie (fun x => { x with scrubs := x.scrubs ++ [(dx, segBase o dx i, segLimit o dx i, segPart o dx i)] }) s1)
  else s1

/-- The records and the sets of a tree are torn down (R213, R240). -/
def unbindTree (o : State) (keep : Table Word) (t : Nat) (s : State) : State :=
  let us := (o.cfg.psets.filter (fun e => e.2.tree.toNat == t)).map (fun e => e.1)
  forAll us (fun u s => if kept keep (A.PSET_CFG (u / 32) (u % 32)) then s else clrFlag (A.PSET_CFG (u / 32) (u % 32)) 31 s)
    (modDie (fun x => { x with
      ws := x.ws.filter (fun e => (tget {} o.cfg.ws e.1).tree.toNat != t), psets := x.psets.filter (fun e => !us.contains e.1) }) s)

/-- What the twin mirrored of a group that is no more concerns none that is created later (R172, R179). -/
def mirrorForget (k : Nat) (s : State) : State :=
  modTw (fun t => { t with
    mirror := t.mirror.filter (fun m => match m with
      | .group k' .. => k' != k
      | .launch k' .. => k' != k
      | _ => true)
    mirrorFirst := t.mirrorFirst.filter (fun e => e.1 != k) }) s

/-- A resource is unbound (R284, R293, R301, R308, R348). -/
def unbind (o : State) (keep : Table Word) (r : Res) (s : State) : State :=
  match r with
  | .engine d e => unbindEng o (d - 5) e s
  | .bank .. => s
  | .seg d i => unbindSeg o keep (d - 5) i s
  | .gate d g =>
    let a := A.GATE_MASK (d - 5) g
    gateBreak (d - 5) g 1 <| unbindReg keep (A.GATE_CFG (d - 5) g) (forAll [a, a + 4, a + 8, a + 12] (unbindReg keep) s)
  | .seq q => modSeq q (fun x => { x with state := .idle, next := none }) (unbindReg keep (A.SEQ_CFG q) (unbindEng o (q / 4) (0x68 + q % 4) s))
  | .tree t => unbindTree o keep t s
  | .group k =>
    modGrp .keel k (fun _ => {}) (if kept keep (A.GRP_CFG k) then mirrorForget k s else clrFlag (A.GRP_CFG k) 16 (mirrorForget k s))
  | .dest _ => s

/-- The counted arrivals that come from a binding's own: its members, its child aggregators, this package. -/
def boundIn (s : State) (c : GroupCfg) (l : List Counted) : List Counted :=
  l.filter (fun y => if y.aggregate then c.children.any (fun x => x.node == y.node)
    else c.members.any (fun m => m.node == y.node) || (c.adjContrib && y.node.toNat == nodeId s .keel))

/-- A group is created with STEP 0, or its membership changes (R172, R173): at once for a COMMIT that came with the group's LAUNCH,
since the muster for the step after it is the first under the new membership (R344), else for the next muster; one whose launch is
decided and waits for the twin is not over yet. -/
def groupTakes (was launched : Bool) (k : Nat) (c : GroupCfg) (s : State) : State :=
  if was then
    (if (musterOn s .keel k ∨ launchDecided (grp s .keel k)) ∧ ¬ launched then modGrp .keel k (fun g => { g with cfgNext := some c }) s
     else modGrp .keel k (fun g => { g with
       cfg := c, cfgNext := none
       planes := g.planes.map (fun x => { x with counted := boundIn s c x.counted, held := boundIn s c x.held }) }) s)
  else modGrp .keel k (fun _ => { cfg := c, params := groupParams s k }) (mirrorForget k s)

/-- A port takes what the port map says (R346): a change of its grouping costs ASYM_VALID, and it recalibrates. -/
def portTakes (was : PortCfg) (p : Nat) (c : PortCfg) (s : State) : State :=
  let s1 := modPort .keel p (fun x => { x with role := roleOf c.role, mode := BitVec.ofNat 3 c.mode }) s
  let s2 := whenDo (c.role != 2) (portLost .keel p) s1
  if was.lanes = c.lanes ∧ was.mode = c.mode then s2
  else
    let s3 := portLost .keel p (modPort .keel p (fun x => { x with asymValid := false }) s2)
    if (port s3 .keel p).linkUp ∧ ¬ (port s3 .keel p).calibrating then calBegin .keel p none s3 else s3

/-- MISWIRE is judged anew under the port map (R356). -/
def miswireAgain (p : Nat) (s : State) : State :=
  let x := nbrOf s .keel p
  if x.twoWay ∧ (expectOf s .keel p).any (fun e => e != (x.node, x.port)) then setMiswire .keel p s
  else modNbr .keel p (fun x => { x with miswire := false }) s

/-- A port that the port map names no more: a lane that is no keel lane now has no port, and no neighbour (R353). -/
def portDrops (was : PortCfg) (p : Nat) (s : State) : State :=
  if portThere s .keel p then portTakes was p {} s
  else
    let s1 := match (port s .keel p).calTicket with
      | some t => let (f, y) := takeFree s
                  endTicket t (1 + f % 255) y
      | none => s
    { (modPort .keel p (fun _ => {}) (portLost .keel p s1)) with
      rt := { s1.rt with nbrs := tdel p s1.rt.nbrs, egress := tdel p s1.rt.egress } }

/-- A spill circuit that is named no more is released (R369). -/
def spillDrops (x : Nat × Nat) (s : State) : State :=
  if (bypOf s x.1).spill ∧ (bypOf s x.1).peer = some x.2 then
    emit (.circuit x.1 x.2 false) (modByp x.1 (fun _ => {}) (modByp x.2 (fun _ => {}) s))
  else s

/-- What a section that is replaced leaves out goes, its owner apart (R335). -/
def leftOut (o : State) (keep : Table Word) (gone : List Res) (s : State) : State :=
  let c0 := o.cfg
  let out (l m : List Nat) : List Nat := l.filter (fun k => !m.contains k)
  let s1 := forAll (out (c0.seqs.map (fun e => e.1)) (s.cfg.seqs.map (fun e => e.1))) (fun q s =>
    if gone.contains (.seq q) then s else modSeq q (fun x => { x with state := .idle, next := none }) (unbindReg keep (A.SEQ_CFG q) s)) s
  let s2 := forAll (out (c0.groups.map (fun e => e.1)) (s.cfg.groups.map (fun e => e.1))) (fun k s =>
    if gone.contains (.group k) then s else unbind o keep (.group k) s) s1
  let us := out (c0.psets.map (fun e => e.1)) (s.cfg.psets.map (fun e => e.1))
  let s3 := forAll us (fun u s => if kept keep (A.PSET_CFG (u / 32) (u % 32)) then s else clrFlag (A.PSET_CFG (u / 32) (u % 32)) 31 s)
    (modDie (fun x => { x with
      ws := x.ws.filter (fun e => (tfind e.1 s.cfg.ws).isSome), psets := x.psets.filter (fun e => !us.contains e.1) }) s2)
  let s4 := forAll (out (c0.ports.map (fun e => e.1)) (s.cfg.ports.map (fun e => e.1))) (fun p s => portDrops (tget {} c0.ports p) p s) s3
  forAll (c0.spills.filter (fun x => !s.cfg.spills.contains x)) spillDrops s4

/-- The roles and the mode that a hall almanac gives the package (R14, R374, R384, R393); an admission under way ends CANCELLED
(DESIGN CHOICE, log entry 61). -/
def hallTakes (serial : Nat) (h : HallCfg) (s : State) : State :=
  let s0 := whenDo (s.tw.mode == .shadow && !s.tw.newcomer) (fun s => twinHist 8 (endTicket? s.tw.admitTicket 5 s)) s
  let s1 := { s0 with cfg := { s0.cfg with hallActive := true, hallSerial := serial } }
  let pos : List ConvPos := (List.range 8).map (fun i => if i < h.convoy.length then .current else .absent)
  let s2 := modTw (fun t => { t with
    primary := h.rootPair && h.primaryHere, newcomer := false, adm := .none, admitTicket := none, stopped := false, peerChip := none
    member := !h.convoy.isEmpty
    positions := if t.member ∧ !h.convoy.isEmpty then (if s.tw.newcomer then t.positions.set h.pos .current else t.positions) else pos
    rehNext := fabAdd (now s .keel) (minutesU (rehInterval s) : Nat) }) s1
  if hbPresent s2 ∧ (h.partner.map (fun p => p.2)) = s2.tw.hbChip then
    levelCheck true (twinHist 2 (modTw (fun t => { t with mode := .split }) s2))
  else enterSolo s2

/-- A parameter set is created (R231, R240); one that is bound again keeps its state. -/
def psetTakes (was : Bool) (u : Nat) (s : State) : State :=
  if was then s else modDie (fun d => { d with psets := tdel u d.psets }) s

/-- A gate is rejected at COMMIT (R306): CFG_BAD, and its fields stay what they were. -/
def gateCheck (keep : Table Word) (dx g : Nat) (s : State) : State :=
  let m := gateMask s dx g
  let touched := keep.any (fun e => decide (A.GATE_MASK dx g ≤ e.1) && decide (e.1 < A.GATE_MASK dx g + 0x24))
  let bad := decide (2 ^ 108 ≤ m.toNat) || (maskEngines m).any (fun e => engPart s dx e != gatePart s dx g)
  if touched ∧ bad then
    setFlag (A.GATE_STAT dx g) 4 (forAll (keep.filter (fun e =>
      decide (A.GATE_MASK dx g ≤ e.1) && decide (e.1 < A.GATE_MASK dx g + 0x24))) (fun e s => wr e.1 e.2 s) s)
  else s

/-- The descriptors whose fields a COMMIT has replaced (R290). -/
def segsTouched (keep : Table Word) (dx : Nat) : List Nat :=
  (List.range 256).filter (fun i => keep.any (fun e =>
    decide (A.SEG_BASE dx i ≤ e.1) && decide (e.1 < A.SEG_BASE dx i + 0x20)))

/-- A waystation whose tree is created, whose current variant changes, or that is given another residual area, starts with clear written
bits (R228, R260). -/
def wsFresh (before : HwCfg) (s : State) : State :=
  forAll s.cfg.ws (fun e s =>
    let o := tget {} before.ws e.1
    if o.enable = e.2.enable ∧ o.tree = e.2.tree ∧ o.variant = e.2.variant ∧ o.efSeg = e.2.efSeg then s
    else modDie (fun d => { d with ws := tmod {} d.ws e.1 (fun x => { x with written := [] }) }) s) s

/-- The items of an almanac take effect beside the swap. -/
def itemTakes (before : HwCfg) (gone : List Res) (serial : Nat) (c : Commit) (i : AlmItem) (s : State) : State :=
  match i with
  | .hall h => hallTakes serial h s
  | .port p x => portTakes (tget {} before.ports p) p x s
  | .bind v p => bindRef .keel v p s
  | .refTable t rev => modRef .keel (fun r => { r with applyPend := some (t, rev) }) s
  | .group k x => groupTakes ((tfind k before.groups).isSome && !gone.contains (.group k)) (c.at_ != 0 && c.group == k) k x s
  | .pset u _ => psetTakes ((tfind u before.psets).any (fun y => !gone.contains (.tree y.tree.toNat))) u s
  | .tcam die g es => tcamReplace die g es s
  | .spill a b => if s.straps.variant ≠ 0 ∨ ¬ (bypOf s a).state = .idle then s else circuitAsk a b none s
  | _ => s

/-- Do the package's sequencers run the step that is launched: it serves, or as the newcomer it compares (R374, R391)? -/
def runsSteps (s : State) : Bool := serving s || (s.tw.mode == .shadow && s.tw.newcomer && s.tw.adm == .compare)

/-- A sequencer that a LAUNCH has armed takes its table as it now stands. -/
def seqRetake (q : Nat) (s : State) : State :=
  let run := tget {} s.cfg.seqs q
  modSeq q (fun x => { x with run := run, t := ftAdd x.t (((nsU run.returnOfs : Nat) : Int) - (nsU x.run.returnOfs : Nat)) }) s

/-- A sequencer under an activation that comes with LAUNCH(s, T) (R344): step s is its first under the new binding, or it runs none. -/
def seqTakes (c : Commit) (q : Nat) (s : State) : State :=
  let runs := seqBound s q && seqGroup s q == c.group
  match (seqOf s q).state with
  | .armed => if runs then seqRetake q s else modSeq q (fun x => { x with state := .idle, next := none }) s
  | .idle => if runs && runsSteps s && !s.alm.held.contains (seqPart s q) then seqArmWith q c.at_ c.t s else s
  | .running => s

/-- The sets and the sequencers of PART take the values committed for the step that a LAUNCH has begun (R236, R344). -/
def commitRearm (c : Commit) (s : State) : State :=
  let qs := partSeqs s c.part
  if c.at_ = 0 then forAll (qs.filter (fun q => (seqOf s q).state == .armed)) seqRetake s
  else
    forAll (s.cfg.psets.filter (fun e => e.2.group == c.group && reduceDie s (e.1 / 32))) (fun e s =>
      let x := psetOf s (e.1 / 32) (e.1 % 32)
      if x.step ≠ c.at_ then setLatch e.1 c.at_ s
      else if x.begun then s
      else modPset (e.1 / 32) (e.1 % 32) (fun x => { x with hyper := hyperNow s (e.1 / 32) (e.1 % 32) }) s)
      (forAll qs (seqTakes c) s)

/-- A committed partition almanac is copied, as it was staged, into a cache entry: the matching one, else the least recently used (R349). -/
def cacheCopy (h : AlmHdr) (items : List AlmItem) (image : List Byte) (s : State) : State :=
  let age (c : Nat) : Nat := match cacheAt s c with | some e => e.lastUse + 1 | none => 0
  let c := match (List.range 4).find? (fun c => (cacheAt s c).any (fun e => e.hdr.shape == h.shape && e.hdr.part == h.part)) with
    | some c => c
    | none => (List.range 4).foldl (fun b c => if age c < age b then c else b) 0
  let old := cacheAt s c
  let s1 := rsvPut ((c + 1) * rsvUnit s) image <| modAlm (fun x => { x with
    cache := x.cache.set c (some ⟨h, items, pe s .keel⟩)
    parts := x.parts.map (fun e => if old.any (fun o => o.hdr.part == e.1) ∧ e.2.cache = c then (e.1, { e.2 with cache := 0xFF }) else e) }) s
  modAlm (fun x => { x with parts := tmod {} x.parts h.part (fun y => { y with cache := c }) }) s1

/-- The records of a COMMIT that succeeds: the partition's or the hall's serial, KEY_DIFF, the cache; the stage is empty, unless it
has been filled anew while the COMMIT waited (R326, R346, R348, R349, R351). -/
def commitRecords (c : Commit) (s : State) : State :=
  if c.teardown then
    mirrorSplit 3 [c.part, 0] (modAlm (fun x => { x with parts := tmod {} x.parts c.part (fun y => { y with serial := 0, active := false }) }) s)
  else
    match c.hdr with
    | none => s
    | some h =>
      let s1 := modAlm (fun x => { x with stage := if x.stage.any (fun y => y.hdr == h) then none else x.stage }) s
      let s2 := whenDo (h.kind != 2) (putFlag A.DET_STAT 0 (h.detKey != detKey s)) s1
      let s3 := if h.kind = 0 then mirrorSplit 3 [0x7F, h.serial] s2
        else mirrorSplit 3 [h.part, h.serial]
          (modAlm (fun x => { x with parts := tmod {} x.parts h.part (fun y => { y with serial := h.serial, active := true, shape := h.shape }) }) s2)
      if h.kind = 1 then cacheCopy h c.items c.image s3 else s3

/-- Records that a COMMIT has replaced are no longer an alternate's to give back (R391). -/
def altsReplaced (c : Commit) (gone : List Res) (cfg0 : HwCfg) (s : State) : State :=
  modTw (fun t => { t with activeAlts := t.activeAlts.map (fun a => { a with
    ws := a.ws.filter (fun e => recordKept c gone cfg0 e.1) }) }) s

/-- Every die has acknowledged an activation of alternates: their TCAM content, and what stood before them (R382, R391). -/
def altsFinish (c : Commit) (cfg0 : HwCfg) (s : State) : State :=
  let back := altsBack s c
  let s1 := forAll (back.flatMap (fun a => a.tcam)) (fun e s => tcamReplace e.1 e.2.1 e.2.2 s)
    (modTw (fun t => { t with activeAlts := t.activeAlts.filter (fun a => !back.contains a) }) s)
  let s2 := forAll c.alts (fun a s =>
    let before : ActiveAlt := {
      lost := a.lost, group := a.group
      ws := a.ws.map (fun e => (e.1, ((back.flatMap (fun b => b.ws)).find? (fun b => b.1 == e.1)).elim (tget {} cfg0.ws e.1) (fun b => b.2)))
      tcam := a.tcam.map (fun e => (e.1, e.2.1, segEntries e.2.1 (rdie s (e.1 - 1)).live)) }
    forAll a.tcam (fun e s => tcamReplace e.1 e.2.1 e.2.2 s) (modTw (fun t => { t with activeAlts := before :: t.activeAlts }) s)) s1
  commitEnd c 0 (commitRearm c (wsFresh cfg0 s2))

/-- Every die has acknowledged: what the swap brings with it, and the end of the COMMIT (R344 to R349). Descriptors that change are
all invalid before the first is put in force (R290). -/
def commitFinish (c : Commit) (cfg0 : HwCfg) (keep : Table Word) (s : State) : State :=
  if 0x80 ≤ c.part then altsFinish c cfg0 s else
  let serial := (c.hdr.map (fun h => h.serial)).getD 0
  let gone := goneRes cfg0 s.cfg.owners
  let o := forAll keep (fun e s => wr e.1 e.2 s) { s with cfg := cfg0 }
  let new := (engsMoved cfg0.owners s.cfg.owners).filter (fun x => ownerIn cfg0.owners (.engine (5 + x.1) x.2) == 0xFF)
  let s1 := forAll new (fun x s => clearEngTallies x.1 x.2 s) (forAll gone (unbind o keep) s)
  let s2 := forAll c.items (itemTakes cfg0 gone serial c) (leftOut o keep gone s1)
  let s3 := whenDo (c.items.any (fun i => match i with | .port .. => true | _ => false))
    (fun s => forAll s.rt.nbrs (fun e s => miswireAgain e.1 s) s) s2
  let s4 := forAll [0, 1] (fun dx s =>
    let is := segsTouched keep dx
    forAll is (fun i s => segInstall dx i s) (forAll is (fun i s => modSeg dx i (fun x => { x with active := false, held := false }) s)
      (forAll (List.range 16) (fun g s => gateCheck keep dx g s) s))) s3
  commitEnd c 0 (commitRecords c (commitRearm c (altsReplaced c gone cfg0 (wsFresh cfg0 s4))))

/-- Activation (R344, R345): the swap, once no sequencer of PART is RUNNING where it waited for a step; `acks` says which dies
have acknowledged. -/
def commitActivate (part : Nat) (acks : BitVec 8) (s : State) : State :=
  match commitOf s part with
  | none => s
  | some c =>
    if c.phase ≠ .activating then s
    else if c.before.isNone ∧ c.at_ ≠ 0 ∧ (partSeqs s part).any (fun q => (seqOf s q).state == .running) then s
    else
      let s1 := if c.before.isNone then commitSwap c s else s
      let s2 := modCommit part (fun c => { c with acks := c.acks ||| acks }) s1
      match (commitOf s2 part).bind (fun c => c.before.map (fun b => (b, c.acks))) with
      | some ((cfg0, keep), a) =>
        if a &&& BitVec.ofNat 8 (dieMask s) = BitVec.ofNat 8 (dieMask s) then commitFinish c cfg0 keep s2 else s2
      | none => s2

/-- COMMIT_ACTIVATE (R344). -/
def execCommitActivate (part : Nat) (acks : BitVec 8) (s : State) : Answer := done (commitActivate part acks s)

/-- An acknowledgement is missing after 100 µs: ROLLBACK, DIE_LOST, and the sequencers of PART stay held (R345). -/
def activateTimeout (part : Nat) (s : State) : State :=
  match commitOf s part with
  | some c =>
    match c.before with
    | some (cfg0, keep) =>
      if pe s .keel - c.since < usCyc 100 then s
      else
        let s1 := fstepAll (forAll keep (fun e s => wr e.1 e.2 s) { s with cfg := cfg0 })
        let p := partOf s part
        let s2 := modAlm (fun x => { x with held := if x.held.contains p then x.held else x.held ++ [p] }) s1
        raiseFlag A.ALM_STAT 3 0 13 (commitEnd c 5 s2)
    | none => s
  | none => s

/-- ACTIVATE_TIMEOUT (R345). -/
def execActivateTimeout (part : Nat) (s : State) : Answer := done (activateTimeout part s)

/-- CANCEL ends a WAITING COMMIT with fault CANCELLED; what is staged stays staged (R346); the twin learns of it (R377). -/
def commitCancel (v : Word) (s : State) : State :=
  match commitOf s (bits v 0 7) with
  | some c => if bit v 30 ∧ c.phase = .waiting then mirrorSplit 4 [c.part, 0, c.group] (commitEnd c 7 s) else s
  | none => s

/-- COMMIT_CANCEL (R346). -/
def execCommitCancel (v : Word) (s : State) : Answer := done (commitCancel v s)

end Sys2Proof.Machine
end

