-- ==== Sys2Proof/Machine/Muster.lean ====
section
/-! DEFINITION. Musters (07): arrivals and their aggregation, exclusion after a DEGRADE launch, the launch's decision, its
broadcast, and what a LAUNCH brings with it at a package. Straggler lists. REBUILD_DONE (R388). -/

namespace Sys2Proof.Machine

/-! Planes and bindings. -/

/-- Change a plane of a group at a node. -/
def modPlane (n : Node) (k q : Nat) (f : Plane → Plane) (s : State) : State :=
  modGrp n k (fun g => { g with planes := g.planes.set q (f (planeOf g q)) }) s

/-- The plane in which a node counts an ARRIVE: the package aggregates its own, and takes aggregates of the other from its twin;
a RELAY goes by the PLANE flag (R175, R181). -/
def arrivePlane (s : State) (n : Node) (p kind : Nat) (m : Raw) : Nat :=
  match n with
  | .keel => if p = 512 ∧ kind ≠ 0 then 1 - ownPlane s else ownPlane s
  | .evxus => bitsN (getBE m 14 1) 0 1

/-- Is the group enabled at the node (R179, R194)? -/
def groupOn (s : State) (n : Node) (k : Nat) : Bool :=
  match n with
  | .keel => flag s (A.GRP_CFG k) 16
  | .evxus => !(grp s n k).cfg.members.isEmpty || !(grp s n k).cfg.children.isEmpty

/-- Does the node serve: an expelled or stopped package and a newcomer send nothing (R374, R407), nor does an Evxus without READY
(R153)? -/
def nodeServes (s : State) : Node → Bool
  | .keel => serving s && nodeRuns s .keel
  | .evxus => nodeRuns s .evxus

/-! Sending (R180). -/

/-- The body of an aggregate ARRIVE (R176). -/
def aggBody (s : State) (n : Node) (k q step : Nat) (l : List Counted) (arrived expected : Nat) (final : Bool) : List Byte :=
  let late := latestOf l
  let early := earliestOf l
  let fl := q + 4 * b2n (arrived == expected) +
    8 * b2n (late.any (fun c => c.subst) || early.any (fun c => c.subst)) + 16 * b2n final +
    32 * b2n (l.any (fun c => c.conflict))
  bodyOf [(12, toBE 1 k), (13, [1]), (14, toBE 1 fl), (16, toBE 8 step),
    (24, match late with | some c => stampBytes c.latest | none => List.replicate 12 0),
    (36, toBE 8 (match early with | some c => c.earliest.toNat | none => 0)),
    (44, toBE 4 expected), (48, toBE 4 arrived), (52, toBE 4 (nodeId s n * 4096))]

/-- The uplink of a plane at a node (R180): the almanac's, and of a RELAY its upstream taps. -/
def uplinkOf (s : State) (n : Node) (k q : Nat) : Option Nat :=
  match n with
  | .keel => (grp s n k).cfg.uplinks.getD q none
  | .evxus => (nd s n).ref.bind.getD q none

/-- Send an ARRIVE up the uplink of a plane, on a link that is up; over the probe paths in place of the twin link while LINK is LINK_LOST
(R378). -/
def sendUp (n : Node) (k q : Nat) (body : List Byte) (s : State) : State :=
  match uplinkOf s n k q with
  | some p =>
    if ¬ nodeServes s n then s
    else if n = .keel ∧ p = 512 ∧ s.tw.link = .linkLost then (partnerNode s).elim s (fun d => ctrlMsg d tArrive body s)
    else if (port s n p).linkUp ∧ linkStands s n p then sendMsg n p tArrive body s
    else s
  | none => s

/-- Send the aggregate of a group and plane (R180). -/
def sendAgg (n : Node) (k q : Nat) (s : State) : State :=
  let g := grp s n k
  let body := aggBody s n k q (g.step + 1) (planeOf g q).counted (planeArrived g q) (planeExpected s n k q) false
  modPlane n k q (fun x => { x with lastSent := pe s n }) (sendUp n k q body s)

/-- The package mirrors the group's record to its twin (R377). -/
def mirrorGroup (n : Node) (k : Nat) (s : State) : State :=
  match n with
  | .evxus => s
  | .keel => mirrorSplit 0 (groupWords s k) s

/-! Counting (R177, R178, R186, R381). -/

/-- An arrival as it comes in, with its times in full: those of the sender's arrival before where the two say the same (R35). -/
def countedFull (n : Node) (k q : Nat) (c : Counted) (s : State) : Counted :=
  let x := planeOf (grp s n k) q
  let old := (x.counted ++ x.held ++ x.finals).find? (fun y => y.node == c.node && y.aggregate == c.aggregate &&
    y.latest.ft == c.latest.ft && y.earliest == c.earliest)
  match old with
  | some y => { c with lateF := y.lateF, earlyF := y.earlyF }
  | none => { c with lateF := widen s n c.latest.ft, earlyF := widen s n c.earliest }

/-- A discarded ARRIVE or LAUNCH: FOREIGN_ARR; the package logs it in class TIMING (R179, R183). -/
def foreign (n : Node) (p k : Nat) (s : State) : State :=
  match n with
  | .keel => countEvent (A.FOREIGN_ARR k) p 11 s
  | .evxus => bump A.E_FOREIGN_ARR s

/-- Count in a counter of the package's group record; a RELAY has none. -/
def grpCount (n : Node) (a : Nat) (s : State) : State :=
  match n with
  | .keel => bump a s
  | .evxus => s

/-- Counted arrivals that carry CONFLICT set LAUNCH_SPLIT, and the package logs the step (R381). -/
def splitNote (n : Node) (k : Nat) (l : List Counted) (s : State) : State :=
  whenDo (l.any (fun c => c.conflict)) (fun s => match n with
    | .keel => raiseFlag (A.GRP_STAT k) 15 k 11 s
    | .evxus => s) s

/-- An arrival is counted: an aggregate replaces that of its child, a repeated single is ignored (R178); the aggregate goes up
on the first counted arrival and on completion (R180). -/
def countIn (n : Node) (k q : Nat) (c : Counted) (s : State) : State :=
  let g := grp s n k
  let x := planeOf g q
  let was := x.counted.any (fun y => y.node == c.node && y.aggregate == c.aggregate)
  if was ∧ ¬ c.aggregate then s
  else
    let done_ := planeComplete s n k q
    let first := x.counted.isEmpty
    let s1 := modPlane n k q (fun x => { x with
      counted := if was then x.counted.map (fun y => if y.node = c.node ∧ y.aggregate then c else y) else x.counted ++ [c]
      lastCounted := if c.aggregate then x.lastCounted else tput c.node.toNat (g.step + 1) x.lastCounted }) s
    let s2 := modGrp n k (fun g => { g with state := if g.state = .idle then .mustering else g.state }) s1
    let s3 := whenDo (c.late && !was) (grpCount n (A.LATE_END k)) s2
    let s4 := splitNote n k [c] s3
    let s5 := whenDo (first || (planeComplete s4 n k q && !done_)) (sendAgg n k q) s4
    mirrorGroup n k s5

/-- Hold an arrival for the next step; a later aggregate of the child replaces it (R178). -/
def holdIn (n : Node) (k q : Nat) (c : Counted) (s : State) : State :=
  modPlane n k q (fun x => { x with
    held := if x.held.any (fun y => y.node == c.node && y.aggregate == c.aggregate) then
        x.held.map (fun y => if y.node = c.node ∧ y.aggregate ∧ c.aggregate then c else y)
      else x.held ++ [c] }) s

/-- A single or aggregate ARRIVE by its step (R178). -/
def arriveStep (n : Node) (k q step : Nat) (c : Counted) (s : State) : State :=
  let cur := (grp s n k).step + 1
  if step = cur then countIn n k q c s
  else if step = cur + 1 then holdIn n k q c s
  else if step < cur then grpCount n (A.STALE_ARR k) s
  else grpCount n (A.AHEAD_ARR k) s

/-- The stamp that a single ARRIVE counts with: its own, or the receive stamp where its own has no assured bound (R177). -/
def substStamp (own recv : Stamp) : Stamp × Bool :=
  if ¬ own.valid ∨ own.unsure ∨ own.unc = 0xFFFFFF#24 then (recv, true) else (own, false)

/-! After a DEGRADED LAUNCH (R188). -/

/-- The plane under which a node keeps its frozen set: a RELAY freezes one for both. -/
def frozenPlane (s : State) : Node → Nat
  | .keel => ownPlane s
  | .evxus => 0

/-- Contributors of a plane after the freeze: this package's frozen singles, and the FINALs in (R188). -/
def frozenCount (s : State) (n : Node) (k q : Nat) : Nat :=
  (planeOf (grp s n k) (frozenPlane s n)).frozenSingles.length +
    (planeOf (grp s n k) q).finals.foldl (fun a c => a + c.arrived) 0

/-- DEG_CONTRIB at the root: the larger of the planes' sums (R188). -/
def degContrib (n : Node) (k : Nat) (s : State) : State :=
  match n with
  | .evxus => s
  | .keel =>
    whenDo s.tw.primary (modGrp .keel k (fun g => { g with
      degContrib := max (frozenCount s .keel k 0) (frozenCount s .keel k 1) })) s

/-- Exclusions go to the waystations at once (R188). -/
def excludeAt (n : Node) (k step : Nat) (l : List (BitVec 20)) (s : State) : State :=
  match n with
  | .keel => exclude k step l s
  | .evxus => s

/-- Members in groups of eight (R176). -/
def eights : Nat → List (BitVec 20) → List (List (BitVec 20))
  | 0, _ => []
  | n + 1, l => if l.isEmpty then [] else l.take 8 :: eights n (l.drop 8)

/-- The body of an exclusion record (R176). -/
def exclBody (k q step : Nat) (l : List (BitVec 20)) : List Byte :=
  bodyOf [(12, toBE 1 k), (13, [2]), (14, toBE 1 q), (16, toBE 8 step),
    (24, ((l.map (BitVec.toNat)) ++ List.replicate (8 - l.length) 0xFFFFFFFF).flatMap (toBE 4))]

/-- The planes in which a node sends what a frozen set gives. -/
def frozenUps (s : State) : Node → List Nat
  | .keel => [ownPlane s]
  | .evxus => [0, 1]

/-- The exclusion records and the FINAL aggregate go up (R188 step 4). -/
def sendFinal (n : Node) (k : Nat) (s : State) : State :=
  let q := frozenPlane s n
  let g := grp s n k
  let x := planeOf g q
  match x.frozen with
  | none => s
  | some c =>
    let kids := planeKids s n c q
    let missing := kids.filter (fun y => !x.finals.any (fun f => f.node == y.node))
    let out := (x.excluded ++ missing.flatMap (fun y => y.below)).eraseDups
    let all := c.members.length + b2n c.adjContrib + kids.foldl (fun a y => a + y.below.length) 0
    let s1 := modPlane n k q (fun x => { x with finalSent := true, excluded := out }) (excludeAt n k g.step out s)
    forAll (frozenUps s n) (fun u s =>
      let s2 := forAll (eights (out.length) out) (fun l s => sendUp n k u (exclBody k u g.step l) s) s
      sendUp n k u (aggBody s2 n k u g.step (x.frozenSingles ++ x.finals)
        (x.frozenSingles.length + x.finals.foldl (fun a f => a + f.arrived) 0) all true) s2) s1

/-- The FINAL of every child is in: the node sends its own (R188). -/
def finalCheck (n : Node) (k : Nat) (s : State) : State :=
  let q := frozenPlane s n
  let x := planeOf (grp s n k) q
  match x.frozen with
  | some c =>
    if ¬ x.finalSent ∧ (planeKids s n c q).all (fun y => x.finals.any (fun f => f.node == y.node)) then sendFinal n k s else s
  | none => s

/-- An aggregator freezes its set when it first forwards a DEGRADED LAUNCH (R188): a member counts where one of its singles, whose
receive stamps may differ on the two planes, lies at or before CUT; the held ones are counted here for the first time. -/
def freeze (n : Node) (x : Launch) (s : State) : State :=
  let k := x.group
  let g := grp s n k
  let q := frozenPlane s n
  let of (q : Nat) : List Counted := if x.step = g.step + 1 then (planeOf g q).counted
    else if x.step = g.step + 2 then (planeOf g q).held else []
  let singles := ((nodePlanes s n).flatMap of).filter (fun c => !c.aggregate)
  let in_ := singles.filter (fun c => decide (0 ≤ fullDiff (widen s n x.cut) c.lateF))
  let set := in_.foldl (fun l c => if l.any (fun y => y.node == c.node) then l else l ++ [c]) []
  let own : List (BitVec 20) := if g.cfg.adjContrib then [BitVec.ofNat 20 (nodeId s n)] else []
  let out := ((g.cfg.members.map (fun m => m.node)) ++ own).filter (fun m => !set.any (fun c => c.node == m))
  let s1 := excludeAt n k x.step out (whenDo (decide (x.step ≠ g.step + 1)) (splitNote n k set) s)
  let early := decide (x.step = g.step + 1)
  let clear (y : Plane) : Plane := { y with
    frozen := some g.cfg, frozenSingles := [], finals := if early then y.earlyFinals else [], excluded := []
    finalSent := false }
  let s2 := modPlane n k 1 clear (modPlane n k 0 clear s1)
  modPlane n k q (fun y => { y with frozenSingles := set, excluded := if early then (out ++ y.earlyExcl).eraseDups else out }) s2

/-- Is a message of the step for which the set is frozen? -/
def frozenFor (s : State) (n : Node) (k step : Nat) : Bool :=
  (planeOf (grp s n k) (frozenPlane s n)).frozen.isSome && (grp s n k).step == step

/-- Does the aggregator still wait for FINALs: its own is not sent, and T has not passed (R188)? -/
def finalOpen (s : State) (n : Node) (k : Nat) : Bool :=
  let x := planeOf (grp s n k) (frozenPlane s n)
  x.frozen.isSome && !x.finalSent && decide (fullDiff (now s n) (grp s n k).lastAt ≤ 0)

/-- A FINAL aggregate of a child (R188); one that carries CONFLICT counts like any arrival (R381). -/
def finalTake (n : Node) (k q : Nat) (c : Counted) (s : State) : State :=
  let root : Bool := match n with
    | .keel => s.tw.primary
    | .evxus => false
  if ¬ (finalOpen s n k ∨ (root ∧ fullDiff (now s n) (grp s n k).lastAt ≤ 0)) then grpCount n (A.LATE_ARR k) s
  else
    let q' := match n with
      | .keel => q
      | .evxus => 0
    if (planeOf (grp s n k) q').finals.any (fun f => f.node == c.node) then s
    else finalCheck n k (degContrib n k (modPlane n k q' (fun x => { x with finals := x.finals ++ [c] }) (splitNote n k [c] s)))

/-- An exclusion record of a child (R188): to the waystations at once, and into the aggregator's own record, kept for it if the
DEGRADED LAUNCH has not come to this node. -/
def exclTake (n : Node) (k step : Nat) (l : List (BitVec 20)) (s : State) : State :=
  if frozenFor s n k step then
    let s1 := excludeAt n k step l s
    if finalOpen s n k then
      modPlane n k (frozenPlane s n) (fun x => { x with excluded := (x.excluded ++ l).eraseDups }) s1
    else s1
  else if step = (grp s n k).step + 1 then
    modPlane n k (frozenPlane s n) (fun x => { x with earlyExcl := (x.earlyExcl ++ l).eraseDups }) (excludeAt n k step l s)
  else if step < (grp s n k).step + 1 then grpCount n (A.STALE_ARR k) s
  else grpCount n (A.AHEAD_ARR k) s

/-- A FINAL of a child for the step under muster, whose DEGRADED LAUNCH has not come to this node: kept for the freeze (R188). -/
def finalEarly (n : Node) (k q : Nat) (c : Counted) (s : State) : State :=
  let q' := match n with
    | .keel => q
    | .evxus => 0
  modPlane n k q' (fun x => { x with
    earlyFinals := if x.earlyFinals.any (fun f => f.node == c.node) then x.earlyFinals else x.earlyFinals ++ [c] }) s

/-! ARRIVE_RECEIVE. -/

/-- The arrival that an ARRIVE carries (R176). -/
def countedOf (m : Raw) : Counted where
  node := BitVec.ofNat 20 (getBE m 52 4 / 4096)
  aggregate := getBE m 13 1 == 1
  arrived := if getBE m 13 1 = 1 then getBE m 48 4 else 1
  expected := if getBE m 13 1 = 1 then getBE m 44 4 else 1
  latest := stampOfBytes (slice m 24 12)
  earliest := BitVec.ofNat 64 (getBE m 36 8)
  subst := bitsN (getBE m 14 1) 3 1 == 1
  conflict := bitsN (getBE m 14 1) 5 1 == 1
  late := bitsN (getBE m 14 1) 1 1 == 1

/-- Is an ARRIVE a child's of the group, by its proper port (R179)? -/
def arriveOk (s : State) (n : Node) (k p : Nat) (m : Raw) : Bool :=
  let c := (grp s n k).cfg
  let o := BitVec.ofNat 20 (getBE m 52 4 / 4096)
  groupOn s n k && (match getBE m 13 1 with
    | 0 => c.members.any (fun y => y.node == o && y.port == p)
    | 1 => c.children.any (fun y => y.node == o && y.port == p)
    | 2 => c.children.any (fun y => y.node.toNat == mNode m && y.port == p)
    | _ => false)

/-- The excluded members of a record (R176). -/
def exclOf (m : Raw) : List (BitVec 20) :=
  ((List.range 8).map (fun i => getBE m (24 + 4 * i) 4)).filter (· != 0xFFFFFFFF) |>.map (BitVec.ofNat 20)

/-- A single ARRIVE (R177, R178, R188). -/
def singleTake (n : Node) (k q : Nat) (recv : Stamp) (m : Raw) (s : State) : State :=
  let c := countedOf m
  let (t, sub) := substStamp c.latest recv
  let x : Counted := countedFull n k q { c with latest := t, earliest := if sub then recv.ft else c.earliest, subst := sub } s
  let step := getBE m 16 8
  if frozenFor s n k step then grpCount n (A.LATE_ARR k) s
  else arriveStep n k q step x (whenDo sub (grpCount n (A.SUBST_CNT k)) s)

/-- An ARRIVE comes to an aggregator (R178, R179, R188). -/
def arriveTake (n : Node) (p barrel : Nat) (m : Raw) (s : State) : State :=
  let k := getBE m 12 1 % 64
  let q := arrivePlane s n p (getBE m 13 1) m
  let step := getBE m 16 8
  if ¬ arriveOk s n k p m then foreign n p k s
  else
    match getBE m 13 1 with
    | 0 => singleTake n k q (rxStamp s n p barrel) m s
    | 1 =>
      let final := bitsN (getBE m 14 1) 4 1 = 1
      let c := countedFull n k q (countedOf m) s
      if frozenFor s n k step ∧ final then finalTake n k q c s
      else if step = (grp s n k).step + 1 ∧ final then finalEarly n k q c s
      else arriveStep n k q step c s
    | _ => exclTake n k step (exclOf m) s

/-- An ARRIVE is for an aggregator: a package, or a RELAY (R178). -/
def aggregates (s : State) : Node → Bool
  | .keel => true
  | .evxus => s.straps.evRelay

/-- ARRIVE_RECEIVE (R178); an END discards it, and counts no foreign ARRIVE (R170). -/
def execArriveReceive (n : Node) (p barrel : Nat) (m : Raw) (s : State) : Answer :=
  done (onMsg n p tArrive m (fun s =>
    whenDo (aggregates s n) (arriveTake n p barrel m) (if (port s n p).linkUp then tapHeard n p barrel s else s)) s)

/-- Every AGG_PERIOD between the first counted arrival and completion the aggregate is sent again (R180). -/
def aggPeriod (n : Node) (k : Nat) (s : State) : State :=
  let per := match n with
    | .keel => rn s A.AGG_PERIOD
    | .evxus => 100
  forAll (nodePlanes s n) (fun q s =>
    let x := planeOf (grp s n k) q
    if x.counted.isEmpty ∨ planeComplete s n k q ∨ pe s n - x.lastSent < usCyc per then s else sendAgg n k q s) s

/-- AGG_PERIOD (R180). -/
def execAggPeriod (n : Node) (k : Nat) (s : State) : Answer := done (aggPeriod n k s)

/-! The package as a contributor (R20, R175). -/

/-- Have the sets of a group applied its last launched step, with every bale acknowledged and the return broadcast done (R20,
R234, R387)? DESIGN CHOICE (log entry 66): every set of the group counts, one whose ENABLE is clear or that was bound after the last
launch too. -/
def adjReady (s : State) (k : Nat) : Bool :=
  let st := (grp s .keel k).step
  st == 0 || s.cfg.psets.all (fun e => e.2.group != k || setDormant s e.1 ||
    (let x := tget {} s.die.psets e.1
     x.state == .done && x.step == st && decide (st ≤ x.returned) && !s.tw.deltaPend.any (fun d => d.1 == e.1)))

/-- The package arrives for the next step: into its own plane, and over the twin link into the other (R20, R175). -/
def adjArrive (k : Nat) (s : State) : State :=
  let g := grp s .keel k
  let st := g.step + 1
  if ¬ (groupOn s .keel k ∧ g.cfg.adjContrib ∧ nodeServes s .keel ∧ adjReady s k) ∨ g.adjArrived = st then s
  else
    let t := stampAt s .keel (now64 s .keel) 800
    let (t', sub) := substStamp t t
    let c := countedFull .keel k (ownPlane s) {
      node := BitVec.ofNat 20 (nodeId s .keel), aggregate := false, arrived := 1, expected := 1, latest := t'
      earliest := t.ft, subst := sub, conflict := false, late := false } s
    let s1 := modGrp .keel k (fun g => { g with adjArrived := st }) s
    let s2 := countIn .keel k (ownPlane s) c (whenDo sub (grpCount .keel (A.SUBST_CNT k)) s1)
    let body := arriveBody k (1 - ownPlane s) st (nodeId s .keel) t
    if s2.tw.link = .linkLost then (partnerNode s2).elim s2 (fun d => ctrlMsg d tArrive body s2)
    else if twinUp s2 then sendMsg .keel 512 tArrive body s2
    else s2

/-- ADJ_ARRIVE (R20). -/
def execAdjArrive (k : Nat) (s : State) : Answer := done (adjArrive k s)

/-! What a LAUNCH brings with it. -/

/-- FLAGS of a LAUNCH (R182). -/
def launchBits (x : Launch) (again : Bool) : Nat :=
  b2n x.degraded + 2 * b2n again + 4 * b2n x.floor + 8 * b2n x.forced

/-- The body of a LAUNCH (R182). -/
def launchBody (x : Launch) (again : Bool) : List Byte :=
  bodyOf [(12, toBE 1 x.group), (13, toBE 1 (launchBits x again)),
    (16, toBE 8 x.step), (24, toBE 8 x.t.toNat), (32, toBE 8 (if x.degraded then x.cut.toNat else 0)),
    (40, toBE 4 x.roleEpoch.toNat)]

/-- The downstream timing ports on which a LAUNCH goes out (R183). -/
def launchPorts (s : State) (n : Node) : List Nat :=
  ((nd s n).ports.filter (fun x => servesOn s n x.1 && portWorks s n x.1 && x.2.linkUp && x.1 != 512 &&
    !miswired s n x.1)).map (fun x => x.1)

/-- Send a LAUNCH on ports. -/
def launchOn (n : Node) (ports : List Nat) (x : Launch) (again : Bool) (s : State) : State :=
  if nodeServes s n then forAll ports (fun p s => sendMsg n p tLaunch (launchBody x again) s) s else s

/-- The flags of a launched group, and its counts (R187, R194, R331). -/
def launchFlags (x : Launch) (s : State) : State :=
  let a := A.GRP_STAT x.group
  let s1 := whenDo (decide (0 < ftDiff (now64 s .keel) x.t)) (setFlag a 13) s
  let s2 := whenDo x.forced (setFlag a 12) (whenDo x.floor (setFlag a 11) s1)
  whenDo x.degraded (fun s => setFlag A.DET_STAT 1 (bumpNdet A.NDET_DEG
    (raiseFlag a 9 x.group 13 (bump (A.DEGRADE_CNT x.group) s)))) s2

/-- The node's s_cur advances (R178, R187): the membership and the values of the next muster, and the arrivals held for it, of those
that belong to that membership (R173). -/
def advance (n : Node) (x : Launch) (s : State) : State :=
  let k := x.group
  let g := grp s n k
  let bound (l : List Counted) : List Counted := match g.cfgNext with
    | some c => boundIn s c l
    | none => l
  let held : List (Nat × Counted) := if x.step = g.step + 1 then
      (List.range 2).flatMap (fun q => (bound (planeOf g q).held).map (fun c => (q, c))) else []
  let fresh (y : Plane) : Plane := { y with
    counted := [], held := [], lastSent := 0
    frozen := if x.degraded then y.frozen else none, frozenSingles := if x.degraded then y.frozenSingles else []
    finals := if x.degraded then y.finals else [], excluded := if x.degraded then y.excluded else []
    earlyFinals := [], earlyExcl := [] }
  let s1 := modGrp n k (fun g => { g with
    step := x.step, state := .launching, cfg := g.cfgNext.getD g.cfg, cfgNext := none, planes := g.planes.map fresh
    lastT := x.t, lastAt := widen s n x.t, cut := if x.degraded then x.cut else g.cut, straggled := false, blocked := false, latest := some x
    lastRepeat := pe s n, params := match n with | .keel => groupParams s k | .evxus => g.params }) s
  forAll held (fun e s => countIn n k e.1 e.2 s) s1

/-- The parameter sets of the group latch their hyperparameters (R236, R240); those that wait for a loss do not (R388). -/
def hyperLatch (k step : Nat) (s : State) : State :=
  forAll (s.cfg.psets.filter (fun e => e.2.group == k && reduceDie s (e.1 / 32) && !setDormant s e.1)) (fun e s => setLatch e.1 step s) s

/-- May the promotion take place at this LAUNCH (R391, R408)? -/
def promoteDue (s : State) : Bool := s.tw.mode == .shadow && s.tw.adm == .promoting && promoteOk s

/-- Purpose of the CTRL frames that acknowledge a LAUNCH, or carry one while the twin link is lost (R183, R378; log entry 6). -/
abbrev ctrlLaunchAck : Nat := 0x10005
abbrev ctrlLaunch : Nat := 0x10006

/-- Send a LAUNCH to the twin: over the twin link, or while LINK is LINK_LOST over the probe paths (R183, R378). -/
def launchToTwin (x : Launch) (s : State) : State :=
  if s.tw.link ≠ .linkLost then whenDo (twinUp s) (sendMsg .keel 512 tLaunch (launchBody x false)) s
  else
    match partnerNode s with
    | some p => emit (.ctrl p ctrlLaunch [x.group, launchBits x false, x.step, x.t.toNat, x.cut.toNat, x.roleEpoch.toNat]) s
    | none => s

/-- The working twin of a SHADOW pair passes a LAUNCH on to the newcomer, which follows it (R391); the root has sent it its own. -/
def launchToNewcomer (x : Launch) (s : State) : State :=
  whenDo (s.tw.mode == .shadow && !s.tw.newcomer && !s.tw.primary) (launchToTwin x) s

/-- The package takes a LAUNCH (R183): rehearsals, alternates, commits and promotions that go with it, its broadcast, the frozen
set, s_cur, the hyperparameters, the sequencers. -/
def keelLaunch (x : Launch) (s : State) : State :=
  let k := x.group
  let s0 := rehAtLaunch s
  let due := promoteDue s0
  let s1 := altsAtLaunch k x.step x.t (whenDo due (promote k x.step) (commitsAtLaunch k x.step x.t (due && s0.tw.newcomer) s0))
  let s2 := launchToNewcomer x (launchOn .keel (launchPorts s1 .keel) x false s1)
  let s3 := whenDo x.degraded (freeze .keel x) s2
  let s4 := launchFlags x (advance .keel x s3)
  let s5 := whenDo x.degraded (fun s => finalCheck .keel k (degContrib .keel k s)) s4
  let s6 := hyperLatch k x.step s5
  whenDo (runsSteps s6) (seqLaunch k x.step x.t) s6

/-- A RELAY takes a LAUNCH (R183, R188). -/
def relayLaunch (x : Launch) (s : State) : State :=
  let s1 := launchOn .evxus (launchPorts s .evxus) x false s
  let s2 := whenDo x.degraded (freeze .evxus x) s1
  let s3 := advance .evxus x s2
  whenDo x.degraded (finalCheck .evxus x.group) s3

/-- A LAUNCH at a node. -/
def takeLaunch (n : Node) (x : Launch) (s : State) : State :=
  match n with
  | .keel => keelLaunch x s
  | .evxus => relayLaunch x s

/-! Deciding a launch (R181, R183, R190). -/

/-- The EARLIEST of a muster at the deciding package; the record its twin mirrored counts with it (R187, R192). -/
def musterEarliest (s : State) (k : Nat) : Option FabTime :=
  let g := grp s .keel k
  let own := (earliestOf (g.planes.flatMap (fun x => x.counted))).map (fun c => c.earlyF)
  match own, mirrorEarliest s k with
  | some a, some b => some (if fullDiff b a < 0 then b else a)
  | some a, none => some a
  | none, b => b

/-- Has a contributor arrived on some plane (R181): counted as a single, or below a child whose aggregate is complete? -/
def adjIn (s : State) (k : Nat) (a : BitVec 20) : Bool :=
  let g := grp s .keel k
  (List.range 2).any (fun q => (planeOf g q).counted.any (fun c =>
    (!c.aggregate && c.node == a) ||
      (c.aggregate && c.arrived == c.expected && g.cfg.children.any (fun y => y.node == c.node && y.below.contains a))))

/-- Every Adejan contributor has arrived on at least one plane (R181). -/
def adjsIn (s : State) (k : Nat) : Bool := (grp s .keel k).cfg.adjs.all (adjIn s k)

/-- The launch that the root decides in this cycle (R181). -/
def launchFor (s : State) (k : Nat) (cut : Option (BitVec 64)) (forced : Bool) : Launch :=
  let g := grp s .keel k
  let d := widen s .keel (now64 s .keel)
  let done_ := (List.range 2).filter (planeComplete s .keel k)
  let latest := (latestOf (done_.flatMap (fun q => (planeOf g q).counted))).map (fun c => c.lateF)
  let base := match cut with
    | some c => widen s .keel c
    | none => latest.getD d
  let t0 := fabAdd base (nsU g.params.2.2.1 * 65536 : Nat)
  let t1 := fabAdd d (nsU g.params.2.2.2 * 65536 : Nat)
  let floor := decide (fullDiff t0 t1 < 0)
  { group := k, step := g.step + 1, t := fabFt64 (if floor then t1 else t0), cut := cut.getD 0, degraded := cut.isSome, floor := floor
    forced := forced, roleEpoch := s.tw.roleEpoch }

/-- The root broadcasts its LAUNCH into its plane, and takes it itself (R183). -/
def broadcast (x : Launch) (s : State) : State :=
  takeLaunch .keel x (modGrp .keel x.group (fun g => { g with toTwin := g.toTwin.map (fun y => (y.1, y.2.1, y.2.2 || y.1.step == x.step)) }) s)

/-- A launch is decided (R181, R183): in SPLIT the twin has it first; in SHADOW it is sent to the newcomer too. -/
def decideLaunch (k : Nat) (cut : Option (BitVec 64)) (forced : Bool) (s : State) : State :=
  let x := launchFor s k cut forced
  if s.tw.mode = .split then
    modGrp .keel k (fun g => { g with
      state := .launching, lastT := x.t, lastAt := widen s .keel x.t, toTwin := g.toTwin ++ [(x, pe s .keel, false)] }) (launchToTwin x s)
  else broadcast x (whenDo (s.tw.mode == .shadow) (launchToTwin x) s)

/-- Does this package decide the launches of a group (R173, R181)? -/
def decides (s : State) (k : Nat) : Bool := s.tw.primary && groupOn s .keel k

/-- A plane is COMPLETE (R181). -/
def launchDecide (k : Nat) (s : State) : State :=
  if decides s k ∧ musterOn s .keel k ∧ (List.range 2).any (planeComplete s .keel k) then decideLaunch k none false s else s

/-- LAUNCH_DECIDE (R181). -/
def execLaunchDecide (k : Nat) (s : State) : Answer := done (launchDecide k s)

/-- STRAGGLE is set, once in a muster (R187). -/
def straggle (k : Nat) (s : State) : State :=
  if (grp s .keel k).straggled then s
  else raiseFlag (A.GRP_STAT k) 8 k 13 (modGrp .keel k (fun g => { g with straggled := true }) s)

/-- DEGRADE_BLOCKED is set, once in a muster (R187). -/
def degradeBlocked (k : Nat) (s : State) : State :=
  if (grp s .keel k).blocked then s
  else raiseFlag (A.GRP_STAT k) 10 k 13 (modGrp .keel k (fun g => { g with blocked := true }) s)

/-- EARLIEST + MUSTER_TIMEOUT with no plane complete (R181, R187). -/
def musterTimeout (k : Nat) (s : State) : State :=
  let g := grp s .keel k
  match musterEarliest s k with
  | none => s
  | some e =>
    if ¬ (decides s k ∧ musterOn s .keel k) ∨ (List.range 2).any (planeComplete s .keel k) ∨
        ¬ fullAtOrAfter (now s .keel) (fabAdd e (usU g.params.2.1 * 65536 : Nat)) then s
    else if g.params.1 ≠ 1 then straggle k s
    else if adjsIn s k then decideLaunch k (some (now64 s .keel)) false s
    else degradeBlocked k s

/-- MUSTER_TIMEOUT (R187). -/
def execMusterTimeout (k : Nat) (s : State) : Answer := done (musterTimeout k s)

/-- FORCE_DEGRADE at the primary root (R181, R190); elsewhere MUSTER_CMD is ignored (R194). -/
def forceDegrade (k : Nat) (s : State) : State :=
  if ¬ s.tw.primary then s
  else if ¬ (groupOn s .keel k ∧ musterOn s .keel k) then raiseFlag (A.GRP_STAT k) 14 k 12 s
  else if adjsIn s k then decideLaunch k (some (now64 s .keel)) true s
  else degradeBlocked k s

/-- FORCE_DEGRADE (R190). -/
def execForceDegrade (k : Nat) (s : State) : Answer := done (forceDegrade k s)

/-- The twin acknowledges a LAUNCH (R183): one that waited for it is broadcast, and it is not sent again. -/
def twinAck (k step : Nat) (s : State) : State :=
  match (grp s .keel k).toTwin.find? (fun y => y.1.step == step) with
  | none => s
  | some (x, _, sent) =>
    modGrp .keel k (fun g => { g with toTwin := g.toTwin.filter (fun y => y.1.step != step) }) (if sent then s else broadcast x s)

/-- TWIN_LAUNCH_ACK (R183). -/
def execTwinLaunchAck (k step : Nat) (s : State) : Answer := done (twinAck k step s)

/-- 5 µs since a LAUNCH was sent to the twin, without an acknowledgement: broadcast with LAUNCH_UNACK, and sent to the twin again,
until the twin is declared lost (R183). -/
def launchResend (k : Nat) (y : Launch × Nat × Bool) (s : State) : State :=
  if pe s .keel - y.2.1 < usCyc 5 then s
  else
    let s1 := if y.2.2 then s else setFlag (A.GRP_STAT k) 16 (broadcast y.1 s)
    if s.tw.mode ≠ .split ∨ s.tw.link = .partnerLost then
      modGrp .keel k (fun g => { g with toTwin := g.toTwin.filter (fun z => z.1.step != y.1.step) }) s1
    else
      modGrp .keel k (fun g => { g with
        toTwin := g.toTwin.map (fun z => if z.1.step = y.1.step then (z.1, pe s .keel, true) else z) }) (launchToTwin y.1 s1)

/-- 5 µs without an acknowledgement (R183). -/
def launchUnack (k : Nat) (s : State) : State := forAll (grp s .keel k).toTwin (launchResend k) s

/-- LAUNCH_UNACK_TIMEOUT (R183). -/
def execLaunchUnackTimeout (k : Nat) (s : State) : Answer := done (launchUnack k s)

/-! Receiving a LAUNCH (R183). -/

/-- Has a LAUNCH come by its proper path (R183)? A newcomer takes those of its working twin, of groups that its almanac still holds back
too (R391). -/
def launchPath (s : State) (n : Node) (k p : Nat) : Bool :=
  match n with
  | .keel => (p == 512 && s.tw.mode == .shadow && s.tw.newcomer) || groupOn s n k && ((grp s n k).cfg.parents.contains p || (p == 512 && s.cfg.hall.rootPair && !s.tw.primary))
  | .evxus => isUpstream s n p

/-- The twin of the primary root acknowledges a LAUNCH (R183). -/
def launchAck (p : Nat) (x : Launch) (s : State) : State :=
  if p = 512 then
    match partnerNode s with
    | some d => emit (.ctrl d ctrlLaunchAck [x.group, x.step]) s
    | none => s
  else s

/-- A LAUNCH that came by its proper path: a new step is taken; a second one for the step launched last with another T, a root
partition's, is passed on to the lines (R381), and counted where it is DEGRADED (R331); a copy changes nothing (R185). -/
def launchTake (n : Node) (x : Launch) (s : State) : State :=
  let g := grp s n x.group
  if g.step < x.step then takeLaunch n x s
  else if g.step = x.step ∧ g.latest.any (fun y => y.t != x.t) then
    modGrp n x.group (fun g => { g with
      latest := if g.latest.any (fun y => decide (y.roleEpoch.toNat < x.roleEpoch.toNat)) then some x else g.latest })
      (launchOn n (launchPorts s n) x false
        (whenDo (x.degraded && n == .keel) (fun s => setFlag A.DET_STAT 1 (bumpNdet A.NDET_DEG s)) s))
  else s

/-- A LAUNCH that the primary root mirrors, which over the probe paths is how its twin gets it (R183, R378): the twin takes and
acknowledges it as it does one from the twin link. -/
def mirrorLaunch (i : Mirror) (s : State) : State :=
  match i with
  | .launch k step t cut degraded floor forced epoch =>
    let x : Launch := { group := k, step := step, t := t, cut := cut, degraded := degraded, floor := floor, forced := forced, roleEpoch := epoch }
    if launchPath s .keel k 512 then launchTake .keel x (launchAck 512 x s) else s
  | _ => s

/-- A commit that the twin holds WAITING begins here too where the stage or the host's writes hold something for its PART; one that it
cancels ends; a staged almanac that the twin has active already is not the one that waits (R377). -/
def mirrorCommit (i : Mirror) (s : State) : State :=
  match i with
  | .waiting part at_ group =>
    (match commitOf s part with
     | some c => if at_ = 0 ∧ c.ticket.isNone ∧ c.phase = .waiting then commitEnd c 7 s else s
     | none =>
       let items := stagedItems s part
       let was : Nat := (s.tw.mirror.findSome? (fun m => match m with | .serial p n => if p = part then some n else none | _ => none)).getD 0
       let here := s.alm.stage.any (fun x => hdrPart x.hdr == part && decide (was < x.hdr.serial)) || s.staged.any (fun e => stagedIn s items part e.1)
       if at_ ≠ 0 ∧ part < 64 ∧ here then commitBegin part at_ group none s else s)
  | _ => s

/-- MIRROR_UPDATE (R377). -/
def execMirrorUpdate (i : Mirror) (s : State) : Answer := done (mirrorCommit i (mirrorLaunch i (mirrorUpdate i s)))

/-- A LAUNCH comes to an aggregator (R183); an END's lines take theirs by EV_LAUNCH_RECEIVE. -/
def aggLaunch (n : Node) (p : Nat) (m : Raw) (s : State) : State :=
  let x := launchOf m
  if ¬ aggregates s n then s
  else if launchPath s n x.group p then launchTake n x (match n with | .keel => launchAck p x s | .evxus => s)
  else foreign n p x.group s

/-- AGG_LAUNCH_RECEIVE (R183). -/
def execAggLaunchReceive (n : Node) (p : Nat) (m : Raw) (s : State) : Answer :=
  done (onMsg n p tLaunch m (aggLaunch n p m) s)

/-- T of a DEGRADED LAUNCH passes: children whose FINAL is not in are counted out (R188). -/
def finalWaitEnd (n : Node) (k : Nat) (s : State) : State :=
  let x := planeOf (grp s n k) (frozenPlane s n)
  if x.frozen.isSome ∧ ¬ x.finalSent ∧ fullAtOrAfter (now s n) (grp s n k).lastAt then sendFinal n k s else s

/-- FINAL_WAIT_END (R188). -/
def execFinalWaitEnd (n : Node) (k : Nat) (s : State) : Answer := done (finalWaitEnd n k s)

/-- A child below a port has not been counted for the following step (R184). -/
def childOwes (s : State) (n : Node) (k p : Nat) : Bool :=
  let g := grp s n k
  let in_ (x : BitVec 20) : Bool := (nodePlanes s n).any (fun q => (planeOf g q).counted.any (fun c => c.node == x))
  g.cfg.members.any (fun m => m.port == p && !in_ m.node) || g.cfg.children.any (fun c => c.port == p && !in_ c.node)

/-- Every 1 ms the latest LAUNCH is repeated where a child has not been counted for the following step (R184). -/
def launchRepeat (n : Node) (k : Nat) (s : State) : State :=
  let g := grp s n k
  match g.latest with
  | none => s
  | some x =>
    if pe s n - g.lastRepeat < usCyc 1000 then s
    else
      modGrp n k (fun g => { g with lastRepeat := pe s n })
        (launchOn n ((launchPorts s n).filter (childOwes s n k)) x true s)

/-- LAUNCH_REPEAT (R184). -/
def execLaunchRepeat (n : Node) (k : Nat) (s : State) : Answer := done (launchRepeat n k s)

/-- T of the last launch has come: LAUNCHING ends (R194). -/
def launchTReached (n : Node) (k : Nat) (s : State) : State :=
  let g := grp s n k
  if g.state = .launching ∧ fullAtOrAfter (now s n) g.lastAt ∧ (g.toTwin.all (fun x => x.2.2)) then
    modGrp n k (fun g => { g with state := if g.planes.any (fun x => !x.counted.isEmpty) then .mustering else .idle }) s
  else s

/-- LAUNCH_T_REACHED (R194). -/
def execLaunchTReached (n : Node) (k : Nat) (s : State) : Answer := done (launchTReached n k s)

/-! Straggler lists (R193). -/

/-- The members that this package has not counted on its plane: plane, node, last step counted, contributor. -/
def stragOwn (s : State) (k : Nat) : List (Nat × BitVec 20 × Nat × Bool) :=
  let g := grp s .keel k
  let q := ownPlane s
  let x := planeOf g q
  let ms := (g.cfg.members.map (fun m => (m.node, m.adj))) ++
    (if g.cfg.adjContrib then [(BitVec.ofNat 20 (nodeId s .keel), true)] else [])
  (ms.filter (fun m => !x.counted.any (fun c => c.node == m.1))).map (fun m =>
    (q, m.1, tget 0 x.lastCounted m.1.toNat, m.2))

/-- A write of STRAG_REQ: a ticket; a second one while a list runs sets CMD_IGN in the group it names. -/
def stragReq (v : Word) (s : State) : State :=
  let k := bits v 0 6
  if ¬ bit v 31 then s
  else if s.mus.strag.isSome then raiseFlag (A.GRP_STAT k) 14 k 12 s
  else
    match nextTicket s with
    | none => raiseFlag (A.GRP_STAT k) 14 k 12 (noTicket s)
    | some t =>
      let s1 := issueAs t 12 A.STRAG_TICKET .running s
      if musterOn s .keel k then { s1 with mus := { s1.mus with strag := some ⟨k, t, (grp s .keel k).step, stragOwn s k⟩ } }
      else endTicket t 1 s1

/-- STRAG_REQ (R193). -/
def execStragReq (v : Word) (s : State) : Answer := done (stragReq v s)

/-- One entry of the list (R193). -/
def stragEntry (reps : List (Nat × BitVec 20 × Nat × Bool)) (x : BitVec 20) : List Byte :=
  let mine := reps.filter (fun r => r.2.1 == x)
  let last := mine.foldl (fun a r => max a r.2.2.1) 0
  toBE 4 (last % 2 ^ 32) ++ toBE 4 (b2n (mine.any (fun r => r.2.2.2)) * 2 ^ 22 + b2n (!mine.any (fun r => r.1 == 1)) * 2 ^ 21 +
    b2n (!mine.any (fun r => r.1 == 0)) * 2 ^ 20 + x.toNat)

/-- The list is gathered (R193). DESIGN CHOICE: a launch decided meanwhile is reported before a list that is too long (log entry 29).
A write that fails on PCIe ends the ticket with a free fault code (log entry 4). -/
def stragDone (reports : List (Nat × BitVec 20 × Nat × Bool)) (ok : Bool) (s : State) : State :=
  match s.mus.strag with
  | none => s
  | some ⟨k, t, step, own⟩ =>
    let s0 := { s with mus := { s.mus with strag := none } }
    let reps := own ++ reports
    let nodes := (reps.map (fun r => r.2.1)).eraseDups
    let n := rn s A.STRAG_MAX
    let out := nodes.take n
    if ¬ ok then
      let (f, s1) := takeFree s0
      endTicket t (1 + f % 255) (pcieFail s1)
    else
      let base := rn64 s A.STRAG_ADDR
      let s1 := emitAll ((List.range out.length).map (fun i =>
        .hostWrite (BitVec.ofNat 64 (base + 8 * i)) (stragEntry reps (out.getD i 0)))) s0
      let s2 := whenDo (!out.isEmpty) (ticketPartial t) (ticketProgress t out.length s1)
      let fault := if (grp s .keel k).step ≠ step ∨ launchDecided (grp s .keel k) then 3
        else if n < nodes.length then 2 else 0
      endTicket t fault s2

/-- STRAG_LIST_DONE (R193). -/
def execStragListDone (reports : List (Nat × BitVec 20 × Nat × Bool)) (ok : Bool) (s : State) : Answer :=
  done (stragDone reports ok s)

/-! Rebuild (R388, R389, R410). -/

/-- The survivor injects the arrivals that the lost partner owes, on its own plane (R388, R175). -/
def owedArrivals (s : State) : State :=
  match partnerNode s with
  | none => s
  | some d =>
    if s.tw.mode = .split ∨ ¬ serving s then s
    else
      forAll s.cfg.groups (fun e s =>
        let node := BitVec.ofNat 20 d
        if ¬ (groupOn s .keel e.1 ∧ e.2.members.any (fun m => m.node == node && m.adj)) ∨
            (planeOf (grp s .keel e.1) (ownPlane s)).counted.any (fun c => c.node == node && !c.aggregate) then s
        else
          let t := stampAt s .keel (now64 s .keel) 800
          let (t', sub) := substStamp t t
          countIn .keel e.1 (ownPlane s) (countedFull .keel e.1 (ownPlane s) {
            node := node, aggregate := false, arrived := 1, expected := 1, latest := t', earliest := t.ft, subst := sub
            conflict := false, late := false } s)
            (whenDo sub (grpCount .keel (A.SUBST_CNT e.1)) s)) s

/-- At a rebuild host, the bales whose gradient was lost with the package are skipped (R388): those that a set it has taken over still
lacks of a step launched before its alternates (log entry 62). -/
def lostSkip (lost : List Nat) (s : State) : State :=
  let pos := s.cfg.hall.pos
  let areas := s.cfg.hall.rebuild.filter (fun a => a.host == pos && lost.contains a.lost)
  forAll areas (fun a s => forAll a.sets (fun u s =>
    let c := psetCfg s (u / 32) (u % 32)
    let x := psetOf s (u / 32) (u % 32)
    let node := (s.cfg.hall.convoy.getD a.lost (0, false, 0, 0)).1
    let before : Bool := match s.tw.alts.find? (fun y => y.1 == c.group && y.2.2 == node) with
      | some y => decide (x.step < y.2.1)
      | none => !s.tw.activeAlts.any (fun y => y.group == c.group && y.lost == node)
    if (x.state == .waiting || x.state == .applying) && before then
      modPset (u / 32) (u % 32) (fun x => { x with grads := x.grads ++
        (((List.range c.totalBales).map (fun i => c.baleBase + i)).filter (fun b => !x.grads.any (fun g => g.1 == b))).map (fun b => (b, true, 0)) }) s
    else s) s) s

/-- The rebuild hosts report that the lost sets are rebuilt (R388, R389, R395); an expulsion that a rebuild deferred is taken up
again (R410). Each report lets the survivor twin inject the arrivals owed, whether it is of that convoy or not. -/
def rebuildDone (bytes : Nat) (data : List (Nat × List Byte)) (s : State) : State :=
  if ¬ s.tw.member then owedArrivals s
  else
    let lost := (List.range 8).filter (fun p => s.tw.positions.getD p .absent == .erased)
    let s1 := lostSkip lost (copyIn data (modTw (fun t => { t with
      rebuilt := bytes, positions := t.positions.map (fun p => if p = .erased then .rebuilt else p) }) s))
    let s2 := convRecompute (whenDo (!lost.isEmpty) (twinHist 10) s1)
    let s3 := mirrorSplit 5 [s2.tw.convStep, 0, 0, bytes] s2
    let again := s3.hl.deferred && !thirdErasure s3
    let s4 := if again then { s3 with hl := { s3.hl with
      deferred := false, due := s3.hl.hard || decide (expelLevel s3 ≤ s3.hl.score), dueHard := s3.hl.hard } } else s3
    let s5 := whenDo (s4.tw.mode == .shadow && s4.tw.newcomer) (admitReport 0) s4
    owedArrivals (admitCheck s5)

/-- REBUILD_DONE (R388). -/
def execRebuildDone (bytes : Nat) (data : List (Nat × List Byte)) (s : State) : Answer := done (rebuildDone bytes data s)

/-! SLOT_PULSE (R195). -/

/-- The working twin of a SHADOW pair mirrors a step's digests of the chosen waystations to the newcomer (R391). -/
def digestMirror (step : Nat) (s : State) : State :=
  if s.tw.mode = .shadow ∧ ¬ s.tw.newcomer then
    forAll (s.die.ws.filter (fun e => e.2.digStep == step && s.cfg.hall.admission.contains e.1)) (fun e s =>
      mirrorOut 8 [e.1 / 512, e.1 % 512, step, e.2.digest.toNat, e.2.digCount] s) s
  else s

/-- Is an ARMED sequencer held: by an activation (R345), by a change of its die's step, or by a rise to the floor that has not
begun, or because sequencers never run at F0 (R198, R426)? -/
def armedHeld (s : State) (q : Nat) : Bool :=
  let c := clkDie s (5 + q / 4)
  seqHeld s q || c.changing || c.fstep == 0 || decide (c.fstep < c.floor)

/-- A slot pulse; a held sequencer starts nothing, and a die whose core clocks THERMTRIP stopped, or that its supply holds in reset, runs no table (R345, R426,
R428, R429); the newcomer compares once a step is over (R391). -/
def slotPulseAll (q : Nat) (s : State) : State :=
  if 8 ≤ q ∨ (clkDie s (5 + q / 4)).tripped ∨ (clkDie s (5 + q / 4)).heldReset ∨ ((seqOf s q).state = .armed ∧ armedHeld s q) then s
  else
    let step := (seqOf s q).step
    let s1 := slotPulse q s
    if (seqOf s q).state = .running ∧ ((seqOf s1 q).state ≠ .running) ∧
        (List.range 8).all (fun j => decide ((seqOf s1 j).state ≠ .running)) then
      admitCompare step (digestMirror step s1)
    else s1

/-- SLOT_PULSE (R195). -/
def execSlotPulse (q : Nat) (s : State) : Answer := done (slotPulseAll q s)

end Sys2Proof.Machine
end

