-- ==== Sys2Proof/Machine/Beacon.lean ====
section
/-! DEFINITION. HEALTH messages (R416), and the messages a tap of the Evxus hands to their rules (R147). -/

namespace Sys2Proof.Machine

/-- STATE of the package (R405): 0 OK, 1 WATCH, 2 EXPELLED. -/
def healthState (s : State) : Nat := if s.hl.expelled then 2 else if watchLevel s ≤ s.hl.score then 1 else 0

/-- FLAGS of a HEALTH message (R416). -/
def healthFlags (s : State) : Node → Nat
  | .keel => b2n (!s.hl.dipWin.isEmpty) + 2 * b2n s.hl.supplyLasting + 4 * b2n (condBin s).isSome + 8 * b2n s.tw.drill.isSome
  | .evxus => 16 * b2n (rd s A.EV_ERR_STAT != 0)

/-- The body of a HEALTH message (R416). -/
def healthBody (s : State) (n : Node) : List Byte :=
  let (st, sc) : Nat × Nat := match n with
    | .keel => (healthState s, s.hl.score)
    | .evxus => (0, 0)
  bodyOf [(12, toBE 1 st), (13, toBE 1 (healthFlags s n)), (14, toBE 2 sc), (16, toBE 4 (timeUnc s n))]

/-- Does a node send HEALTH: a keel lane carries hellos only until the almanac is active (R51)? -/
def healthOn (s : State) : Node → Bool
  | .keel => s.cfg.hallActive
  | .evxus => true

/-- STATE as a node's HEALTH shows it (R416). -/
def healthShown (s : State) : Node → Nat
  | .keel => healthState s
  | .evxus => 0

/-- Has the time for the next HEALTH of a lane come: 100 ms, or a change of STATE (R416)? -/
def healthTime (s : State) (n : Node) (p : Nat) : Bool :=
  (nbrOf s n p).healthTx.all (fun t => decide (125000000 ≤ pe s n - t.1) || t.2 != healthShown s n)

/-- A HEALTH message is sent on a trained keel lane or tap (R416). -/
def healthSend (n : Node) (p : Nat) (s : State) : State :=
  if nodeRuns s n ∧ portWorks s n p ∧ linkStands s n p ∧ healthOn s n ∧ (port s n p).linkUp ∧ healthTime s n p then
    modNbr n p (fun x => { x with healthTx := some (pe s n, healthShown s n) }) (sendMsg n p tHealth (healthBody s n) s)
  else s

/-- HEALTH_SEND (R416). -/
def execHealthSend (n : Node) (p : Nat) (s : State) : Answer := done (healthSend n p s)

/-- The latest HEALTH of a port (R416). -/
def healthTake (n : Node) (p : Nat) (m : Raw) (s : State) : State :=
  let x : NbrHealth := {
    state := getBE m 12 1 % 4, flags := BitVec.ofNat 8 (getBE m 13 1), score := getBE m 14 2 % 1024
    unc := BitVec.ofNat 32 (getBE m 16 4) }
  match n with
  | .keel => { s with hl := { s.hl with nbr := tset {} s.hl.nbr p x } }
  | .evxus => { s with ev := { s.ev with health := tset {} s.ev.health p x } }

/-- HEALTH_RECEIVE (R416). -/
def execHealthReceive (n : Node) (p : Nat) (m : Raw) (s : State) : Answer := done (onMsg n p tHealth m (healthTake n p m) s)

/-- What the Evxus does with a whole message by its TYPE (R147, R52). -/
def tapHand (p barrel : Nat) (m : Raw) (s : State) : State :=
  match mType m with
  | 1 => syncTake .evxus p barrel m s
  | 2 => reqTake .evxus p barrel m s
  | 3 => respTake .evxus p m s
  | 4 => aggLaunch .evxus p m (evLaunch p m s)
  | 5 => whenDo (aggregates s .evxus) (arriveTake .evxus p barrel m) s
  | 6 => icalReceive .evxus m s
  | 7 => healthTake .evxus p m s
  | 8 => helloTake .evxus p m s
  | _ => s

/-- rx_sof with a message (R147): stamped, and handed to the rules of its TYPE; one that is not whole stays on the beats. -/
def tapRx (p barrel : Nat) (m : Raw) (s : State) : State :=
  if ¬ (nodeRuns s .evxus ∧ (port s .evxus p).linkUp) then s
  else if m.length ≠ 64 then { s with ev := { s.ev with taps := tmod {} s.ev.taps p (fun x => { x with rx := some m }) } }
  else onMsg .evxus p (mType m) m (tapHand p barrel m) s

/-- TAP_RX_SOF (R147). -/
def execTapRxSof (p barrel : Nat) (m : Raw) (s : State) : Answer := done (tapRx p barrel m s)

end Sys2Proof.Machine
end

