-- ==== Sys2Proof/Machine/Dip.lean ====
section
/-! DEFINITION. Supply dips (R413 to R415, R44, R123). -/

namespace Sys2Proof.Machine

/-- VCORE as measured, and its lowest value since the last read (R435); a reading of 0 stands for none yet. -/
def noteVcore (die mv : Nat) (s : State) : State :=
  let a := A.VCORE_MIN die
  let s1 := wn (A.VCORE_MV die) mv s
  if rn s a = 0 ∨ mv < rn s a then wn a mv s1 else s1

/-- A supply below warning, 720 mV, for 10 ns, above the reset level of 690 mV (R413, R414): a SUPPLY_DIP event, the
UNSURE cause, and on the keel the recalibration of the channels. -/
def dipDetect (die mv : Nat) (s : State) : State :=
  if ¬ diePresent s die ∨ s.hl.dipWin.contains die ∨ ¬ (690 < mv ∧ mv < 720) then s
  else
    let s1 := noteVcore die mv { s with hl := { s.hl with dipWin := die :: s.hl.dipWin } }
    let s2 := modClk .keel (fun c => { c with dipOpen := true }) s1
    let s3 := whenDo (die == 0) ticDip s2
    let s4 := raiseFlag A.HLTH_HIST 6 0 13 s3
    event { regEvent s4 (A.DIE_CLK_STAT die) die 8 0xFF with die := die } s4

/-- SUPPLY_DIP_DETECT (R413). -/
def execSupplyDipDetect (die mv : Nat) (s : State) : Answer := done (dipDetect die mv s)

/-- The bales handed off in the window that has ended: in SPLIT the captured ones go to the twin, with DIP_VERIFY_LIMIT;
every other one is UNVERIFIED (R415). -/
def dipBalesEnd (die : Nat) (s : State) : State :=
  let mine := s.hl.dipBales.filter (fun x => x.die == die && x.limit.isNone)
  let split := s.tw.mode == .split
  let s1 := { s with hl := { s.hl with dipBales := s.hl.dipBales.filter (fun x => !(x.die == die && x.limit.isNone)) } }
  let lim := pe s .keel + 1250000 * rn s A.DIP_VERIFY_LIMIT
  forAll mine (fun x s =>
    match split, x.captured with
    | true, some (a, n) =>
      mirrorOut 11 ([x.die, x.tree, x.bale, x.step, x.digest.toNat] ++ (getBytes s.die.stack a n).map (fun y => y.toNat))
        { s with hl := { s.hl with dipBales := s.hl.dipBales ++ [{ x with limit := some lim }] } }
    | _, _ => dipUnverified x s) { s1 with hl := { s1.hl with capUsed := tdel die s1.hl.capUsed } }

/-- The supply has stayed above VCORE − 3 % for 1 µs: the window ends; with the last one, UNSURE lasts 10 ms more (R413,
R44). -/
def dipEnd (die : Nat) (s : State) : State :=
  if ¬ s.hl.dipWin.contains die then s
  else
    let s1 := dipBalesEnd die { s with hl := { s.hl with dipWin := s.hl.dipWin.filter (fun d => d != die) } }
    if s1.hl.dipWin.isEmpty then
      modClk .keel (fun c => { c with dipOpen := false, dipUntil := some (c.pe.toNat + 12500000) }) s1
    else s1

/-- DIP_END (R413). -/
def execDipEnd (die : Nat) (s : State) : Answer := done (dipEnd die s)

end Sys2Proof.Machine
end

