-- ==== Sys2Proof/Machine/Clock.lean ====
section
/-! DEFINITION. Clocks, supplies and temperature (R420 to R429), the four reset levels (R430 to R432), start-up (R433, R434)
and VAUX (R457). -/

namespace Sys2Proof.Machine

/-! References and the oscillator. -/

/-- A die of 1 to 7 loses KREF: LOR, LOR_SEEN, a PLL_REF event, and its PLL freewheels, so that its time copy is out of steering
(R422, R44). -/
def krefLoss (die : Nat) (s : State) : State :=
  if ¬ (1 ≤ die ∧ diePresent s die) ∨ (clkDie s die).lor then s
  else
    let s1 := bump (A.LOR_CNT die) (modClkDie die (fun c => { c with lor := true, pllLocked := false }) s)
    let s2 := whenDo (decide (die < 7)) (modClk .keel (fun c => { c with copyLost := c.copyLost ||| BitVec.ofNat 8 (2 ^ die) })) s1
    raiseFlagAt die (A.DIE_CLK_STAT die) 14 die 7 s2

/-- KREF_LOSS (R422). -/
def execKrefLoss (die : Nat) (s : State) : Answer := done (krefLoss die s)

/-- The PLL has relocked and the copy is steered again (R422). -/
def krefRelock (die : Nat) (s : State) : State :=
  if (clkDie s die).lor then
    modClk .keel (fun c => { c with copyLost := c.copyLost &&& ~~~ BitVec.ofNat 8 (2 ^ die) })
      (modClkDie die (fun c => { c with lor := false, pllLocked := !c.heldReset }) s)
  else s

/-- KREF_RELOCK (R422). -/
def execKrefRelock (die : Nat) (s : State) : Answer := done (krefRelock die s)

/-- Loss of the 10 MHz oscillator: OSC_LOSS, VALID cleared, OVEN_WARM lost; the keel's PLL and the counter freewheel (R423). -/
def oscLoss (s : State) : State :=
  if ¬ s.keel.clk.oscOk then s
  else
    let s1 := ovenLoss (modClk .keel (fun c => { c with valid := false, oscOk := false }) (modClkDie 0 (fun c => { c with pllLocked := false }) s))
    raiseFlag A.CLK_STAT 1 0 13 (uncUpdate .keel s1)

/-- OSC_LOSS (R423). -/
def execOscLoss (s : State) : Answer := done (oscLoss s)

/-- The oscillator returns: the keel relocks, and acquires its time anew (R423, R40, R70). -/
def oscReturn (s : State) : State :=
  if s.keel.clk.oscOk then s
  else
    modSvo .keel (fun v => { v with
      acquired := false, overs := [], under := 0, change := none, jumpPending := false, grant := false
      grantDeferred := false })
      (modClk .keel (fun c => { c with oscOk := true, causeJump := false })
        (modClkDie 0 (fun c => { c with pllLocked := decide (3 ≤ s.clks.stage) && !c.heldReset }) s))

/-- OSC_RETURN (R423). -/
def execOscReturn (s : State) : Answer := done (oscReturn s)

/-- A write of SSC_CTRL on the expert page (R421). -/
def execSscOff (v : Word) (s : State) : Answer := done (onExpert 0x400000 (putFlag A.SSC_CTRL 0 (bit v 0)) s)

/-! Measurements of a die. -/

/-- The highest value since the last read of a signed register; a reading of 0 stands for none yet (R435). -/
def maxSigned (a : Nat) (x : Int) (s : State) : State :=
  if rn s a = 0 ∨ (rd s a).toInt < x then wr a (BitVec.ofInt 32 x) s else s

/-- A measurement of a die (R428, R427, R435, R411): its registers, the warning at 105 °C, the trip at 115 °C, the bin. -/
def tjMeasure (die : Nat) (tj : Int) (mv dieW pkgW load : Nat) (s : State) : State :=
  if ¬ diePresent s die ∨ s.clks.vauxLow then s
  else
    let s1 := maxSigned (A.TJ_MAX die) tj (wr (A.TJ die) (BitVec.ofInt 32 tj) (noteVcore die mv s))
    let s2 := wn A.PKG_POWER_PEAK (max (rn s1 A.PKG_POWER_PEAK) (pkgW % 2 ^ 32)) (wn A.PKG_POWER pkgW (wn (A.DIE_POWER die) dieW s1))
    let s3 := whenDo (die == 5 || die == 6) (binTake (die - 5) tj load) s2
    let s4 := whenDo (decide (1050 ≤ tj)) (raiseFlagAt die (A.DIE_CLK_STAT die) 13 die 10) s3
    if 1150 ≤ tj ∧ ¬ (clkDie s4 die).tripped then
      let s5 := modClkDie die (fun c => { c with tripped := true }) (modClks (fun c => { c with thermtrip := true }) s4)
      if s4.clks.thermtrip then s5 else emit (.pin .thermtrip true) s5
    else s4

/-- TJ_MEASURE (R428). -/
def execTjMeasure (die : Nat) (tj : Int) (mv dieW pkgW load : Nat) (s : State) : Answer :=
  done (tjMeasure die tj mv dieW pkgW load s)

/-! Resets. -/

/-- The RWS bits of a register (R9). -/
def rwsMask (a : Nat) : Word := match regRow a with | some r => BitVec.ofNat 32 r.rws | none => 0

/-- What WARM leaves in a register (R431): the Evxus window, the ERR, HLTH, TIME, SERVO, REF, PPS, ETX and PTP blocks, the
hall content of the route dies, RWS fields; the NDET counts, which only COLD clears (R331); the ticket registers, which show NONE
only until a ticket has been issued since COLD reset (R443). -/
def warmWord (a : Nat) (v : Word) : Word :=
  if (0x110 ≤ a ∧ a < 0x138) ∨ (evLo ≤ a ∧ a < evHi) ∨ (0x20000 ≤ a ∧ a < 0x40000) ∨ (0x100000 ≤ a ∧ a < 0x140000) ∨ (0x150000 ≤ a ∧ a < 0x200000) ∨
      isTicket a then v
  else
    let m := rwsMask a ||| (if 0x1400000 ≤ a ∧ a < 0x2400000 then rwcMask a else 0)
    (resetOf a &&& ~~~ m) ||| (v &&& m)

/-- The registers after WARM. -/
def warmRegs (t : Table Word) : Table Word :=
  t.filterMap (fun e => let v := warmWord e.1 e.2; if v = resetOf e.1 then none else some (e.1, v))

/-- End the tickets of the operations that a reset stops; a block that defines no RESET code gives 0xFE (R446). -/
def endTickets (l : List Nat) (fault : Nat) (s : State) : State := forAll l (fun t s => endTicket t fault s) s

/-- The update passes in progress that a test picks end with a fault (R237). -/
def passesEnd (p : Nat → Bool) (code : Nat) (s : State) : State :=
  forAll (s.die.psets.filter (fun e => p e.1 && e.2.fault == 0 && (e.2.state == .waiting || e.2.state == .applying)))
    (fun e s => updFault (e.1 / 32) (e.1 % 32) code s) s

/-- The chains of DMA engines that a test picks end RESET (R314), code 0x0C. -/
def chainsReset (p : Nat → Nat → Bool) (s : State) : State :=
  forAll (s.die.dmas.filter (fun e => p (e.1 / 16) (e.1 % 16) && (e.2.state == .waiting || e.2.state == .running)))
    (fun e s => dmaStop (e.1 / 16) (e.1 % 16) 0x0C (leaveQueue (e.1 / 16) (0x58 + e.1 % 16) s)) s

/-- Tallies that a test picks are cleared (R301), those at rest apart. -/
def talliesReset (p : Nat → Bool) (s : State) : State :=
  forAll (s.die.tallies.filter (fun e => p e.1 && (e.2.value != 0 || e.2.err || !e.2.waiters.isEmpty)))
    (fun e s => clearTally e.1 s) s

/-- What a WARM reset stops, before the fields are reset (R431, R446); a TEARDOWN that waits ends with RESET of COMMIT_STAT (R340). -/
def warmStops (s : State) : State :=
  let s1 := chainsReset (fun _ _ => true) (passesEnd (fun _ => true) 3 (abortAll 2 s))
  let s2 := forAll [0, 1, 2, 3] (fun c s => ticEnd c 5 s) s1
  let reqs := s2.alm.queue ++ s2.alm.working.toList
  let s3 := endTickets ((reqs.filter (fun r => r.op != 4)).map (fun r => r.ticket)) 13
    (endTickets (s2.alm.commits.filterMap (fun c => c.ticket) ++ (reqs.filter (fun r => r.op == 4)).map (fun r => r.ticket)) 6 s2)
  let s4 := endTickets (s3.die.dumps.map (fun d => d.ticket) ++ s3.rt.dies.filterMap (fun e => e.2.req.map (fun r => r.ticket)) ++
    (s3.mus.strag.map (fun x => x.ticket)).toList) 0xFE s3
  let s5 := drillEnd 2 [] (sendHeartbeatMarked 2 (shadowFail 6 s4))
  talliesReset (fun _ => true) (forAll ((s5.cfg.owners.map (fun x => resNorm x.1)).eraseDups) (unbind s5 []) s5)

/-- WARM (R431): the work is stopped, every partition torn down, time, hall content and the error logs kept; the package leaves
the pair's collective service. -/
def warmReset (cause : Nat) (s : State) : State :=
  let z := State.reset
  let x := warmStops s
  let psets : Table Pset := (x.die.psets.filter (fun e => e.2.fault == 3)).map (fun e => (e.1, { e.2 with grads := [] }))
  let seen (t : Table Word) : Table Word :=
    (List.range 8).foldl (fun t q => if flag x (A.SEQ_STAT q) 8 then tput (A.SEQ_STAT q) 0x100#32 t else t)
      ([A.PART_ABORT, A.PART_ABORT + 4].foldl (fun t a => if rd x a = 0 then t else tput a (rd x a) t) t)
  { x with
    regs := seen (warmRegs x.regs)
    staged := x.staged.filter (fun e => decide (evLo ≤ e.1) && decide (e.1 < evHi))
    mus := z.mus
    tics := x.tics
    cfg := { z.cfg with
      hall := x.cfg.hall, hallActive := x.cfg.hallActive, hallSerial := x.cfg.hallSerial, ports := x.cfg.ports
      sprays := x.cfg.sprays, routeSeed := x.cfg.routeSeed, byps := x.cfg.byps, spills := x.cfg.spills }
    die := { z.die with
      seqs := (x.die.seqs.map (fun e => (e.1, ({ fault := e.2.fault, left := e.2.left } : Seq)))).filter
        (fun e => e.2 != {})
      psets := psets, tallies := x.die.tallies
      banks := (x.die.banks.map (fun e => (e.1, ({ owner := e.2.owner, clearing := e.2.clearing } : Bank)))).filter (fun e => e.2 != {})
      segs := (x.die.segs.map (fun e => (e.1, ({ scrubbing := e.2.scrubbing } : Seg)))).filter (fun e => e.2 != {})
      dmas := (x.die.dmas.map (fun e => (e.1, ({ fault := e.2.fault, state := e.2.state } : Dma)))).filter (fun e => e.2 != {})
      sram := x.die.sram, stack := x.die.stack, ready := x.die.ready, trained := x.die.trained, scrubs := wholeScrubs x
      fresh := [], sigs := [] }
    alm := { z.alm with
      keys := x.alm.keys, revoked := x.alm.revoked, cache := x.alm.cache, sram := x.alm.sram
      fault := if x.alm.commits.isEmpty then 0 else 6
      parts := (x.alm.parts.map (fun e => (e.1, ({ cache := e.2.cache } : PartRec)))).filter (fun e => e.2 != {}) }
    rt := { x.rt with
      dies := x.rt.dies.map (fun e => (e.1, { live := e.2.live }))
      byps := x.rt.byps.filter (fun e => e.2.spill), egress := [], mgmt := [], peaks := [] }
    tw := { x.tw with
      mode := .solo, newcomer := false, stopped := s.tw.stopped || s.tw.mode != .solo, adm := .none, admitTicket := none, compat := false, mirror := [], sAlt := 0, alts := []
      activeAlts := [], retires := [], peerChip := none, deltas := [], deltaPend := [], admitMatch := 0, compared := 0
      restored := 0, restoreDone := false, partnerHeld := false }
    host := { z.host with
      opstat := x.host.opstat, ticketNext := x.host.ticketNext, serial := x.host.serial, link := x.host.link
      rdata := x.host.rdata, accErrAddr := 0, snap := snapReset x.host.snap }
    clks := { x.clks with
      dies := x.clks.dies.map (fun e => (e.1, { e.2 with changing := false, floor := 0, fstep := 0, nextStep := 0 }))
      busy := some .warm, lastLevel := .warm, warmCause := cause } }

/-- The order of the levels (R432). -/
def levelRank : ResetLevel → Nat
  | .cold => 0
  | .warm => 1
  | .partition => 2
  | .engine => 3

/-- A reset is asked for (R432): one of the level in progress or a lower one is ignored with RST_IGN. -/
def resetAsk (l : ResetLevel) (f : State → State) (s : State) : State :=
  match s.clks.busy with
  | none => f s
  | some b => if levelRank l < levelRank b then f s else setFlag A.RST_STAT 1 s

/-- PKG_RST_N low for 1 µs (R430). -/
def execPkgRstN (s : State) : Answer := done (resetAsk .cold (coldReset 1) s)

/-- A write of PKG_RST on the expert page: GO and the level (R435). -/
def pkgRst (v : Word) (s : State) : State :=
  onExpert 0x400000 (fun s =>
    if ¬ bit v 31 then s
    else if bit v 0 then resetAsk .cold (coldReset 2) s
    else resetAsk .warm (warmReset 1) s) s

/-- COLD_RESET (R431). -/
def execColdReset (v : Word) (s : State) : Answer := done (pkgRst v s)

/-- WARM_RESET (R431). -/
def execWarmReset (v : Word) (s : State) : Answer := done (pkgRst v s)

/-- The engines of a partition, by die place and identifier. -/
def partEngines (s : State) (p : Nat) : List (Nat × Nat) :=
  s.cfg.owners.filterMap (fun x => if x.2 ≠ p then none else match resNorm x.1 with
    | .engine d e => some (d - 5, e)
    | .seq q => some (q / 4, 0x68 + q % 4)
    | _ => none)

/-- An engine after its reset: IDLE, but a DMA engine whose chain stopped otherwise than PREEMPTED shows FAULT (R294, R314). -/
def engAfter (s : State) (dx e : Nat) : Engine :=
  let x := dmaOf s dx (e - 0x58)
  if isDma e ∧ x.state = .stopped ∧ x.fault ≠ 0 ∧ x.fault ≠ 7 then { state := .fault } else {}

/-- PARTITION p (R431): its work stops; bindings, banks and segments stay. A load under way ends RESET if it proves to be of p
(R342). -/
def partReset (p : Nat) (s : State) : State :=
  let es := partEngines s p
  let s1 := passesEnd (fun u => ownerPart s (.tree (psetCfg s (u / 32) (u % 32)).tree.toNat) == p) 3 (abortPart p 2 s)
  let s2 := chainsReset (fun dx k => es.contains (dx, 0x58 + k)) s1
  let s3 := forAll ((List.range 32).filter (fun i => reduceDie s2 (i / 16) && gateEnabled s2 (i / 16) (i % 16) &&
    gatePart s2 (i / 16) (i % 16) == p)) (fun i s => gateBreak (i / 16) (i % 16) 1 s) s2
  let s4 := forAll es (fun x s => modEng x.1 x.2 (fun _ => engAfter s x.1 x.2) (entriesDie x.1 x.2 (clearEngTallies x.1 x.2 s))) s3
  let s5 := modDie (fun d => { d with fresh := d.fresh.filter (fun k => !es.contains (k / 108, k % 108)) }) s4
  let s6 := if s5.alm.stage.any (fun x => hdrPart x.hdr == p) then discard s5 else s5
  let s7 := match commitOf s6 p with
    | some c => if c.phase = .preparing then commitEnd c 6 s6 else s6
    | none => s6
  modClks (fun c => { c with busy := some .partition, lastLevel := .partition })
    (modAlm (fun x => { x with
      held := x.held.filter (fun q => q != p)
      working := x.working.map (fun r => { r with resets := p :: r.resets }) }) s7)

/-- RST_CMD with LEVEL PARTITION (R431). -/
def execPartitionReset (part : Nat) (s : State) : Answer := done (resetAsk .partition (partReset (part % 64)) s)

/-- ENGINE e (R431): what it does ends, its tallies are cleared, gates with it break; it stays in reset until the reset has run
to its end. -/
def engReset (dx e : Nat) (s : State) : State :=
  let s1 := whenDo (decide (0x68 ≤ e)) (seqAbort (4 * dx + (e - 0x68)) 2) s
  let s2 := passesEnd (fun u => u / 32 == dx && updEngine (u % 32) == e) 4 s1
  let s3 := chainsReset (fun d k => d == dx && 0x58 + k == e) s2
  let s4 := clearEngTallies dx e (engFaultActs (dx * 108 + e) s3)
  let s5 := modDie (fun d => { d with fresh := d.fresh.filter (fun k => k != dx * 108 + e) }) s4
  modClks (fun c => { c with busy := some .engine, lastLevel := .engine }) (modEng dx e (fun _ => { state := .inReset }) s5)

/-- RST_CMD with LEVEL ENGINE: an identifier above 0x6B, or a die that is not there, sets RST_IGN (R431, R435). -/
def execEngineReset (die e : Nat) (s : State) : Answer :=
  done (if 5 ≤ die ∧ die < 7 ∧ reduceDie s (die - 5) ∧ e ≤ 0x6B then resetAsk .engine (engReset (die - 5) e) s
    else setFlag A.RST_STAT 1 s)

/-- A reset has run to its end (R432); low VAUX holds a COLD reset (R457). -/
def resetDone (s : State) : State :=
  if s.clks.busy.isNone ∨ s.clks.vauxLow then s
  else
    modDie (fun d => { d with engines := d.engines.filterMap (fun e =>
        let y := if e.2.state = .inReset then engAfter s (e.1 / 108) (e.1 % 108) else e.2
        if y = {} then none else some (e.1, y)) })
      (modClks (fun c => { c with busy := none }) s)

/-- RESET_DONE (R432). -/
def execResetDone (s : State) : Answer := done (resetDone s)

/-! Supplies. -/

/-- BROWNOUT, logged in class RECORD (R429). -/
def brownout (die : Nat) (s : State) : State := raiseFlagAt die (A.DIE_CLK_STAT die) 15 die 13 s

/-- The die stays in reset; its PLLs lose lock, and a reduce die's banks are not READY (R429). -/
def dieHeld (die : Nat) (s : State) : State :=
  let s1 := modClkDie die (fun c => { c with heldReset := true, pllLocked := false, changing := false }) s
  whenDo (die == 5 || die == 6) (modDie (fun d => { d with ready := d.ready.set (die - 5) false })) s1

/-- A supply at the reset level for 10 ns (R429): the keel's resets the package COLD, another die's WARM. -/
def supplyReset (die : Nat) (s : State) : State :=
  if ¬ diePresent s die then s
  else if die = 0 then brownout 0 (resetAsk .cold (coldReset 3) s)
  else brownout die (dieHeld die (resetAsk .warm (warmReset 2) s))

/-- SUPPLY_RESET_EXCURSION (R429). -/
def execSupplyResetExcursion (die : Nat) (s : State) : Answer := done (supplyReset die s)

/-- Zero in every line of a die's banks; they pass to the host, and READY is set (R279). -/
def diesBanksClear (dx : Nat) (s : State) : State :=
  modDie (fun d => { d with
    banks := d.banks.filter (fun e => e.1 / 256 != dx)
    sram := tkeep (fun a => a / 2 ^ 27 != dx) d.sram
    ready := d.ready.set dx true }) s

/-- The die is released: PLLs relocked, and a reduce die's banks cleared (R429). -/
def brownoutRelease (die : Nat) (s : State) : State :=
  if ¬ (clkDie s die).heldReset then s
  else
    let s1 := modClkDie die (fun c => { c with heldReset := false, pllLocked := !c.lor }) s
    whenDo (die == 5 || die == 6) (fun s => chainsGoOn (die - 5) (diesBanksClear (die - 5) s)) s1

/-- BROWNOUT_RELEASE (R429). -/
def execBrownoutRelease (die : Nat) (s : State) : Answer := done (brownoutRelease die s)

/-- VAUX below 1.70 V puts the package in COLD reset, whatever reset is in progress, and holds it there until it has been back for
10 ms (R457; coldHold); its loss clears the latched THERMTRIP (R459). -/
def vauxLow (low : Bool) (s : State) : State :=
  if low = s.clks.vauxLow then s
  else if low then
    let s1 := whenDo s.clks.thermtrip (emit (.pin .thermtrip false)) (coldReset 3 s)
    modClks (fun c => { c with
      vauxLow := true, thermtrip := false, outMark := s1.out.length, dies := c.dies.map (fun e => (e.1, { e.2 with tripped := false })) }) s1
  else modClks (fun c => { c with vauxLow := false }) s

/-- VAUX_LOW (R457). -/
def execVauxLow (low : Bool) (s : State) : Answer := done (vauxLow low s)

/-! Start-up. -/

/-- Power good (R433): stage 1 ends; POWER_ELAPSED counts from here (R41). -/
def powerGood (s : State) : State :=
  if s.clks.powered ∨ s.clks.vauxLow ∨ ¬ s.keel.clk.oscOk then s
  else modClk .keel (fun c => { c with pe := 0 }) (modClks (fun c => { c with powered := true, stage := 2, coldCause := 0 }) s)

/-- POWER_GOOD (R433). -/
def execPowerGood (s : State) : Answer := done (powerGood s)

/-- Has the node acquired its time as stage 8 asks (R433)? -/
def timeAcquired (s : State) : Bool :=
  s.keel.clk.valid && (if s.tw.primary then s.keel.ref.rootWarm else s.keel.ref.state == .locked)

/-- Go to a stage. -/
def stageTo (n : Nat) (s : State) : State := modClks (fun c => { c with stage := n }) s

/-- A start-up fault is recorded (R434). -/
def startFault (f : Nat) (s : State) : State := if f = 0 then s else modClks (fun c => { c with startFault := f }) s

/-- The PLLs of the dies lock to KREF, the keel's to the oscillator, at stage 2 (R433). -/
def pllsLock (s : State) : State :=
  forAll (dies s) (fun d s => modClkDie d (fun x => { x with pllLocked := if d = 0 then s.keel.clk.oscOk else !x.lor }) s) s

/-- The keel's firmware runs: an image that was staged takes effect, and the PCIe link has trained (R433, R436, R465). -/
def keelStarts (d : StageData) (s : State) : State :=
  { s with clks := { s.clks with fw := d.fw.getD s.clks.fw }, host := { s.host with link := d.link } }

/-- The stage in hand ends (R433, R434): `fault` is the code of R434 or 0. While a COLD reset is in progress the package waits at
stage 2 (R432): its end, RESET_DONE, is the release of PKG_RST_N where that is held low through power-up (R461). -/
def stageEnd (fault : Nat) (d : StageData) (s : State) : State :=
  let c := s.clks
  if c.vauxLow ∨ c.busy = some .cold then s
  else
    match c.stage with
    | 2 =>
      if c.startFault ≠ 0 ∨ (dies s).any (fun d => (clkDie s d).heldReset) then s
      else if fault = 1 ∨ fault = 2 then startFault fault s
      else stageTo 3 (pllsLock s)
    | 3 => stageTo 4 (forAll ((List.range 2).filter (reduceDie s)) diesBanksClear s)
    | 4 => stageTo 5 (fstepAll (keelStarts d s))
    | 5 =>
      let ok := (List.range 4).map (fun k => reduceDie s (k / 2) && bitsN d.untrained k 1 == 0)
      let f := if fault = 4 then 4 else if (List.range 4).any (fun k => reduceDie s (k / 2) && bitsN d.untrained k 1 == 1) then 3 else 0
      stageTo 6 (startFault f (modDie (fun x => { x with trained := ok }) s))
    | 6 => stageTo 7 s
    | 7 => if s.cfg.hallActive then stageTo 8 s else s
    | 8 => if timeAcquired s then stageTo 9 s else s
    | _ => s

/-- STARTUP_STAGE_END (R433). -/
def execStartupStageEnd (fault : Nat) (d : StageData) (s : State) : Answer := done (stageEnd fault d s)

end Sys2Proof.Machine
end

