-- ==== Sys2Proof/Machine/Tally.lean ====
section
/-! DEFINITION. Commands on tallies and gates (12): TALLY_SIGNAL, TALLY_SET, TALLY_CLEAR_ERR, TALLY_CLEAR, SIGNAL_ARRIVAL,
TALLY_CLEAR_ACK, GATE_ARRIVE, GATE_CANCEL, DUMP_REQ, TALLY_DUMP_DONE. -/

namespace Sys2Proof.Machine

/-- A host TALLY_CMD: an invalid reference, or INDEX 63, sets CMD_BAD and nothing is done (R318). -/
def tallyCmd (dx : Nat) (v : Word) (f : Nat → State → State) (s : State) : State :=
  let ref := bits v 0 16
  if refTally s ref then f (tallyKey ref) s else raiseFlag (A.TALLY_STAT dx) 6 0 12 s

/-- TALLY_SIGNAL: add the signed TALLY_CMD_VAL (R297, R298). -/
def execTallySignal (die : Nat) (v : Word) (s : State) : Answer :=
  done (onReduce die (A.TALLY_CMD (die - 5)) (fun dx s =>
    tallyCmd dx v (fun k s => applySignal k srcHost (sgn 16 (rf s (A.TALLY_CMD_VAL dx) 0 16)) s) s) s)

/-- SET: VALUE becomes `v`, ERR clears, and the head waiters are tested (R297, R299). -/
def tallySet (k v : Nat) (s : State) : State := testWaiters k (modTally k (fun t => { t with value := v, err := false }) s)

/-- TALLY_SET (R297). -/
def execTallySet (die : Nat) (v : Word) (s : State) : Answer :=
  done (onReduce die (A.TALLY_CMD (die - 5)) (fun dx s =>
    tallyCmd dx v (fun k s => tallySet k (rf s (A.TALLY_CMD_VAL dx) 0 16) s) s) s)

/-- TALLY_CLEAR_ERR (R297). -/
def execTallyClearErr (die : Nat) (v : Word) (s : State) : Answer :=
  done (onReduce die (A.TALLY_CMD (die - 5)) (fun dx s =>
    tallyCmd dx v (fun k s => modTally k (fun t => { t with err := false }) s) s) s)

/-- TALLY_CLEAR (R302). -/
def execTallyClear (die : Nat) (v : Word) (s : State) : Answer :=
  done (onReduce die (A.TALLY_CMD (die - 5)) (fun dx s => tallyCmd dx v clearTally s) s)

/-- The oldest signal on its way from a signaller to a tally arrives (R298); with none on its way nothing happens. -/
def sigTake (src ref : Nat) (s : State) : State :=
  match s.die.sigs.find? (fun x => x.1 == src && x.2.1 == ref) with
  | none => s
  | some x => signalArrive ref src x.2.2.1 x.2.2.2 (modDie (fun d => { d with sigs := d.sigs.erase x }) s)

/-- SIGNAL_ARRIVAL (R298). -/
def execSignalArrival (src ref : Nat) (s : State) : Answer := done (sigTake src ref s)

/-- Signals from the engines of the other die are on their way to a die (R302, R303). -/
def sigsCross (s : State) (dx : Nat) : Bool := s.die.sigs.any (fun x => x.1 != srcHost && x.1 / 128 != dx && refDie x.2.1 == dx)

/-- TALLY_CLEAR_ACK: CLEARING is removed, and the other die holds the new GEN (R302). The acknowledgement travels behind every packet
in the crossing: while signals are on their way, it has not come. -/
def execTallyClearAck (ref : Nat) (s : State) : Answer :=
  done (if refTally s ref ∧ ¬ sigsCross s (refDie ref) then
    modTally (tallyKey ref) (fun t => { t with clearing := false, genCopy := t.gen }) s else s)

/-- May an engine arrive at a gate now? One bound to no partition executes nothing (R273); a DMA engine with a descriptor in hand
arrives only at the gate that the descriptor names, once, when its wait is over (R306, R313). -/
def mayArrive (s : State) (dx g e : Nat) : Bool :=
  engPart s dx e != 0xFF && (!(isDma e && dmaWorks s dx (e - 0x58)) ||
    (descGate s dx e == some g && (dmaOf s dx (e - 0x58)).waitDone && !(dmaOf s dx (e - 0x58)).gateDone))

/-- GATE_ARRIVE: an engine arrives at a gate of its die (R307). -/
def execGateArrive (die g e : Nat) (s : State) : Answer :=
  done (onCore die (A.GATE_ARRIVED (die - 5) g) (fun dx s => if mayArrive s dx (g % 16) e then gateArrive dx (g % 16) e s else s) s)

/-- GATE_CANCEL: the arrived members are released CANCELLED (R308). -/
def execGateCancel (die g : Nat) (s : State) : Answer :=
  done (onReduce die (A.GATE_CMD (die - 5) g) (fun dx s => gateBreak dx (g % 16) 3 s) s)

/-- TALLY_VAL as it reads (R318). -/
def tallyValWord (t : Tally) : Nat := t.gen.toNat * 2 ^ 24 + b2n t.err * 2 ^ 23 + b2n t.clearing * 2 ^ 22 + t.value

/-- TALLY_WAIT as it reads (R318). -/
def tallyWaitWord (t : Tally) : Nat :=
  t.lastSig * 2 ^ 24 + ((t.waiters.head?.map (fun w => w.engine)).getD 0xFE) * 65536 + t.waiters.length % 128 * 256

/-- The image of a dump (R310). -/
def dumpImage (s : State) (dx : Nat) : List Byte :=
  let w (v : Nat) : List Byte := toLE 4 v
  w 0x54444D50 ++ w (5 + dx) ++ ((stampWords (stampDie s (5 + dx))).flatMap (fun x => w x.toNat)) ++ w 5184 ++ w 16 ++
    List.replicate 36 0 ++
    (List.range 5184).flatMap (fun k => let t := tallyOf s (dx * 5184 + k); w (tallyValWord t) ++ w (tallyWaitWord t)) ++
    (List.range 16).flatMap (fun g => toLE 16 (gateMask s dx g).toNat ++ toLE 16 (gateOf s dx g).arrived.toNat ++
      w (rn s (A.GATE_CFG dx g)) ++ w (gateStatWord s dx g) ++ w (rn s (A.GATE_OPENS dx g)) ++ w 0)

/-- A write of DUMP_REQ with GO: a ticket, and the capture; refused while a dump runs, or without a ticket (R310, R442). -/
def dumpReq (dx : Nat) (v : Word) (s : State) : State :=
  if ¬ bit v 31 then s
  else if s.die.dumps.any (fun d => d.dx == dx) then raiseFlag (A.TALLY_STAT dx) 7 0 12 s
  else
    match nextTicket s with
    | none => raiseFlag (A.TALLY_STAT dx) 7 0 12 (noTicket s)
    | some t =>
      modDie (fun d => { d with dumps := d.dumps ++ [{
          dx := dx, ticket := t, stack := bit v 8, seg := bits v 0 8, addr := rn64 s (A.DUMP_ADDR dx)
          image := dumpImage s dx }] })
        (issueAs t 26 (A.DUMP_TICKET dx) .running s)

/-- DUMP_REQ (R310). -/
def execDumpReq (die : Nat) (v : Word) (s : State) : Answer :=
  done (onReduce die (A.DUMP_REQ (die - 5)) (fun dx s => dumpReq dx v s) s)

/-- The image is written in bursts of at most 256 bytes: to the stack under the segment's host rights (R310, R291). -/
def dumpSegCheck (s : State) (d : Dump) : Option (Nat × Nat) :=
  ((List.range ((d.image.length + 255) / 256)).map (fun i => d.addr + 256 * i)).findSome? (fun a =>
    (segCheck s d.dx d.seg true 0xFF true a (min 256 (d.addr + d.image.length - a))).map (fun c => (c, a)))

/-- The records that the first `n` bytes of an image hold whole (R310). -/
def dumpRecords (n : Nat) : Nat := if n ≤ 41536 then (n - 64) / 8 else 5184 + (n - 41536) / 48

/-- A part of an image is written, and the ticket shows its records (R310). -/
def dumpPut (d : Dump) (n : Nat) (s : State) : State :=
  let k := dumpRecords n
  whenDo (k != 0) (ticketPartial d.ticket) (ticketProgress d.ticket k
    (modDie (fun x => { x with stack := putBytes d.addr (d.image.take n) x.stack }) s))

/-- A part of an image is written to the host, and the ticket shows its records (R310). -/
def dumpHost (d : Dump) (n : Nat) (s : State) : State :=
  let k := dumpRecords n
  whenDo (k != 0) (ticketPartial d.ticket) (ticketProgress d.ticket k
    (whenDo (n != 0) (emit (.hostWrite (BitVec.ofNat 64 d.addr) (d.image.take n))) s))

/-- The dump of a die ends (R310): fault 0, 1 HOST or 2 SEG; bursts before the one that its segment refuses, and bytes before the
PCIe write that fails, stand (R291). A target outside region 3 is no target of a dump: fault SEG, nothing written (DESIGN CHOICE,
log entry 57). -/
def dumpDone (dx : Nat) (failed : Option Nat) (s : State) : State :=
  match s.die.dumps.find? (fun d => d.dx == dx) with
  | none => s
  | some d =>
    let s1 := modDie (fun x => { x with dumps := x.dumps.erase d }) s
    if d.stack then
      if (segOf s dx d.seg).active ∧ segRegion s dx d.seg ≠ 3 then endTicket d.ticket 2 s1
      else
        match dumpSegCheck s d with
        | some (c, a) => endTicket d.ticket 2 (dumpPut d (a - d.addr) (segViol dx d.seg c 0xFF true a s1))
        | none => endTicket d.ticket 0 (dumpPut d d.image.length s1)
    else
      match failed with
      | none => endTicket d.ticket 0 (dumpHost d d.image.length s1)
      | some n => endTicket d.ticket 1 (dumpHost d (min n d.image.length) (pcieFail s1))

/-- TALLY_DUMP_DONE: `failed` gives the bytes written before a PCIe write that failed, if one did (R310). -/
def execTallyDumpDone (die : Nat) (failed : Option Nat) (s : State) : Answer :=
  done (onReduce die (A.DUMP_TICKET (die - 5)) (fun dx s => dumpDone dx failed s) s)

end Sys2Proof.Machine
end

