-- ==== Sys2Proof/Machine/Pps.lean ====
section
/-! DEFINITION. Reference pins (R93 to R98) and pulse outputs (R116 to R119). An edge lies `phase`, in 2^-16 ns, after the
cycle of the counter in which the command comes. -/

namespace Sys2Proof.Machine

/-- The stamp of a pin's edge in 2^-16 ns, less PIN_PHASE_OFS (R93). -/
def pinTime (s : State) (i phase : Nat) : Int :=
  (ftUnits (now64 s .keel) + phase : Nat) - (rd s (A.PIN_PHASE_OFS___SRC_PATH_UNC i)).toInt

/-- PULL_REMAIN and the intercalations announced and not yet applied (R95). -/
def pullOpen (s : State) : Int := s.keel.icl.remain + s.keel.icl.pend.foldl (fun a x => a + x.q) 0

/-- A phase measurement of a pin: kept as its phase; of the selected pin of the primary root it stands for one accepted
exchange, with e_net; the first one after a selection starts the pull, or finds the phase far (R95, R96). -/
def pinPhase (i : Nat) (e : Int) (s : State) : State :=
  let s1 := modSrc .keel i (fun x => { x with phase := e }) s
  if ¬ (s.tw.primary ∧ selSource s .keel = some i) then s1
  else
    let r := s.keel.ref
    let e1 := if r.phaseFar then cres (e - r.farOfs) secU else e
    let net := e1 + pullOpen s
    let per := if pinMode s i = 1 then 4000 else 1
    if ¬ r.pullPend then servoTake .keel { e := net, per := per } s1
    else
      let s2 := modRef .keel (fun r => { r with pullPend := false }) s1
      if (nsU (rn s A.PULL_MAX) : Int) < net.natAbs then
        let s3 := refHist .keel 10 (modRef .keel (fun r => { r with phaseFar := true, farOfs := e + pullOpen s }) s2)
        servoTake .keel { e := 0, per := per } s3
      else
        let s3 := icalMirror (modIcl .keel (fun x => { x with remain := -net }) s2)
        servoTake .keel { e := e1 + pullOpen s3, per := per } s3

/-- A pin becomes active (R98). -/
def pinActive (i : Nat) (s : State) : State := modSrc .keel i (fun x => { x with active := true }) s

/-- Does a pulse lie within ±1 µs of a whole number of seconds after the last accepted edge, on the oscillator (R98)? -/
def pulseInWindow (s : State) (x : Source) : Bool :=
  match x.lastPulse with
  | some l =>
    let d : Int := cres ((pe s .keel : Int) - l) (secC 1)
    decide (secC 1 - 1250 ≤ pe s .keel - l) && decide (d.natAbs ≤ 1250)
  | none => false

/-- Does an edge come 1 s ± 1 µs after an earlier one: what restores activity (R98)? Edges between the two do not matter. -/
def pulseNext (s : State) (x : Source) : Bool := x.edges.any (fun l => decide (((pe s .keel : Int) - l - secC 1).natAbs ≤ 1250))

/-- An edge while the pulse part is absent is remembered for a second (R98). -/
def edgeNote (i : Nat) (s : State) : State :=
  modSrc .keel i (fun x => { x with
    edges := pe s .keel :: x.edges.filter (fun l => decide (pe s .keel ≤ l + secC 1 + 1250)) }) s

/-- MISMATCH of a BOTH pin: the pulse lies further than ±20 ns from a 10 MHz edge (R94); else that edge is the second. -/
def pulseAnchor (i : Nat) (t : Int) (s : State) : State :=
  match (src s .keel i).edge with
  | none => s
  | some g =>
    let r := cres (t - g) grid100
    if nsU 20 < r.natAbs then
      whenDo (!(src s .keel i).mismatch) (refHist .keel 9)
        (modSrc .keel i (fun x => { x with mismatch := true, qualified := false, qualRun := 0, grid := none }) s)
    else modSrc .keel i (fun x => { x with mismatch := false, grid := some (cres (t - r) secU) }) s

/-- PPS_PULSE (R93, R94, R98). -/
def ppsPulse (i phase : Nat) (s : State) : State :=
  if 4 ≤ i ∨ ¬ (pinMode s i = 1 ∨ pinMode s i = 3) then s
  else
    let x := src s .keel i
    let t := pinTime s i phase
    let note := fun s => modSrc .keel i (fun x => { x with
      lastPulse := some (pe s .keel), lastEdge := some (pe s .keel, phase), empty := 0 }) s
    if ¬ (if x.pulseOk then pulseInWindow s x else pulseNext s x) then
      (if x.pulseOk then bump (A.SRC_STRAY i) s
       else if x.lastPulse.isNone ∨ pulseInWindow s x then note (edgeNote i s)
       else bump (A.SRC_STRAY i) (edgeNote i s))
    else
      let s1 := modSrc .keel i (fun x => { x with pulseOk := true, edges := [] }) (note s)
      if pinMode s i = 1 then pinPhase i (cres t secU) (pinActive i (pulseNote i phase s1))
      else
        let s2 := pulseAnchor i t s1
        whenDo x.freqPart (pinActive i) s2

/-- PPS_PULSE (R98). -/
def execPpsPulse (pin phase : Nat) (s : State) : Answer := done (ppsPulse pin phase s)

/-- PIN_PHASE_MEASURE: the 10 MHz edge against its place on the 100 ns grid (R93). -/
def pinMeasure (i phase : Nat) (s : State) : State :=
  if 4 ≤ i ∨ ¬ (src s .keel i).freqPart then s
  else
    let t := pinTime s i phase
    if pinMode s i = 3 then
      let s1 := modSrc .keel i (fun x => { x with edge := some (cres t grid100) }) s
      match (src s .keel i).grid with
      | some g => pinPhase i (g + cres (t - g) grid100) s1
      | none => s1
    else if pinMode s i = 2 ∧ selSource s .keel = some i then
      match (src s .keel i).grid with
      | some g => pinPhase i (cres (t - g) grid100) s
      | none => pinPhase i 0 (modSrc .keel i (fun x => { x with grid := some (cres t grid100) }) s)
    else s

/-- PIN_PHASE_MEASURE (R93). -/
def execPinPhaseMeasure (pin phase : Nat) (s : State) : Answer := done (pinMeasure pin phase s)

/-- A pulse window closes empty: counted; the third in a row declares loss (R98, SRC_MISS of R120). -/
def ppsWindowEmpty (i : Nat) (s : State) : State :=
  let x := src s .keel i
  match x.lastPulse with
  | none => s
  | some l =>
    if 4 ≤ i ∨ ¬ (pinMode s i = 1 ∨ pinMode s i = 3) ∨ pe s .keel ≤ l + secC (x.empty + 1) + 1250 then s
    else
      let s1 := bumpSat32 (A.SRC_MISS i) (modSrc .keel i (fun x => { x with empty := x.empty + 1 }) s)
      if x.empty + 1 = 3 then sourceLost .keel i (modSrc .keel i (fun x => { x with pulseOk := false }) s1) else s1

/-- PPS_WINDOW_EMPTY (R98). -/
def execPpsWindowEmpty (pin : Nat) (s : State) : Answer := done (ppsWindowEmpty pin s)

/-- Has a pin a 10 MHz part? -/
def pinFreq (s : State) (i : Nat) : Bool := decide (i < 4) && (pinMode s i == 2 || pinMode s i == 3)

/-- A gap of more than 150 ns is counted, one count per gap, whether or not the part is present; it declares the loss of one that
is (R98, R120). -/
def freqGap (i : Nat) (s : State) : State :=
  if pinFreq s i then
    sourceLost .keel i (bumpSat32 (A.SRC_MISS i)
      (modSrc .keel i (fun x => { x with freqPart := false, grid := none, edge := none }) s))
  else s

/-- FREQ_GAP_LOSS (R98). -/
def execFreqGapLoss (pin : Nat) (s : State) : Answer := done (freqGap pin s)

/-- 1 µs without a missing 10 MHz cycle restores that part (R98). -/
def freqRestored (i : Nat) (s : State) : State :=
  if pinFreq s i then
    let s1 := modSrc .keel i (fun x => { x with freqPart := true }) s
    whenDo (pinMode s i == 2 || (src s .keel i).pulseOk) (pinActive i) s1
  else s

/-- FREQ_ACTIVITY_RESTORED (R98). -/
def execFreqActivityRestored (pin : Nat) (s : State) : Answer := done (freqRestored pin s)

/-- An output. -/
def outOf (s : State) (o : Nat) : PpsOut := tget {} s.outs o

/-- Change an output. -/
def modOut (o : Nat) (f : PpsOut → PpsOut) (s : State) : State := { s with outs := tmod {} s.outs o f }

/-- The programmed edge at or before now, in 2^-16 ns: the second boundary, or every multiple of OUT_PERIOD from it, plus
OUT_OFFSET and, aligned to a pin, the latest e of that pin (R116). -/
def outEdge (s : State) (c : OutCfg) : Int :=
  let off := c.offset + (if 1 ≤ c.align ∧ c.align ≤ 4 then (src s .keel (c.align - 1)).phase else 0)
  let p : Int := if c.mode = 1 then secU else nsU c.period
  let t : Int := ftUnits (now64 s .keel)
  (t - off) / p * p + off

/-- SQUELCHED and FLYWHEEL of an output (R118). -/
def outSquelch (s : State) (o : Nat) (c : OutCfg) : Bool × Bool :=
  if c.align = 0 then (!s.keel.clk.valid, false)
  else
    let gone := !(src s .keel (c.align - 1)).active
    let sq := flag s (A.OUT_CTRL o) 4
    (gone && sq, gone && !sq)

/-- The pin of an output. -/
def outPin (o : Nat) (c : OutCfg) : Pin := if c.mode = 1 then .pps o else .freq o

/-- The level at the ball: active while a pulse is out, POLARITY applied (R116, R121). -/
def outLevel (x : PpsOut) : Bool := x.fall.isSome != x.cfg.low

/-- The trailing edge of the pulse that is out (R116). DESIGN CHOICE (log entry 18): UNSURE_EDGE and OUT_LAST are of leading edges
alone (R118, R121). -/
def trailEdge (o : Nat) (t : BitVec 64) (s : State) : State :=
  emit (.edge (outPin o (outOf s o).cfg) t) (modOut o (fun x => { x with fall := none }) s)

/-- An output emits an edge at its programmed time: in the cycle that comes to or past it. The trailing edge of a pulse comes
OUT_WIDTH after the leading one; squelched leading edges and PPS pulses less than 500 ms after the previous one are not emitted
(R116, R118, R119). SQUELCHED, FLYWHEEL and RUNNING follow at this command (log entry 18). -/
def outputEdge (o : Nat) (s : State) : State :=
  let x := outOf s o
  let c := x.cfg
  if 2 ≤ o ∨ c.mode = 0 ∨ (c.mode = 2 ∧ c.period = 0) then s
  else if x.fall.any (fun f => atOrAfter (now64 s .keel) f) then trailEdge o (x.fall.getD 0) s
  else
    let t := outEdge s c
    let (sq, fly) := outSquelch s o c
    if (lastCycle s.keel.clk : Int) ≤ ((ftUnits (now64 s .keel) : Int) - t) * 65536 then s
    else if sq then modOut o (fun x => { x with running := false, squelched := true, flywheel := false }) s
    else
      let near := match x.lastPulse with
        | some l => decide (c.mode = 1) && decide (pe s .keel < l + 625000000)
        | none => false
      if near then bump (A.OUT_SKIP o) s
      else
        let f := ftOf (t % (ftCycle : Int)).toNat
        let s1 := modOut o (fun x => { x with
          running := true, squelched := false, flywheel := fly, fall := some (ftAdd f (nsU c.width))
          lastPulse := if c.mode = 1 then some (pe s .keel) else x.lastPulse
          last := some (stampAt s .keel f 800) }) s
        whenDo (unsure s .keel) (setFlag (A.OUT_STATUS o) 4)
          (emit (.edge (outPin o c) f) s1)

/-- OUTPUT_EDGE (R116). -/
def execOutputEdge (o : Nat) (s : State) : Answer := done (outputEdge o s)

/-- Changes take effect at a second boundary: in the cycle that comes to or past it (R117). -/
def outApply (o : Nat) (s : State) : State :=
  let t := now s .keel
  match (outOf s o).next with
  | some c =>
    if lastCycle s.keel.clk ≤ t.ns.toNat * 2 ^ 32 + t.frac.toNat then s
    else modOut o (fun x => { x with
      cfg := c, next := none, running := x.running && c.mode != 0, squelched := x.squelched && c.mode != 0
      flywheel := x.flywheel && c.mode != 0, fall := if c.mode = 0 then none else x.fall }) s
  | none => s

/-- OUT_CONFIG_APPLY (R117). -/
def execOutConfigApply (o : Nat) (s : State) : Answer := done (outApply o s)

end Sys2Proof.Machine
end

