-- ==== Sys2Proof/Machine/Ptp.lean ====
section
/-! DEFINITION. IEEE 1588 on the edge ports (R83 to R85). -/

namespace Sys2Proof.Machine

/-- An edge port. -/
def edgeOf (s : State) (e : Nat) : EdgePort := tget {} s.ptp e

/-- Change an edge port. -/
def modEdge (e : Nat) (f : EdgePort → EdgePort) (s : State) : State := { s with ptp := tmod {} s.ptp e f }

/-- What a stamp takes from EDGE_ASYM (log entry 25). -/
def asymPart (s : State) (e : Nat) (tx : Bool) : Int :=
  let a := (rd s (A.EDGE_ASYM e)).toInt
  if a = 0 then 0 else Config.edgeAsym tx a

/-- The fabric time of an edge port's message timestamp point, with the fixed corrections (R84). -/
def edgeTime (s : State) (e phase : Nat) (tx : Bool) : FabTime :=
  let fixed : Int := if tx then rn s (A.EDGE_TX_PIPE e) else -(rn s (A.EDGE_RX_PIPE e) : Int)
  fabAdd (now s .keel) ((phase + fixed + asymPart s e tx) * 65536)

/-- The stamp: the sampling period is 40 ps (R84). -/
def edgeStamp (s : State) (t : FabTime) : Stamp := stampAt s .keel (fabFt64 t) 40

/-- Fields of a PTP message: messageType, the two-step flag, sequenceId. -/
def ptpType (m : Raw) : Nat := getBE m 0 1 % 16
def ptpTwoStep (m : Raw) : Bool := bitsN (getBE m 6 1) 1 1 == 1
def ptpSeq (m : Raw) : Nat := getBE m 30 2

/-- The message with some 2^-16 ns added to its correctionField. -/
def addCorr (d : Int) (m : Raw) : Raw := putAt m 8 (toBE 8 (enc 64 (sgn 64 (getBE m 8 8) + d)))

/-- The originTimestamp of a one-step Sync: seconds, nanoseconds; the fraction goes to the correctionField (R84). -/
def putOrigin (t : FabTime) (m : Raw) : Raw :=
  addCorr (t.frac.toNat / 65536 : Nat) (putAt m 34 (toBE 6 t.sec.toNat ++ toBE 4 t.ns.toNat))

/-- Where the PTP message of a frame begins: behind the UDP header, for a port whose transport is UDP (R84). -/
def ptpOfs (s : State) (e : Nat) : Nat := if tget 0 s.straps.transport e = 0 then 0 else 8

/-- The sum of the 16-bit words of some bytes. -/
def sum16 : List Byte → Nat
  | [] => 0
  | [a] => a.toNat * 256
  | a :: b :: r => a.toNat * 256 + b.toNat + sum16 r

/-- The UDP checksum of a datagram whose payload changes, corrected by the change; over IPv4 a checksum of zero, which stands for
none, stays (R84; log entry 54). -/
def udpCorrect (v4 : Bool) (old new : List Byte) (h : Raw) : Raw :=
  let c := getBE h 6 2
  if v4 ∧ c = 0 then h
  else putAt h 6 (toBE 2 (65535 - ((65535 - c) + sum16 new + (65535 * (old.length + 1) - sum16 old)) % 65535))

/-- Change the PTP message of a frame, and correct the UDP checksum (R84). -/
def onPtp (s : State) (e : Nat) (f : Raw → Raw) (m : Raw) : Raw :=
  let k := tget 0 s.straps.transport e
  if k = 0 then f m
  else
    let b := f (m.drop 8)
    udpCorrect (k == 1) (m.drop 8) b (m.take 8) ++ b

/-- An event message is sent (R84, R85): a one-step Sync or Pdelay_Resp is completed by the hardware; of any other the
stamp goes to the queue, or is lost where the queue is full. DESIGN CHOICE (log entry 54): the turnaround of a one-step Pdelay_Resp
is from the last Pdelay_Req received, if its sequenceId is the same, and else nothing is added. -/
def ptpTx (e phase : Nat) (msgId : Byte) (m : Raw) (s : State) : State :=
  let t := edgeTime s e phase true
  let st := edgeStamp s t
  let b := m.drop (ptpOfs s e)
  if ptpType b = 0 ∧ ¬ ptpTwoStep b then emit (.ptp e (onPtp s e (putOrigin t) m)) s
  else if ptpType b = 3 ∧ ¬ ptpTwoStep b then
    let d : Int := match (edgeOf s e).lastReq with
      | some (q, r) => if q = ptpSeq b then ftDiff st.ft r.ft else 0
      | none => 0
    emit (.ptp e (onPtp s e (addCorr d) m)) s
  else
    let s1 := emit (.ptp e m) s
    if 16 ≤ (edgeOf s e).queue.length then bump (A.TXQ_OVF e) s1
    else
      modEdge e (fun x => { x with queue := x.queue ++ [{
        msgId := msgId, msgType := BitVec.ofNat 4 (ptpType b), seqId := BitVec.ofNat 16 (ptpSeq b), stamp := st,
        at_ := pe s .keel }] }) s1

/-- PTP_EVENT_TX (R84). -/
def execPtpEventTx (e phase : Nat) (msgId : Byte) (m : Raw) (s : State) : Answer := done (ptpTx e phase msgId m s)

/-- An event message is received: its stamp travels in its receive descriptor (R85). -/
def ptpRx (e phase : Nat) (m : Raw) (s : State) : State :=
  let st := edgeStamp s (edgeTime s e phase false)
  let b := m.drop (ptpOfs s e)
  let s1 := whenDo (ptpType b == 2) (modEdge e (fun x => { x with lastReq := some (ptpSeq b, st) })) s
  emit (.ptpRx e st m) s1

/-- PTP_EVENT_RX (R85). -/
def execPtpEventRx (e phase : Nat) (m : Raw) (s : State) : Answer := done (ptpRx e phase m s)

/-- A received Announce message is logged and never changes the port state (R83). -/
def execPtpAnnounceRx (e : Nat) (m : Raw) (s : State) : Answer :=
  done (modEdge e (fun x => { x with announces := x.announces ++ [m] }) s)

/-- A write of MSG_ID returns the oldest entry with that key and removes it (R85). -/
def txqFind (e : Nat) (v : Word) (s : State) : State :=
  let k := BitVec.ofNat 8 (bits v 0 8)
  match (edgeOf s e).queue.find? (fun x => x.msgId == k) with
  | some x => modEdge e (fun p => { p with found := some x, queue := p.queue.erase x }) s
  | none => modEdge e (fun p => { p with found := none }) s

/-- PTP_TXQ_FIND (R85). -/
def execPtpTxqFind (e : Nat) (v : Word) (s : State) : Answer := done (txqFind e v s)

/-- Entries not retrieved within 2 s of their stamp are discarded and counted (R85). -/
def txqStale (e : Nat) (s : State) : State :=
  let old := fun (x : TxqEntry) => decide (x.at_ + 2500000000 < pe s .keel)
  let k := ((edgeOf s e).queue.filter old).length
  if k = 0 then s
  else bumpBy (A.TXQ_STALE e) k (modEdge e (fun p => { p with queue := p.queue.filter (fun x => !old x) }) s)

/-- TXQ_STALE (R85). -/
def execTxqStale (e : Nat) (s : State) : Answer := done (txqStale e s)

end Sys2Proof.Machine
end

