-- ==== Sys2Proof/Machine/ViewTime.lean ====
section
/-! DEFINITION. What the read-only fields of the TIME, SERVO, REF, PPS, TIC, ETX and PTP blocks and of the Evxus window read
as (R86 to R89, R120, R121, R136, R161 to R171). -/

namespace Sys2Proof.Machine

/-- A signed value in 32 bits, clamped; a signed value in 64 bits. -/
def s32 (x : Int) : Word := BitVec.ofInt 32 (clampInt (-2 ^ 31) (2 ^ 31 - 1) x)
def s64 (x : Int) (i : Nat) : Word := wordAt (enc 64 x) i

/-- Word `i` of a stamp record (R33). -/
def stampWord (t : Stamp) (i : Nat) : Word := (stampWords t).getD i 0

/-- Word `i` of the FT128 layout (R30): the high 16 bits of the fraction with UNSURE and VALID, nanoseconds, seconds. -/
def fabWord (t : FabTime) (valid unsure : Bool) (i : Nat) : Word :=
  match i with
  | 0 => (t.frac &&& 0xFFFF0000#32) ||| packW [(b2n valid, 0), (b2n unsure, 1)]
  | 1 => BitVec.ofNat 32 t.ns.toNat
  | 2 => BitVec.ofNat 32 t.sec.toNat
  | _ => BitVec.ofNat 32 (t.sec.toNat / 2 ^ 32)

/-! Shared layouts of the two timing nodes. -/

/-- ICAL_SEQ (R86). -/
def icalSeqView (s : State) (n : Node) : Word := packW [((nd s n).icl.seq.toNat, 0), ((nd s n).icl.pend.length, 16)]

/-- DELAY_MEAN (R87): the median delay of the selected upstream. -/
def delayMeanView (s : State) (n : Node) : Word :=
  match selPort s n with
  | some p => satU32 ((delayMedian (port s n p)).getD 0)
  | none => 0

/-- The SERVO registers at an offset of R87 (R165). -/
def servoView (s : State) (n : Node) (o : Nat) : Word :=
  match o with
  | 0x04 => BitVec.ofNat 32 (stageCode (nd s n).svo.stage)
  | 0x08 => s32 (filtMean (nd s n).svo)
  | 0x0C => delayMeanView s n
  | 0x10 => BitVec.ofNat 32 (servoUnc s n)
  | 0x14 => BitVec.ofNat 32 (pathUnc s n)
  | 0x60 => BitVec.ofNat 32 (nd s n).svo.fifo.length
  | _ => rd s (nr n (0x110000 + o) (0x4000100 + o))

/-- REF_STATUS (R120); an Evxus has no warm-up and no phase (R166). -/
def refStatusView (s : State) (n : Node) : Word :=
  let r := (nd s n).ref
  let st := match r.state with
    | .freerun => 0
    | .acquire => 1
    | .locked => 2
    | .holdover => 3
    | .dispute => 4
  let k := match n with
    | .keel => 1
    | .evxus => 0
  packW [(st, 0), (b2n (r.holdAged && inHoldover s n), 3), (r.selected.getD 15, 4), (k * b2n r.ovenWarm, 8), (k * b2n r.rootWarm, 9),
    (k * b2n r.phaseFar, 10), (b2n r.tableDup, 11), (k * min r.warmTime 120, 12), (b2n r.tableBad, 20)]

/-- REF_HOLD_TIME (R120). -/
def holdTimeView (s : State) (n : Node) : Word :=
  match inHoldover s n, (nd s n).ref.holdSince with
  | true, some e => BitVec.ofNat 32 ((pe s n - e) / 1250000000)
  | _, _ => 0

/-- A source record at an offset (R120); `i` is the source's number. -/
def srcView (s : State) (n : Node) (i o : Nat) : Word :=
  let x := src s n i
  let inTable := (entries n (nd s n).ref.table).any (fun e => e.2.2 == i)
  match o with
  | 0x00 => packW [(b2n x.active, 0), (b2n x.qualified, 1), (b2n (inTable && srcEligible s n i), 2), (b2n x.freqOk, 3), (b2n x.freqRej, 4),
      (b2n x.driftRej, 5), (b2n x.outvoted, 6), (b2n x.mismatch, 7), (b2n (x.upHold && inTable && srcEligible s n i), 8),
      (if x.qualified ∨ ¬ x.active then 0 else requalTime s n - x.qualRun, 24)]
  | 0x04 => if i < 4 then 0 else BitVec.ofNat 32 (((nd s n).ref.bind.getD (i - 4) none).getD 0x3FF)
  | 0x08 => if i < 4 then 0 else
      (match (nd s n).ref.bind.getD (i - 4) none with
       | some p => (port s n p).upPathUnc
       | none => 0)
  | 0x0C => s32 (x.freq.getD 0)
  | 0x10 => s32 x.drift
  | 0x14 => s32 x.phase
  | _ => 0

/-! The blocks of the package. -/

/-- The TIME block (R86). -/
def viewTime (s : State) (a : Nat) : Word :=
  let c := s.keel.clk
  match a - 0x100000 with
  | 0x00 => fabWord c.now c.valid (unsure s .keel) 0
  | 0x04 => fabWord c.now c.valid (unsure s .keel) 1
  | 0x08 => fabWord c.now c.valid (unsure s .keel) 2
  | 0x0C => fabWord c.now c.valid (unsure s .keel) 3
  | 0x18 => timeStatusView s .keel
  | 0x1C => BitVec.ofNat 32 (timeUnc s .keel)
  | 0x30 => epochLive s
  | 0x38 => wordAt c.epochPe.toNat 0
  | 0x3C => wordAt c.epochPe.toNat 1
  | 0x40 => wordAt c.pe.toNat 0
  | 0x44 => wordAt c.pe.toNat 1
  | 0x4C => jumpCtrlView s .keel
  | 0x50 => s64 s.keel.svo.jumpOffset 0
  | 0x54 => s64 s.keel.svo.jumpOffset 1
  | 0x58 => icalSeqView s .keel
  | 0x5C => s.keel.icl.sum
  | 0x78 => s32 s.keel.icl.remain
  | _ => rd s a

/-- The REF block (R120). -/
def viewRef (s : State) (a : Nat) : Word :=
  let o := a - 0x120000
  if 0x200 ≤ o ∧ o < 0x280 then srcView s .keel ((o - 0x200) / 0x20) (o % 0x20)
  else if 0x300 ≤ o ∧ o < 0x340 then srcView s .keel (4 + (o - 0x300) / 0x20) (o % 0x20)
  else if o = 0x04 then refStatusView s .keel
  else if o = 0x10 then holdTimeView s .keel
  else rd s a

/-- The PPS block (R121). -/
def viewPps (s : State) (a : Nat) : Word :=
  let x := outOf s ((a - 0x130000) / 0x40)
  let last := x.last.getD ⟨0, 0, false, false⟩
  match (a - 0x130000) % 0x40 with
  | 0x04 => packW [(b2n x.running, 0), (b2n x.flywheel, 1), (b2n x.squelched, 2)]
  | 0x20 => if x.last.isSome then stampWord last 0 else 0
  | 0x24 => if x.last.isSome then stampWord last 1 else 0
  | 0x28 => if x.last.isSome then stampWord last 2 else 0
  | _ => rd s a

/-- CAL_CODES (R136): k2 and k1, each of which shows an open value where it does not fit its 16 bits (log entry 24). -/
def calCodesView (k : TicCal) : Word :=
  let field (v salt : Nat) : Nat := if v < 65536 then v else Config.calCode (v * 2 + salt) % 65536
  packW [(field k.k1 0, 0), (field k.k2 1, 16)]

/-- CAL_GAIN (R136, R123): ps per tap in 2^-16 ps. DESIGN CHOICE: rounded to nearest, ties to even; zero where k1 is not below k2; its
low 32 bits where it needs more (log entry 20). -/
def calGainView (k : TicCal) : Word :=
  if k.k1 < k.k2 then BitVec.ofInt 32 (divRNE (800 * 256 * 65536) (k.k2 - k.k1)) else 0

/-- The TIC block (R136). -/
def viewTic (s : State) (a : Nat) : Word :=
  if a < 0x140100 then rd s a
  else
    let x := tic s ((a - 0x140100) / 0x100)
    let g := x.group
    match (a - 0x140100) % 0x100 with
    | 0x04 => ticStatLive s ((a - 0x140100) / 0x100)
    | 0x2C => BitVec.ofNat 32 g.count
    | 0x30 => s64 g.mean 0
    | 0x34 => s64 g.mean 1
    | 0x38 => wordAt g.sd 0
    | 0x3C => wordAt g.sd 1
    | 0x40 => s64 g.min 0
    | 0x44 => s64 g.min 1
    | 0x48 => s64 g.max 0
    | 0x4C => s64 g.max 1
    | 0x50 => calCodesView g.calStart
    | 0x54 => calGainView g.calStart
    | 0x58 => calCodesView g.calStop
    | 0x5C => calGainView g.calStop
    | 0x60 => BitVec.ofNat 32 (g.verdicts.getD 0 0)
    | 0x64 => BitVec.ofNat 32 (g.verdicts.getD 1 0)
    | 0x68 => BitVec.ofNat 32 (g.verdicts.getD 2 0)
    | 0x6C => BitVec.ofNat 32 (g.verdicts.getD 3 0)
    | 0x80 => stampWord g.lastStart 0
    | 0x84 => stampWord g.lastStart 1
    | 0x88 => stampWord g.lastStart 2
    | 0x8C => stampWord g.lastStop 0
    | 0x90 => stampWord g.lastStop 1
    | 0x94 => stampWord g.lastStop 2
    | 0x98 => s64 g.lastResult 0
    | 0x9C => s64 g.lastResult 1
    | 0xA0 => BitVec.ofNat 32 (verdictCode g.lastVerdict)
    | _ => rd s a

/-- The ETX block (R88). -/
def viewEtx (s : State) (a : Nat) : Word :=
  if a < 0x151000 then rd s a
  else
    let p := (a - 0x151000) / 0x20
    let x := port s .keel p
    match (a - 0x151000) % 0x20 with
    | 0x00 => portStatLive s p
    | 0x0C => s32 x.lastX
    | 0x10 => satU32 x.lastDly
    | _ => rd s a

/-- The PTP block (R89). -/
def viewPtp (s : State) (a : Nat) : Word :=
  let x := edgeOf s ((a - 0x160000) / 0x100)
  let word (i : Nat) : Word := match x.found with
    | none => 0
    | some e => if i = 0 then packW [(e.msgId.toNat, 0), (e.seqId.toNat, 8), (e.msgType.toNat, 24), (1, 31)] else stampWord e.stamp (i - 1)
  match (a - 0x160000) % 0x100 with
  | 0x00 => BitVec.ofNat 32 x.queue.length
  | 0x10 => word 0
  | 0x14 => word 1
  | 0x18 => word 2
  | 0x1C => word 3
  | _ => rd s a

/-! The Evxus window. -/

/-- EV_IRQ_STAT (R164). -/
def evIrqView (s : State) : Word :=
  let lines := (List.range 8).any (fun l => rf s (A.E_LINE_STAT l) 2 3 != 0)
  packW [(b2n (rf s A.E_TIME_STATUS 2 3 != 0 || flag s A.E_JUMP_CTRL 0), 0), (b2n (rf s A.E_SERVO_STATUS 4 6 != 0), 1),
    (b2n (rd s A.EVU_HIST &&& rd s A.EVU_IRQ_EN != 0), 2), (b2n (s.ev.fifo.any (fun x => x.irq)), 3), (b2n lines, 4),
    (b2n (rd s A.EV_ERR_STAT != 0), 5)]

/-- The pin ev_irq: an enabled bit of EV_IRQ_STAT is set (R150, R164). -/
def evIrq (s : State) : Bool := evIrqView s &&& rd s A.EV_IRQ_EN != 0

/-- The levels at the outputs of the Evxus (R140). -/
structure EvPins where
  timeFt : BitVec 64
  timeValid : Bool
  timeUnsure : Bool
  launch : List Bool
  wakeReq : Bool
  irq : Bool
  loopback : List Bool
  deriving DecidableEq, Repr

/-- What the outputs of the Evxus carry in a state (R140, R143, R144, R149, R150). -/
def evPins (s : State) : EvPins where
  timeFt := s.ev.bus.1
  timeValid := s.ev.bus.2.1
  timeUnsure := s.ev.bus.2.2
  launch := s.ev.lines.map (fun x => x.level)
  wakeReq := rf s A.E_WAKE_STAT 1 3 != 0
  irq := evIrq s
  loopback := (List.range s.straps.evTaps).map (fun p => s.ev.loopback.contains p)

/-- A launch line's record (R167). -/
def lineView (s : State) (l o : Nat) : Word :=
  let x := lineOf s l
  match o with
  | 0x00 => wordAt x.lastStep 0
  | 0x04 => wordAt x.lastStep 1
  | 0x08 => wordAt x.lastT.toNat 0
  | 0x0C => wordAt x.lastT.toNat 1
  | 0x10 => s32 x.edgeDt
  | _ => packW [(b2n x.armed.isSome, 0), (b2n x.level, 1)]

/-- EVT_POP (R168). -/
def evtPopView (s : State) (i : Nat) : Word :=
  match s.ev.popped with
  | none => 0
  | some e => if i = 0 then evtWord0 e else stampWord e.stamp (i - 1)

/-- The window of the Evxus, at an offset (R162 to R171). -/
def viewEv (s : State) (o : Nat) : Word :=
  let c := s.evx.clk
  if 0x260 ≤ o ∧ o < 0x2A0 then srcView s .evxus (4 + (o - 0x260) / 0x20) (o % 0x20)
  else if 0x340 ≤ o ∧ o < 0x400 then lineView s ((o - 0x340) / 0x18) ((o - 0x340) % 0x18)
  else if 0x500 ≤ o ∧ o < 0x600 then
    let p := (o - 0x500) / 4
    let x := port s .evxus p
    if p < s.straps.evTaps then packW [(b2n x.asymValid, 5), (b2n x.calibrating, 6), (b2n x.linkUp, 9)] else 0
  else if 0x900 ≤ o ∧ o < 0xF00 then
    let x := port s .evxus ((o - 0x900) / 0x18)
    match (o - 0x900) % 0x18 with
    | 0x10 => s32 x.lastX
    | 0x14 => satU32 x.lastDly
    | _ => rd s (evLo + o)
  else if 0x100 ≤ o ∧ o < 0x180 then servoView s .evxus (o - 0x100)
  else
    match o with
    | 0x000 => 0x45767875
    | 0x004 => 0x04010400
    | 0x008 => s.straps.evBuild
    | 0x00C => packW [(s.straps.evTaps, 0), (b2n s.straps.evRelay, 8), (s.straps.evGrade.toNat, 10)]
    | 0x018 => 3
    | 0x040 => fabWord c.now c.valid (unsure s .evxus) 0
    | 0x044 => fabWord c.now c.valid (unsure s .evxus) 1
    | 0x048 => fabWord c.now c.valid (unsure s .evxus) 2
    | 0x04C => fabWord c.now c.valid (unsure s .evxus) 3
    | 0x050 => timeStatusView s .evxus
    | 0x054 => BitVec.ofNat 32 (timeUnc s .evxus)
    | 0x058 => wordAt c.pe.toNat 0
    | 0x05C => wordAt c.pe.toNat 1
    | 0x064 => jumpCtrlView s .evxus
    | 0x068 => s64 s.evx.svo.jumpOffset 0
    | 0x06C => s64 s.evx.svo.jumpOffset 1
    | 0x070 => icalSeqView s .evxus
    | 0x074 => s.evx.icl.sum
    | 0x080 => packW [(b2n s.ev.ready, 0), (b2n s.ev.commitPend, 1)]
    | 0x084 => evIrqView s
    | 0x08C => packW [(b2n s.ev.hclk, 0)]
    | 0x098 => if s.ev.hclk then BitVec.ofNat 32 s.ev.hclkPeriod else 0
    | 0x0FC => packW [(b2n s.ev.unlocked, 0)]
    | 0x204 => refStatusView s .evxus
    | 0x210 => holdTimeView s .evxus
    | 0x324 => packW ((List.range 8).map (fun l => (b2n (lineOf s l).armed.isSome, l)))
    | 0x440 => BitVec.ofNat 32 s.ev.fifo.length
    | 0x450 => evtPopView s 0
    | 0x454 => evtPopView s 1
    | 0x458 => evtPopView s 2
    | 0x45C => evtPopView s 3
    | _ => rd s (evLo + o)

end Sys2Proof.Machine
end

