-- ==== Sys2Proof/Machine/ViewPkg.lean ====
section
/-! DEFINITION. What the read-only fields of the blocks PKG, HOST, ERR, HLTH, TWIN, STEP/MUSTER, SCH, ALM and CLK/PWR read
as (R194, R212, R333, R351, R395, R418, R419, R435, R452, R453). -/

namespace Sys2Proof.Machine

/-- Is the expert page of the block at a base unlocked (R441)? -/
def unlockedAt (s : State) (base : Nat) : Bool := s.host.unlocked.contains base

/-- The PKG block (R333, R452). -/
def viewPkg (s : State) (a : Nat) : Word :=
  let x := s.host.snap
  if 0x60 ≤ a ∧ a < 0xC0 then
    (match tfind ((a - 0x60) / 12) x.stamps with
     | some t => stampWord t ((a - 0x60) % 12 / 4)
     | none => 0)
  else if 0x50 ≤ a ∧ a < 0x60 then 
    let k : Stamp := (tfind 0 x.stamps).getD ⟨0, 0, false, false⟩
    fabWord x.time k.valid k.unsure ((a - 0x50) / 4)
  else if 0x100 ≤ a ∧ a < 0x110 then wordAt (detKey s).toNat ((a - 0x100) / 4)
  else
    match a with
    | 0x08 => packW [(s.straps.variant, 0), (dieMask s, 8)]
    | 0x10 => wordAt s.straps.chip.toNat 0
    | 0x14 => wordAt s.straps.chip.toNat 1
    | 0x18 => BitVec.ofNat 32 s.clks.fw
    | 0x1C => if s.cfg.hallActive then BitVec.ofNat 32 s.cfg.hall.node else 0
    | 0x44 => snapStatLive s
    | 0x4C => packW ((x.dies.eraseDups).map (fun d => (1, d)))
    | 0x180 => packW ((List.range 32).map (fun p => (b2n (tget {} s.alm.parts p).active, p)))
    | 0x184 => packW ((List.range 32).map (fun p => (b2n (tget {} s.alm.parts (32 + p)).active, p)))
    | _ => rd s a

/-- OPSTAT words (R444). -/
def opWord (x : Opstat) (i : Nat) : Word :=
  let st := match x.state with
    | .free => 0
    | .queued => 1
    | .running => 2
    | .waiting => 3
    | .ended => 4
  if i = 0 then packW [(min x.progress 0xFFFFFF, 0), (b2n x.partial_, 24), (st, 25)]
  else packW [(x.fault, 0), (x.block, 8), (x.serial, 16)]

/-- The HOST block (R453). -/
def viewHost (s : State) (a : Nat) : Word :=
  if 0x18000 ≤ a then opWord (opstat s ((a - 0x18000) / 8)) (a % 8 / 4)
  else
    match a with
    | 0x10004 => BitVec.ofNat 32 s.host.ticketNext
    | 0x10008 => BitVec.ofNat 32 s.host.serial
    | 0x1000C => BitVec.ofNat 32 (s.host.opstat.filter (fun e => !ticketFree e.2)).length
    | 0x10018 => s.host.accErrAddr
    | 0x10020 => s.host.link
    | 0x10048 => packW ((List.range 4).map (fun v => (b2n (irqLevel s v), v)))
    | 0x15000 => packW ((List.range 4).map (fun v => (b2n (s.host.pendVec.getD v false), v)))
    | _ => rd s a

/-- The ERR block (R418). -/
def viewErr (s : State) (a : Nat) : Word :=
  if 0x20024 ≤ a ∧ a < 0x20044 then
    (match logAt (dieLog s (rf s A.LOG_RD_SEL 12 3)) (rf s A.LOG_RD_SEL 0 12) with
     | some x => BitVec.ofNat 32 ((entryWords x).getD ((a - 0x20024) / 4) 0)
     | none => 0)
  else if 0x20100 ≤ a ∧ a < 0x20200 ∧ a % 0x20 = 0 then
    let l := dieLog s ((a - 0x20100) / 0x20)
    packW [(l.head.length, 0), (1024 + l.ringNext % 3072, 16)]
  else
    match a with
    | 0x20000 => errStatLive s
    | 0x20004 => irqSum s
    | _ => rd s a

/-- The fabric time at which the oldest expulsion record lapses; zero when there is none (R406, R419). -/
def budgetRenew (s : State) : Nat :=
  match s.hl.records with
  | [] => 0
  | r :: l => (fabFt64 (hoursAfter (l.foldl (fun a x => if fullDiff x a < 0 then x else a) r) (rn s A.BUDGET_HOURS))).toNat

/-- The HLTH block (R419). -/
def viewHlth (s : State) (a : Nat) : Word :=
  if 0x31000 ≤ a then
    let x := tget {} s.hl.nbr ((a - 0x31000) / 8)
    if a % 8 = 0 then packW [(x.flags.toNat, 0), (x.score, 16), (x.state, 30)] else x.unc
  else if 0x30060 ≤ a ∧ a < 0x300E0 then BitVec.ofNat 32 (tget 0 s.hl.condCnt ((a - 0x30060) / 4))
  else
    match a with
    | 0x30000 => packW [(healthState s, 0), (b2n s.hl.hard, 3), (b2n (expelHeld s), 4),
        (b2n (decide (rn s A.EXPEL_BUDGET ≤ budgetUsed s)), 5), (b2n (condBin s).isSome, 6), (b2n s.hl.supplyLasting, 7),
        ((condBin s).getD 0, 8), (s.hl.score, 16)]
    | 0x30024 => BitVec.ofNat 32 (budgetUsed s)
    | 0x30028 => wordAt (budgetRenew s) 0
    | 0x3002C => wordAt (budgetRenew s) 1
    | 0x30030 => BitVec.ofNat 32 s.hl.partnerScore
    | 0x30058 => packW [(s.hl.bins.getD 0 0, 0), (s.hl.bins.getD 1 0, 8)]
    | _ => rd s a

/-- Codes of R395. -/
def admitCode : AdmitStage → Nat
  | .none => 0
  | .bist => 1
  | .almanac => 2
  | .restore => 3
  | .compare => 4
  | .promoting => 5
def posCode : ConvPos → Nat
  | .current => 0
  | .erased => 1
  | .rebuilt => 2
  | .absent => 3
def linkCode (s : State) : Nat :=
  if s.cfg.hallActive ∧ s.cfg.hall.partner = none then 3
  else match s.tw.link with
    | .up => 0
    | .linkLost => 1
    | .partnerLost => 2
    | .noPartner => 3

/-- The TWIN block (R395). -/
def viewTwin (s : State) (a : Nat) : Word :=
  let t := s.tw
  if 0x40120 ≤ a ∧ a < 0x40140 then
    let i := (a - 0x40120) / 4
    let (node, is700, _) := s.cfg.hall.convoy.getD i (0, false, 0, 0)
    packW [(node, 0), (b2n is700, 29), (posCode (t.positions.getD i .absent), 30)]
  else
    match a with
    | 0x40000 => packW [(modeCode t.mode, 0), (linkCode s, 2), (b2n s.cfg.hall.rootPair, 7), (b2n t.primary, 8), (b2n t.newcomer, 9),
        (b2n t.drill.isSome, 10), (b2n t.partner700, 11), (admitCode t.adm, 12)]
    | 0x40014 => t.roleEpoch
    | 0x40020 => BitVec.ofNat 32 ((partnerNode s).getD 0)
    | 0x40024 => if (port s .keel 512).linkUp then BitVec.ofNat 32 (32 - t.lanesLost.length) else 0
    | 0x40028 => wordAt t.sAlt 0
    | 0x4002C => wordAt t.sAlt 1
    | 0x40034 => BitVec.ofNat 32 t.admitMatch
    | 0x40040 => wordAt t.restored 0
    | 0x40044 => wordAt t.restored 1
    | 0x40100 => packW [(match t.convState with | .healthy => 0 | .rebuilding => 1 | .exposed => 2 | .lost => 3, 0), (b2n t.member, 7),
        (s.cfg.hall.pos, 8), (b2n t.compat, 11), ((t.positions.filter (fun p => p == .erased)).length, 12)]
    | 0x40108 => wordAt t.convStep 0
    | 0x4010C => wordAt t.convStep 1
    | 0x40110 => wordAt t.rebuilt 0
    | 0x40114 => wordAt t.rebuilt 1
    | 0x40118 => wordAt t.rebuildTotal 0
    | 0x4011C => wordAt t.rebuildTotal 1
    | 0x40140 => BitVec.ofNat 32 t.deltaPend.length
    | 0x40208 => wordAt (fabFt64 t.rehNext).toNat 0
    | 0x4020C => wordAt (fabFt64 t.rehNext).toNat 1
    | _ => rd s a

/-- A plane's arrivals as the record shows them: away from the root only the package's own plane (R194). -/
def shownPlane (s : State) (k q : Nat) : List Counted :=
  if rootRecords s || q == ownPlane s then (planeOf (grp s .keel k) q).counted else []

/-- A group record of the STEP/MUSTER block (R194). -/
def viewGroup (s : State) (k o : Nat) : Word :=
  let g := grp s .keel k
  let both := shownPlane s k 0 ++ shownPlane s k 1
  let sum (q : Nat) : Nat := (shownPlane s k q).foldl (fun a c => a + c.arrived) 0
  let latest : Stamp := ((latestOf both).map (fun c => c.latest)).getD ⟨0, 0, false, false⟩
  let root (v : Nat) : Nat := if rootRecords s then v else 0
  match o with
  | 0x00 => packW [(b2n (rootRecords s), 0), (b2n g.cfg.adjContrib, 1)]
  | 0x04 => grpStatLive s k
  | 0x08 => wordAt g.step 0
  | 0x0C => wordAt g.step 1
  | 0x1C => BitVec.ofNat 32 (planeExpected s .keel k (ownPlane s))
  | 0x20 => BitVec.ofNat 32 (sum 0)
  | 0x24 => BitVec.ofNat 32 (sum 1)
  | 0x28 => wordAt (((earliestOf both).map (fun c => c.earliest.toNat)).getD 0) 0
  | 0x2C => wordAt (((earliestOf both).map (fun c => c.earliest.toNat)).getD 0) 1
  | 0x30 => if both.isEmpty then 0 else stampWord latest 0
  | 0x34 => if both.isEmpty then 0 else stampWord latest 1
  | 0x38 => if both.isEmpty then 0 else stampWord latest 2
  | 0x40 => wordAt (root g.lastT.toNat) 0
  | 0x44 => wordAt (root g.lastT.toNat) 1
  | 0x48 => wordAt (root g.cut.toNat) 0
  | 0x4C => wordAt (root g.cut.toNat) 1
  | 0x50 => BitVec.ofNat 32 (root g.degContrib)
  | _ => rd s (0x201000 + 0x80 * k + o)

/-- The STEP/MUSTER block (R194). -/
def viewStep (s : State) (a : Nat) : Word :=
  let sticky (k : Nat) : Nat := b2n (rf s (A.GRP_STAT k) 8 9 != 0)
  if 0x201000 ≤ a ∧ a < 0x203000 then viewGroup s ((a - 0x201000) / 0x80) ((a - 0x201000) % 0x80)
  else
    match a with
    | 0x200000 => packW ((List.range 32).map (fun k => (sticky k, k)))
    | 0x200004 => packW ((List.range 32).map (fun k => (sticky (32 + k), k)))
    | _ => rd s a

/-- A sequencer's record (R212); it reads as zero on an absent die. -/
def viewSeq (s : State) (q o : Nat) : Word :=
  if ¬ reduceDie s (q / 4) then 0
  else
    let x := seqOf s q
    let t := (tget {} s.cfg.seqs q).table
    match o with
    | 0x00 => packW [(t.fSched, 8)]
    | 0x04 => seqStatLive s q
    | 0x08 => wordAt x.step 0
    | 0x0C => wordAt x.step 1
    | 0x10 => wordAt (launchT x).toNat 0
    | 0x14 => wordAt (launchT x).toNat 1
    | 0x18 => BitVec.ofNat 32 x.idx
    | 0x1C => BitVec.ofNat 32 t.count
    | 0x20 => BitVec.ofNat 32 x.g
    | 0x24 => BitVec.ofNat 32 x.lastShift
    | 0x34 => BitVec.ofInt 32 x.minSlack
    | 0x38 => BitVec.ofNat 32 x.cycLast
    | _ => rd s (0x211000 + 0x80 * q + o)

/-- The SCH block (R212). -/
def viewSch (s : State) (a : Nat) : Word :=
  if 0x211000 ≤ a ∧ a < 0x211400 then viewSeq s ((a - 0x211000) / 0x80) ((a - 0x211000) % 0x80)
  else if 0x210010 ≤ a ∧ a < 0x210070 ∧ a % 0x10 = 0xC then
    let d := 1 + (a - 0x210010) / 0x10
    if 5 ≤ d ∧ diePresent s d then BitVec.ofNat 32 (clkDie s d).fstep else 0
  else if a = 0x210000 then packW ((List.range 8).map (fun q => (b2n (decide ((seqOf s q).state = .running)), q)))
  else rd s a

/-- COMMIT_STAT STATE (R351). -/
def phaseCode : CommitPhase → Nat
  | .idle => 0
  | .preparing => 1
  | .waiting => 2
  | .activating => 3

/-- The ALM block (R351). -/
def viewAlm (s : State) (a : Nat) : Word :=
  let x := s.alm
  if 0x301000 ≤ a ∧ a < 0x301800 then
    let p := tget {} x.parts ((a - 0x301000) / 0x20)
    match (a - 0x301000) % 0x20 with
    | 0x00 => wordAt p.serial 0
    | 0x04 => wordAt p.serial 1
    | 0x08 => packW [(p.cache, 16), (b2n p.active, 31)]
    | 0x10 => wordAt p.shape.toNat 7
    | 0x14 => wordAt p.shape.toNat 6
    | _ => 0
  else if 0x302000 ≤ a ∧ a < 0x302100 then
    (match cacheAt s ((a - 0x302000) / 0x40) with
     | none => 0
     | some e =>
       let o := (a - 0x302000) % 0x40
       if o < 0x20 then wordAt e.hdr.shape.toNat (7 - o / 4)
       else match o with
         | 0x20 => wordAt e.hdr.serial 0
         | 0x24 => wordAt e.hdr.serial 1
         | 0x28 => packW [(e.hdr.part, 0), (1, 31)]
         | 0x2C => BitVec.ofNat 32 e.hdr.totalLen
         | 0x30 => wordAt e.lastUse 0
         | 0x34 => wordAt e.lastUse 1
         | _ => 0)
  else
    match a with
    | 0x300000 => almStatLive s
    | 0x300044 => packW [(phaseCode x.phase, 0), (x.fault, 8), (x.refuse.toNat, 16), (x.ready.toNat, 24)]
    | 0x300058 => wordAt ((x.stage.map (fun y => y.hdr.serial)).getD 0) 0
    | 0x30005C => wordAt ((x.stage.map (fun y => y.hdr.serial)).getD 0) 1
    | 0x300060 => packW [((x.stage.map (fun y => y.hdr.part)).getD 0, 0), ((x.stage.map (fun y => y.hdr.kind)).getD 0, 8)]
    | 0x300808 => packW ((List.range 4).flatMap (fun i => [(b2n (x.keys.getD i none).isSome, i), (b2n (x.revoked.getD i false), 4 + i)]))
    | _ => rd s a

/-- LAST_LEVEL (R435). -/
def levelCode : ResetLevel → Nat
  | .cold => 0
  | .warm => 1
  | .partition => 2
  | .engine => 3

/-- The CLK/PWR block (R435). -/
def viewClk (s : State) (a : Nat) : Word :=
  if 0x400200 ≤ a ∧ a < 0x400300 then
    let d := (a - 0x400200) / 0x20
    if ¬ diePresent s d then 0
    else if a % 0x20 = 0 then dieClkLive s d
    else rd s a
  else
    match a with
    | 0x400000 => clkStatLive s
    | 0x400004 => packW [(s.clks.stage, 0), (s.clks.startFault, 24)]
    | 0x40000C => packW [(b2n s.clks.busy.isSome, 0), (levelCode s.clks.lastLevel, 2), (s.clks.warmCause, 8), (s.clks.coldCause, 12)]
    | _ => rd s a

end Sys2Proof.Machine
end

