-- ==== Sys2Proof/Machine/ViewDie.lean ====
section
/-! DEFINITION. What the read-only fields of the die windows read as: RTE, TCAM and SWC of a route die, RED, QNT, UPD, DGS,
BANK, SEG, TALLY, GATE and DMA of a reduce die (R238 to R240, R270, R271, R294, R295, R318 to R320, R334, R370 to R372). -/

namespace Sys2Proof.Machine

/-- The base of the window of die `d` (R437). -/
def windowOf (d : Nat) : Nat := 0x1000000 + d * 0x400000

/-- A neighbour record of route die `d` (from 0) and lane `l` (R370). KEEL follows the port map of the hall almanac; it
is clear until one is active, as the Reset column has it (R10; log entry 2). -/
def viewNeigh (s : State) (d l o : Nat) : Word :=
  let p := 128 * d + l
  let x := nbrOf s .keel p
  match o with
  | 0x00 => packW [(b2n s.cfg.hallActive, 0), (b2n x.heard, 1), (b2n x.twoWay, 2), (b2n x.miswire, 4), (b2n (portSplit s p), 5)]
  | 0x04 => BitVec.ofNat 32 x.node
  | 0x08 => wordAt x.chip.toNat 0
  | 0x0C => wordAt x.chip.toNat 1
  | 0x10 => packW [(x.mode, 0), (x.role, 8), (x.port, 16)]
  | 0x14 => (match expectOf s .keel p with
    | some (n, q) => packW [(n, 0), (q, 20)]
    | none => 0)
  | 0x1C => wordAt x.serial.toNat 0
  | _ => rd s (A.NEIGH_STAT d l + o)

/-- LEARN_POP (R370). -/
def learnPopView (s : State) (d i : Nat) : Word :=
  match (rdie s d).popped with
  | none => 0
  | some e =>
    match i with
    | 0 => packW [(e.cls, 0), (e.part, 8), (e.port, 16), (match e.kind with | .srcNew => 0 | .move => 1 | .dstMiss => 2, 28), (1, 31)]
    | 1 => e.addr
    | 2 => BitVec.ofNat 32 e.oldPort
    | _ => e.ft

/-- The RTE block (R370). -/
def viewRte (s : State) (d o : Nat) : Word :=
  if 0x1000 ≤ o then viewNeigh s d ((o - 0x1000) / 0x20) ((o - 0x1000) % 0x20)
  else if 0x50 ≤ o ∧ o < 0x60 then learnPopView s d ((o - 0x50) / 4)
  else
    match o with
    | 0x00 => rteStatLive s d
    | 0x44 => BitVec.ofNat 32 (rdie s d).learn.length
    | _ => rd s (windowOf (d + 1) + o)

/-- The TCAM block, offset from its base (R371): TCAM_LOCK shows the locked segments. -/
def viewTcam (s : State) (d o : Nat) : Word :=
  let x := rdie s d
  if 0x44 ≤ o ∧ o < 0x54 then wordAt (tget 0 x.live (rf s (A.TCAM_RD_IDX d) 0 16)).toNat ((o - 0x44) / 4)
  else
    match o with
    | 0x00 => tcamStatLive s d
    | 0x54 => BitVec.ofNat 32 (x.live.filter (fun e => tcValid e.2)).length
    | _ => rd s (windowOf (d + 1) + 0x100000 + o)

/-- TCAM_LOCK as it reads (R371). -/
def tcamLockView (s : State) (d i : Nat) : Word :=
  packW ((List.range 32).map (fun g => (b2n (segLocked s d (32 * i + g)), g)))

/-- The SWC block, offset from its base (R239, R372). -/
def viewSwc (s : State) (d o : Nat) : Word :=
  if 0x8000 ≤ o then
    let m := tget [] s.cfg.sprays ((o - 0x8000) / 0x20)
    let i := (o - 0x8000) % 0x20 / 4
    let half (j : Nat) : Nat := match m[j]? with
      | some p => 0x8000 + p
      | none => 0
    packW [(half (2 * i), 0), (half (2 * i + 1), 16)]
  else if 0x6000 ≤ o then
    let g := 16 * d + (o - 0x6000) / 0x20
    let lanes := tget [] s.cfg.byps g
    let all := (List.range 8).foldl (fun a i => a + lanes.getD i 0 * 2 ^ (7 * i)) 0
    let x := bypOf s g
    match (o - 0x6000) % 0x20 with
    | 0x00 => wordAt all 0
    | 0x04 => wordAt all 1
    | 0x08 => packW [(match x.state with | .idle => 0 | .setting => 1 | .set => 2 | .failed => 3, 0), (b2n x.spill, 8)]
    | 0x0C => (match x.peer with
      | some p => packW [(p, 0), (1, 31)]
      | none => 0)
    | _ => 0
  else if 0x4000 ≤ o then
    let l := (o - 0x4000) / 0x40
    if l = 2 ∧ d ≠ 0 then 0
    else if (o - 0x4000) % 0x40 = 0x28 then BitVec.ofNat 32 (levelPorts s d l).length
    else rd s (windowOf (d + 1) + 0x200000 + o)
  else if 0x1000 ≤ o then
    let p := 128 * d + (o - 0x1000) / 0x10
    let x := tget {} s.rt.egress p
    match (o - 0x1000) % 0x10 with
    | 0x00 => packW [(b2n (portSplit s p), 16)]
    | 0x04 => packW ((List.range 4).map (fun c => (b2n (x.spillOn.getD c false), 3 + c)))
    | 0x08 => BitVec.ofNat 32 (x.queue.foldl (fun a f => a + f.bytes) 0)
    | _ => rd s (windowOf (d + 1) + 0x200000 + o)
  else rd s (windowOf (d + 1) + 0x200000 + o)

/-! The reduce dies. -/

/-- The RED block (R238). -/
def viewRed (s : State) (dx o : Nat) : Word :=
  if o = 0 then BitVec.ofNat 32 ((List.range 512).filter (fun w => (wsCfg s dx w).enable)).length
  else if 0x100 ≤ o then
    let w := (o - 0x100) / 0x40
    let c := wsCfg s dx w
    let x := wsOf s dx w
    match (o - 0x100) % 0x40 with
    | 0x00 => packW [(c.tree.toNat, 0), (c.format, 12), (c.rkind, 19), (c.op, 21), (c.plane, 24), (b2n c.top, 25), (c.level, 26), (b2n c.enable, 31)]
    | 0x04 => packW [(b2n x.running, 0)]
    | 0x08 => BitVec.ofNat 32 (expContrib s dx w)
    | 0x0C => BitVec.ofNat 32 c.children.length
    | 0x20 => BitVec.ofNat 32 x.landPeak
    | 0x24 => BitVec.ofNat 32 c.landDepth
    | _ => rd s (windowOf (5 + dx) + o)
  else rd s (windowOf (5 + dx) + o)

/-- The QNT block (R270, R271). -/
def viewQnt (s : State) (dx o : Nat) : Word :=
  let stored := rd s (windowOf (5 + dx) + 0x20000 + o)
  if o = 0 then 0x00000A01#32
  else if 0x100 ≤ o then
    let w := (o - 0x100) / 0x40
    let c := wsCfg s dx w
    match (o - 0x100) % 0x40 with
    | 0x00 => packW [(b2n c.ef, 0), (b2n c.stoch, 1), (b2n c.saturate, 2), (c.outFmt, 4)]
    | 0x08 => wordAt (jobSeed s dx w).toNat 0
    | 0x0C => wordAt (jobSeed s dx w).toNat 1
    | 0x10 => BitVec.ofNat 32 c.efSeg
    | 0x14 => packW [(c.wsPos, 0), (c.level - 1, 16)]
    | _ => stored
  else stored

/-- The UPD block (R240). -/
def viewUpd (s : State) (dx o : Nat) : Word :=
  let stored := rd s (windowOf (5 + dx) + 0x40000 + o)
  if 0x1000 ≤ o then
    let u := (o - 0x1000) / 0x80
    let c := psetCfg s dx u
    let x := psetOf s dx u
    match (o - 0x1000) % 0x80 with
    | 0x00 => packW [(c.opt, 0), (b2n c.gFp32, 4), (b2n c.momentsBf16, 5), (c.returnSeq, 8), (c.tree.toNat, 16), (c.outFmt, 28)]
    | 0x04 => psetStatLive s dx u
    | 0x20 => x.b1t
    | 0x24 => x.b2t
    | 0x28 => wordAt c.paramCount 0
    | 0x2C => wordAt c.paramCount 1
    | 0x30 => BitVec.ofNat 32 x.doneBales
    | 0x34 => BitVec.ofNat 32 c.totalBales
    | 0x38 => wordAt x.updStep 0
    | 0x3C => wordAt x.updStep 1
    | 0x40 => BitVec.ofNat 32 c.returnOfs
    | 0x44 => packW [(c.segG, 0), (c.segV, 8), (c.segM, 16), (c.segP, 24)]
    | 0x48 => BitVec.ofNat 32 (x.torn.getD 0xFFFFFFFF)
    | _ => stored
  else stored

/-- The DGS block (R334). -/
def viewDgs (s : State) (dx o : Nat) : Word :=
  let stored := rd s (windowOf (5 + dx) + 0x60000 + o)
  if 0x100 ≤ o then
    let x := wsOf s dx ((o - 0x100) / 0x20)
    match (o - 0x100) % 0x20 with
    | 0x00 => wordAt x.digest.toNat 0
    | 0x04 => wordAt x.digest.toNat 1
    | 0x08 => wordAt x.digStep 0
    | 0x0C => wordAt x.digStep 1
    | 0x10 => wordAt x.lastBaleDig.toNat 0
    | 0x14 => wordAt x.lastBaleDig.toNat 1
    | 0x18 => digStatLive s dx ((o - 0x100) / 0x20)
    | _ => 0
  else stored

/-- KIND and INDEX of an engine (R272, R294). -/
def engKind (e : Nat) : Nat × Nat :=
  if e < 0x40 then (0, e)
  else if e < 0x48 then (1, e - 0x40)
  else if e < 0x4C then (2, e - 0x48)
  else if e < 0x54 then (3, e - 0x4C)
  else if e < 0x58 then (4, e - 0x54)
  else if e < 0x68 then (5, e - 0x58)
  else (6, e - 0x68)

/-- STATE of an engine (R294): a SEQ engine is BUSY while its sequencer runs, an UPD engine while a set that it serves applies. -/
def engStateView (s : State) (dx e : Nat) : Nat :=
  match (engOf s dx e).state with
  | .fault => 2
  | .inReset => 3
  | .busy => 1
  | .idle => b2n ((decide (0x68 ≤ e) && (seqOf s (4 * dx + (e - 0x68))).state == .running) ||
      (List.range 32).any (fun u => updEngine u == e && (psetOf s dx u).state == .applying))

/-- The BANK block (R294). -/
def viewBank (s : State) (dx o : Nat) : Word :=
  let stored := rd s (windowOf (5 + dx) + 0x80000 + o)
  if 0x1000 ≤ o then
    let b := (o - 0x1000) / 0x10
    let x := bankOf s dx b
    match (o - 0x1000) % 0x10 with
    | 0x00 => packW [(bankOwner s dx b, 0), (b2n (bankBusy s dx b), 8)]
    | 0x04 => packW [(tget 0 s.straps.spares (dx * 256 + b), 0), (min x.ce 0xFFFF, 16)]
    | 0x08 => (match x.ueLine with
      | some l => packW [(l, 0), (1, 31)]
      | none => 0)
    | _ => 0
  else if 0x400 ≤ o ∧ o < 0x400 + 432 then
    let e := (o - 0x400) / 4
    packW [((engKind e).2, 0), ((engKind e).1, 12), (engStateView s dx e, 16), (engPart s dx e, 24)]
  else
    match o with
    | 0x00 => packW [(b2n (s.die.ready.getD dx false), 0)]
    | 0x1C => BitVec.ofNat 32 ((s.straps.spares.filter (fun e => e.1 / 256 == dx)).foldl (fun a e => a + e.2) 0)
    | _ => stored

/-- The SEG block (R295). -/
def viewSeg (s : State) (dx o : Nat) : Word :=
  let stored := rd s (windowOf (5 + dx) + 0xA0000 + o)
  if 0x1000 ≤ o then
    let i := (o - 0x1000) / 0x20
    let x := segOf s dx i
    match (o - 0x1000) % 0x20 with
    | 0x08 => 0xFFF#32
    | 0x14 => packW [(b2n x.active, 0), (b2n (segOutstanding s dx i != 0), 1), (b2n x.scrubbing, 2), (b2n x.held, 3), (segOutstanding s dx i, 16)]
    | _ => stored
  else if 0x100 ≤ o ∧ o < 0x140 then
    let st := 2 * dx + (o - 0x100) / 0x20
    match (o - 0x100) % 0x20 with
    | 0x00 => packW [(1, 0), (b2n (s.die.trained.getD st false), 1),
        (b2n (s.die.scrubs.any (fun r => r.1 == dx && r.2.1 / 2 ^ 37 == st)), 2)]
    | 0x10 => wordAt (st * 0x2000000000) 0
    | 0x14 => wordAt (st * 0x2000000000) 1
    | 0x18 => wordAt 0x165A0BC000 0
    | 0x1C => wordAt 0x165A0BC000 1
    | _ => stored
  else if o = 0 then segStatLive s dx
  else stored

/-- The TALLY block (R318). -/
def viewTally (s : State) (dx o : Nat) : Word :=
  if 0x1000 ≤ o then
    let t := tallyOf s (dx * 5184 + (o - 0x1000) / 8)
    BitVec.ofNat 32 (if o % 8 = 0 then tallyValWord t else tallyWaitWord t)
  else if o = 0 then tallyStatLive s dx
  else rd s (windowOf (5 + dx) + 0xC0000 + o)

/-- The GATE block (R319). -/
def viewGate (s : State) (dx o : Nat) : Word :=
  let stored := rd s (windowOf (5 + dx) + 0xD0000 + o)
  if o = 0 then packW ((List.range 16).map (fun g => (b2n (decide ((gateOf s dx g).arrived ≠ 0)), g)))
  else if 0x100 ≤ o then
    let g := (o - 0x100) / 0x40
    let r := (o - 0x100) % 0x40
    if 0x10 ≤ r ∧ r < 0x20 then wordAt (gateOf s dx g).arrived.toNat ((r - 0x10) / 4)
    else if r = 0x24 then BitVec.ofNat 32 (gateStatWord s dx g)
    else stored
  else stored

/-- The DMA block (R320). -/
def viewDma (s : State) (dx o : Nat) : Word :=
  let stored := rd s (windowOf (5 + dx) + 0xE0000 + o)
  if o = 0 then packW ((List.range 16).flatMap (fun k =>
    [(b2n (decide ((dmaOf s dx k).state ≠ .idle)), k), (b2n (decide ((dmaOf s dx k).state = .stopped)), 16 + k)]))
  else if 0x100 ≤ o then
    let k := (o - 0x100) / 0x40
    let x := dmaOf s dx k
    match (o - 0x100) % 0x40 with
    | 0x04 => dmaStatLive s dx k
    | 0x10 => wordAt x.cur 0
    | 0x14 => wordAt x.cur 1
    | 0x18 => BitVec.ofNat 32 x.bytes
    | 0x24 => x.faultInfo
    | 0x28 => BitVec.ofNat 32 x.idx
    | _ => stored
  else stored

/-- The window of a reduce die, at an offset (R437). -/
def viewReduce (s : State) (dx o : Nat) : Word :=
  if o < 0x20000 then viewRed s dx o
  else if o < 0x40000 then viewQnt s dx (o - 0x20000)
  else if o < 0x60000 then viewUpd s dx (o - 0x40000)
  else if o < 0x80000 then viewDgs s dx (o - 0x60000)
  else if o < 0xA0000 then viewBank s dx (o - 0x80000)
  else if o < 0xC0000 then viewSeg s dx (o - 0xA0000)
  else if o < 0xD0000 then viewTally s dx (o - 0xC0000)
  else if o < 0xE0000 then viewGate s dx (o - 0xD0000)
  else viewDma s dx (o - 0xE0000)

/-- What the read-only fields of the register at an address read as now. -/
def roView (s : State) (a : Nat) : Word :=
  if a < 0x10000 then viewPkg s a
  else if a < 0x20000 then viewHost s a
  else if a < 0x30000 then viewErr s a
  else if a < 0x40000 then viewHlth s a
  else if a < 0x100000 then viewTwin s a
  else if a < 0x110000 then viewTime s a
  else if a < 0x120000 then servoView s .keel (a - 0x110000)
  else if a < 0x130000 then viewRef s a
  else if a < 0x140000 then viewPps s a
  else if a < 0x150000 then viewTic s a
  else if a < 0x160000 then viewEtx s a
  else if a < 0x200000 then viewPtp s a
  else if a < 0x210000 then viewStep s a
  else if a < 0x300000 then viewSch s a
  else if a < 0x400000 then viewAlm s a
  else if a < 0x1000000 then viewClk s a
  else if a < 0x3000000 then
    let d := dieOf a
    let o := (a - 0x1000000) % 0x400000
    if d < 5 then
      (if o < 0x100000 then viewRte s (d - 1) o
       else if o < 0x200000 then viewTcam s (d - 1) (o - 0x100000)
       else viewSwc s (d - 1) (o - 0x200000))
    else viewReduce s (d - 5) o
  else viewEv s (a - evLo)

/-- The bits that a read returns at all: write-only bits read zero, a held but uncommitted RWC value reads as in force (R9). -/
def woMask (a : Nat) : Word := match regRow a with | some r => BitVec.ofNat 32 r.wo | none => 0

/-- Is the address that of an EXPERT_UNLOCK register: the block's base (R441)? -/
def unlockBase (a : Nat) : Option Nat :=
  if a % 0x1000 = 0x7FC ∧ a < evLo ∧ roMask a = 1 then some (a - 0x7FC) else none

/-- Does the address lie in the window of an absent die, or of die 0 (R19, R437)? -/
def absentAt (s : State) (a : Nat) : Bool :=
  decide (0x1000000 ≤ a) && decide (a < 0x3000000) && (dieOf a == 0 || !diePresent s (dieOf a))

/-- The lane of a neighbour record (R370). -/
def neighLane (a : Nat) : Option Nat :=
  let o := (a - 0x1000000) % 0x400000
  if 0x1400000 ≤ a ∧ a < 0x2400000 ∧ 0x1000 ≤ o ∧ o < 0x2000 then some (128 * (dieOf a - 1) + (o - 0x1000) / 0x20) else none

/-- Does the address lie in the record of a keel port that the current grouping does not use (R88), of a lane that is no keel lane
(R370), or of a tap that the Evxus does not have (R169)? -/
def unusedAt (s : State) (a : Nat) : Bool :=
  (decide (0x151000 ≤ a) && decide (a < 0x155020) && !portThere s .keel ((a - 0x151000) / 0x20)) ||
    (neighLane a).any (fun l => !portThere s .keel l) || (decide (0x4000500 ≤ a) && decide (a < 0x4000600) && decide (s.straps.evTaps ≤ (a - 0x4000500) / 4))

/-- What the register at an address holds and shows now: stored bits where it is written, a staged RWC field as staged,
hardware's value where it is read only (R9, R11). TCAM_LOCK shows the locked segments, BANK_OWNER the owner in force, TIME_ADDEND
the addend the counter uses (R86, R294, R371). -/
def peekLive (s : State) (a : Nat) : Word :=
  if absentAt s a ∨ unusedAt s a then 0
  else
    match regRow a with
    | none => 0
    | some r =>
      let ro := BitVec.ofNat 32 r.ro
      let o := (a - 0x1000000) % 0x400000
      let stored :=
        if 0x1400000 ≤ a ∧ dieOf a < 5 ∧ (o = 0x100008 ∨ o = 0x10000C) then tcamLockView s (dieOf a - 1) ((o - 0x100008) / 4)
        else if 0x2400000 ≤ a ∧ dieOf a < 7 ∧ 0x81000 ≤ o ∧ o < 0x82000 ∧ o % 0x10 = 0 then viewBank s (dieOf a - 5) (o - 0x80000)
        else if a = A.TIME_ADDEND ∨ a = A.TIME_ADDEND + 4 then wordAt s.keel.clk.addend.toNat ((a - A.TIME_ADDEND) / 4)
        else if a = A.E_TIME_ADDEND ∨ a = A.E_TIME_ADDEND + 4 then wordAt s.evx.clk.addend.toNat ((a - A.E_TIME_ADDEND) / 4)
        else rdStaged s a
      let shown := match unlockBase a with
        | some b => BitVec.ofNat 32 (b2n (unlockedAt s b))
        | none => roView s a
      ((stored &&& ~~~ ro) ||| (shown &&& ro)) &&& ~~~ BitVec.ofNat 32 r.wo

end Sys2Proof.Machine
end

