-- ==== Sys2Proof/Machine/Host.lean ====
section
/-! DEFINITION. The host interface: expert unlock, reads with their latches and their clearing (R9, R31, R440, R441), interrupts
(R448), snapshots (R449 to R451) and the reset of the PCIe function (R446, R453). -/

namespace Sys2Proof.Machine

/-! Expert pages. -/

/-- A write to a block's EXPERT_UNLOCK (R441). -/
def expertUnlock (addr : Nat) (v : Word) (s : State) : State :=
  match unlockBase addr with
  | some b =>
    if absentAt s addr then absentDie addr s
    else modHost (fun h => { h with unlocked := (if v = 0x4558#32 then [b] else []) ++ h.unlocked.filter (fun x => x != b) }) s
  | none => s

/-- EXPERT_UNLOCK (R441). -/
def execExpertUnlock (addr : Nat) (v : Word) (s : State) : Answer := done (expertUnlock addr v s)

/-! Snapshots. -/

/-- The bits of a word that a snap latches: RO, RC and sticky RW1C fields; neither OPSTAT nor a ticket register (R449). -/
def snapMask (a : Nat) : Word :=
  if (0x18000 ≤ a ∧ a < 0x20000) ∨ evLo ≤ a ∨ isTicket a then 0
  else match regRow a with
    | some r => BitVec.ofNat 32 (r.ro ||| r.rc ||| r.w1c)
    | none => 0

/-- The addresses of a row's copies. -/
def RegRow.addrs (r : RegRow) : List Nat :=
  (List.range r.n).flatMap (fun i => (List.range r.n2).map (fun j => r.base + i * r.s + j * r.s2))

/-- What a die's latch puts into the shadows: each snapped word that does not read zero (R449). -/
def snapWords (s : State) (d : Nat) : Table Word :=
  (regRows.filter (fun r => decide (r.ro ||| r.rc ||| r.w1c ≠ 0) && decide (r.base < evLo))).foldl (fun t r =>
    (r.addrs.filter (fun a => dieOf a == d)).foldl (fun t a => tset 0 t a (peekLive s a &&& snapMask a)) t) []

/-- The range of addresses of a die's registers: the keel's are all those outside the windows (R437). -/
def dieRange (d : Nat) : Nat × Nat := if d = 0 then (0, 0x1000000) else (windowOf d, windowOf (d + 1))

/-- Microseconds after a time. -/
def usAfter (t : FabTime) (us : Nat) : FabTime := fabAdd t (us * 1000 * 2 ^ 32 : Nat)

/-- A write of SNAP_CTRL (R449, R451): GO arms a snapshot SNAP_LEAD from now; while ARMED it is ignored. -/
def snapCtrl (v : Word) (s : State) : State :=
  let s1 := wr A.SNAP_CTRL (v &&& 0x6#32) s
  if ¬ bit v 31 then s1
  else if s1.host.snap.state = .armed then raiseFlag A.SNAP_STAT 2 0 12 s1
  else modHost (fun h => { h with snap := { h.snap with
    state := .armed, fault := 0, time := usAfter (now s1 .keel) (rn s1 A.SNAP_LEAD), rcClear := bit v 2, dies := [], stamps := [] } }) s1

/-- SNAP (R449). -/
def execSnap (v : Word) (s : State) : Answer := done (snapCtrl v s)

/-- A die latches its snapped fields and its stamp; with all dies latched the snapshot is TAKEN (R449 to R451). The keel's latch
also latches the result group of every interval channel (R135). -/
def snapLatch (d : Nat) (s : State) : State :=
  let x := s.host.snap
  if x.state ≠ .armed ∨ ¬ diePresent s d ∨ x.dies.contains d ∨ ¬ fullAtOrAfter (now s .keel) x.time then s
  else
    let (lo, hi) := dieRange d
    let st : Stamp := { stampDie s d with ft := fabFt64 x.time }
    let keep := tkeep (fun a => decide (a < lo) || decide (hi ≤ a)) x.shadow
    let s := whenDo (d == 0) (forAll (List.range 4) ticLatch) s
    let all := (snapWords s d).foldl (fun t e => tput e.1 e.2 t) keep
    let got := x.dies ++ [d]
    let s1 := modHost (fun h => { h with snap := { x with
      dies := got, shadow := all, stamps := tput d st x.stamps
      state := if (dies s).all (fun e => got.contains e) then .taken else .armed } }) s
    whenDo x.rcClear (clearRc lo hi) s1

/-- SNAP_LATCH (R449). -/
def execSnapLatch (die : Nat) (s : State) : Answer := done (snapLatch die s)

/-- A present die that has not latched within 100 µs of T_snap fails the snapshot (R451). -/
def snapTimeout (d : Nat) (s : State) : State :=
  let x := s.host.snap
  if x.state ≠ .armed ∨ ¬ diePresent s d ∨ x.dies.contains d ∨ ¬ fullAtOrAfter (now s .keel) (usAfter x.time 100) then s
  else modHost (fun h => { h with snap := { x with state := .failed, fault := 3, shadow := [] } }) s

/-- SNAP_DIE_TIMEOUT (R451). -/
def execSnapDieTimeout (die : Nat) (s : State) : Answer := done (snapTimeout die s)

/-- The identity that the function shows in its PCIe configuration space: the device identifier by variant, the length of BAR0 and the
number of MSI-X vectors (R436). No command reads the configuration space. -/
def pciDevice (s : State) : Nat :=
  match s.straps.variant with
  | 0 => 0xA800
  | 1 => 0xA400
  | _ => 0xA200
abbrev bar0Size : Nat := 64 * 2 ^ 20
abbrev msixVectors : Nat := 4

/-- Is SNAP_CTRL VIEW set (R451)? -/
def snapView (s : State) : Bool := flag s A.SNAP_CTRL 1

/-- What a read of a register shows: the shadow of its snapped fields while VIEW is 1 (R451). -/
def peek (s : State) (a : Nat) : Word :=
  if snapView s && decide (a < evLo) then
    (peekLive s a &&& ~~~ snapMask a) ||| (tget 0 s.host.snap.shadow a &&& snapMask a)
  else peekLive s a

/-! Reads. -/

/-- The half of a 64-bit register that an address is: 1 low, 2 high, 0 neither. -/
def halfOf (a : Nat) : Nat := match regRow a with | some r => r.half | none => 0

/-- Word 0 of an FT128 register that a counter updates (R31). -/
def ft128At (a : Nat) : Bool := a == A.TIME_NOW || a == A.E_TIME_NOW

/-- Does the address read from a latch: words 1 to 3 of an FT128 register, or a latched high word (R31, R440)? -/
def latched (s : State) (a : Nat) : Option Word := tget none s.host.latch a

/-- The RC fields of a read word clear, both halves of a 64-bit one; in VIEW nothing clears (R9, R451). -/
def rcClearAt (a : Nat) (s : State) : State :=
  if rcMask a = 0 ∨ (snapView s ∧ a < evLo) ∨ absentAt s a then s
  else
    let s1 := wr a (rd s a &&& ~~~ rcMask a) s
    if halfOf a = 1 then wr (a + 4) (rd s1 (a + 4) &&& ~~~ rcMask (a + 4)) s1 else s1

/-- The route die, from 0, whose LEARN_POP word 0 an address is (R370). -/
def learnPopAt (a : Nat) : Option Nat := (List.range 4).find? (fun d => A.LEARN_POP d == a)

/-- A read of one word: the value, what it latches and what it clears (R9, R31, R440); word 0 of SERVO_MEAS, of EVT_POP or of LEARN_POP
pops (R87, R168, R370). -/
def readWord (a : Nat) (s0 : State) : State :=
  let s := match learnPopAt a with
    | some d => if snapView s0 ∨ absentAt s0 a then s0 else learnPop d s0
    | none => s0
  if a = A.SERVO_MEAS ∧ ¬ snapView s then measPop .keel s
  else if a = A.E_SERVO_MEAS then measPop .evxus s
  else if a = A.E_EVT_POP then evtPop s
  else
  let v := (latched s a).getD (peek s a)
  let s1 := modHost (fun h => { h with rdata := v.setWidth 64 }) s
  let s2 :=
    if ft128At a then forAll [a + 4, a + 8, a + 12] (fun w x => modHost (fun h => { h with latch := tset none h.latch w (some (peek s w)) }) x) s1
    else if halfOf a = 1 then modHost (fun h => { h with latch := tset none h.latch (a + 4) (some (peek s (a + 4))) }) s1
    else if halfOf a = 2 then modHost (fun h => { h with latch := tset none h.latch a none }) s1
    else s1
  rcClearAt a s2

/-- A read of the Evxus window: an unmapped offset reads zero and sets REG_ERR (R141). -/
def evRead (a : Nat) (s : State) : State :=
  if (regRow a).isSome then readWord a s
  else evRegErr a (modHost (fun h => { h with rdata := 0 }) s)

/-- A read of eight bytes: the low word, and the high word with it, of one moment (R440). -/
def readDouble (a : Nat) (s : State) : State :=
  let s1 := readWord a s
  let s2 := readWord (a + 4) s1
  modHost (fun h => { h with rdata := (s2.host.rdata.setWidth 32 : Word) ++ (s1.host.rdata.setWidth 32 : Word) }) s2

/-- A read at an address (R438, R141); `i` is the command, for an access that the Evxus holds, whose registers are of four bytes. -/
def readAt (i : Instr) (r : ReadAcc) (s : State) : State :=
  let a := r.addr
  if evLo ≤ a then
    (if a < evHi ∧ a % 4 = 0 ∧ r.size = 4 then evHold .evxus i (evRead a) s else s)
  else if ¬ ((r.size = 4 ∨ r.size = 8) ∧ a % r.size = 0) then accErr a false s
  else if r.size = 8 then readDouble a s
  else readWord a s

/-- LEARN_POP: the host reads word 0 (R365, R370). -/
def execLearnPop (die : Nat) (s : State) : Answer :=
  done (if 1 ≤ die ∧ die ≤ 4 then readWord (A.LEARN_POP (die - 1)) s else absentDie (A.LEARN_POP (die - 1)) s)

/-- RC_COUNTER_READ (R9). -/
def execRcCounterRead (r : ReadAcc) (s : State) : Answer := done (readAt (.rcCounterRead r) r s)

/-- LOW_WORD_READ (R440). -/
def execLowWordRead (r : ReadAcc) (s : State) : Answer := done (readAt (.lowWordRead r) r s)

/-- FT128_WORD0_READ (R31). -/
def execFt128Word0Read (r : ReadAcc) (s : State) : Answer := done (readAt (.ft128Word0Read r) r s)

/-! Interrupts. -/

/-- A write of IRQ_ACK makes the vectors named pending whose level is 1 (R448). -/
def irqAck (v : Word) (s : State) : State :=
  let s1 := settleIrq s
  modHost (fun h => { h with pendVec := (List.range 4).map (fun i => h.pendVec.getD i false || (bit v i && h.level.getD i false)) }) s1

/-- IRQ_ACK (R448). -/
def execIrqAck (v : Word) (s : State) : Answer := done (irqAck v s)

/-- A pending vector that is not masked sends its message, no sooner than IRQ_HOLDOFF after the previous one (R448). -/
def msixMessage (v : Nat) (s : State) : State :=
  let h := s.host
  let waits : Bool := match h.lastMsg.getD v none with
    | some t => decide (pe s .keel < t + usCyc (rn s A.IRQ_HOLDOFF))
    | none => false
  if v < 4 ∧ h.pendVec.getD v false ∧ ¬ flag s (A.MSIX_CTRL v) 0 ∧ ¬ waits then
    emit (.msix v) (modHost (fun h => { h with pendVec := h.pendVec.set v false, lastMsg := h.lastMsg.set v (some (pe s .keel)) }) s)
  else s

/-- The level of ALERT_N: low while a vector is pending (R461). -/
def alertPin (s : State) : Bool := !s.host.pendVec.any id

/-- MSIX_MESSAGE (R448). -/
def execMsixMessage (vec : Nat) (s : State) : Answer := done (msixMessage vec s)

/-! The PCIe function. -/

/-- A function-level reset (0), a hot reset (1) or the link going down (2): the HOST block's registers but TICKET_NEXT,
TICKET_SERIAL and OPSTAT, and the MSI-X table, return to their reset values, and every expert page is locked; no operation stops
(R441, R446, R453). After a hot reset or a link-down PCIE_LINK shows what the link has trained to. -/
def pcieFlr (c : FlrCause) (s : State) : State :=
  let s1 := { s with regs := tkeep (fun a => decide (a < 0x10000) || decide (0x18000 ≤ a)) s.regs }
  setFlag A.HOST_STAT 3 (modHost (fun h => { h with
    lowHeld := tkeep (fun a => decide (a < 0x10000) || decide (0x18000 ≤ a)) h.lowHeld
    unlocked := [], accErrAddr := 0, level := [false, false, false, false], pendVec := [false, false, false, false]
    lastMsg := [none, none, none, none], link := if c.cause = 0 then h.link else c.link }) s1)

/-- PCIE_FLR (R446). -/
def execPcieFlr (c : FlrCause) (s : State) : Answer := done (pcieFlr c s)

end Sys2Proof.Machine
end

