-- ==== Sys2Proof/Machine/RegWrite.lean ====
section
/-! DEFINITION. A write of a register (R9, R11, R19, R438 to R441, R472), and EV_READY (R154), which lets the accesses proceed
that the Evxus has held. A write of a register that has commands of its own is those commands. -/

namespace Sys2Proof.Machine

/-! Ranges (R472). -/

/-- The range of a field: the copies of its register as in `RegRow`, the field's place, its least and greatest value. -/
structure RangeRow where
  base : Nat
  n : Nat
  s : Nat
  n2 : Nat
  s2 : Nat
  lsb : Nat
  len : Nat
  lo : Nat
  hi : Nat
  deriving DecidableEq, Repr

/-- Fields with a range, registers of the keel (R472). -/
def keelRanges : List RangeRow := [
  ⟨A.SNAP_LEAD, 1, 0, 1, 0, 0, 32, 5, 1000⟩,
  ⟨A.IRQ_HOLDOFF, 1, 0, 1, 0, 0, 32, 0, 1000⟩,
  ⟨A.CLS_CFG 0, 14, 0x10, 1, 0, 24, 8, 1, 255⟩,
  ⟨A.DECAY, 1, 0, 1, 0, 0, 32, 0, 255⟩,
  ⟨A.EXPEL_BUDGET, 1, 0, 1, 0, 0, 32, 0, 15⟩,
  ⟨A.BUDGET_HOURS, 1, 0, 1, 0, 0, 32, 1, 168⟩,
  ⟨A.DIP_VERIFY_LIMIT, 1, 0, 1, 0, 0, 32, 100, 60000⟩,
  ⟨A.HB_TIMEOUT, 1, 0, 1, 0, 0, 32, 20, 10000⟩,
  ⟨A.PROBE_WAIT, 1, 0, 1, 0, 0, 32, 100, 100000⟩,
  ⟨A.ADMIT_STEPS, 1, 0, 1, 0, 0, 32, 1, 4096⟩,
  ⟨A.REBUILD_RATE, 1, 0, 1, 0, 0, 32, 10, 400⟩,
  ⟨A.REH_STEPS, 1, 0, 1, 0, 0, 32, 1, 256⟩,
  ⟨A.PULL_CTRL, 1, 0, 1, 0, 16, 6, 1, 50⟩,
  ⟨A.PULL_CTRL, 1, 0, 1, 0, 0, 16, 1, 500⟩,
  ⟨A.WTR, 1, 0, 1, 0, 0, 32, 0, 3600⟩,
  ⟨A.DRIFT_TIME, 1, 0, 1, 0, 0, 32, 10, 600⟩,
  ⟨A.REQUAL_TIME, 1, 0, 1, 0, 0, 32, 1, 255⟩,
  ⟨A.HOLD_AVG, 1, 0, 1, 0, 0, 32, 2, 600⟩,
  ⟨A.FREQ_SLOPE, 1, 0, 1, 0, 0, 32, 1, 100⟩,
  ⟨A.TAP_LEAD, 1, 0, 1, 0, 0, 32, 0, 1000⟩,
  ⟨A.TIC_SRC 0, 4, 0x100, 1, 0, 16, 10, 0, 512⟩,
  ⟨A.TIC_N 0, 4, 0x100, 1, 0, 0, 25, 1, 16777216⟩,
  ⟨A.TIC_TIMEOUT 0, 4, 0x100, 1, 0, 0, 32, 0, 3600⟩]

/-- Fields with a range: musters, route dies, the Evxus (R472). -/
def otherRanges : List RangeRow := [
  ⟨A.STRAG_MAX, 1, 0, 1, 0, 0, 32, 1, 262144⟩,
  ⟨A.AGG_PERIOD, 1, 0, 1, 0, 0, 32, 10, 1000⟩,
  ⟨A.LAUNCH_LEAD 0, 64, 0x80, 1, 0, 0, 32, 1000, 10000000⟩,
  ⟨A.BCAST_MIN 0, 64, 0x80, 1, 0, 0, 32, 0, 1000000⟩,
  ⟨A.MUSTER_TIMEOUT 0, 64, 0x80, 1, 0, 0, 32, 1, 60000000⟩,
  ⟨A.HELLO_PERIOD 0, 4, 0x400000, 1, 0, 0, 32, 10, 1000⟩,
  ⟨A.LEARN_HOLD 0, 4, 0x400000, 1, 0, 0, 32, 0, 1000000⟩,
  ⟨A.TCAM_CNT 0, 4, 0x400000, 1, 0, 0, 17, 1, 65536⟩,
  ⟨A.BULK_WEIGHT 0, 4, 0x400000, 1, 0, 0, 8, 1, 255⟩,
  ⟨A.BULK_WEIGHT 0, 4, 0x400000, 1, 0, 8, 8, 1, 255⟩,
  ⟨A.BULK_WEIGHT 0, 4, 0x400000, 1, 0, 16, 8, 1, 255⟩,
  ⟨A.BULK_WEIGHT 0, 4, 0x400000, 1, 0, 24, 8, 1, 255⟩,
  ⟨A.SPILL_HOLD 0, 4, 0x400000, 1, 0, 0, 32, 1, 1000⟩,
  ⟨A.EVU_WTR, 1, 0, 1, 0, 0, 32, 0, 3600⟩,
  ⟨A.EVU_DRIFT_TIME, 1, 0, 1, 0, 0, 32, 10, 600⟩,
  ⟨A.EVU_REQUAL_TIME, 1, 0, 1, 0, 0, 32, 1, 255⟩,
  ⟨A.EVU_HOLD_AVG, 1, 0, 1, 0, 0, 32, 2, 600⟩]

/-- Does a range concern the register at an address? -/
def RangeRow.has (r : RangeRow) (a : Nat) : Bool :=
  (⟨r.base, r.n, r.s, r.n2, r.s2, 0, 0, 0, 0, 0, 0, 0, 0, 0⟩ : RegRow).has a

/-- A word as it is stored: a field outside its range takes the nearest limit (R472). -/
def clampWord (a : Nat) (v : Word) : Word :=
  ((keelRanges ++ otherRanges).filter (fun r => r.has a)).foldl
    (fun w r => setBits w r.lsb r.len (max r.lo (min r.hi (bits w r.lsb r.len)))) v

/-! Storing. -/

/-- Store a word under the access codes of its register: RW and RWS bits take the value, RW1C bits clear where it is 1, RWC
bits are staged, and every other bit ignores it (R9, R11). -/
def storeWord (a : Nat) (v : Word) (s : State) : State :=
  match regRow a with
  | none => s
  | some r =>
    let w := clampWord a v
    let m := BitVec.ofNat 32 (r.rw ||| r.rws)
    let c := BitVec.ofNat 32 r.w1c &&& v
    let s1 := wr a ((rd s a &&& ~~~ m &&& ~~~ c) ||| (w &&& m)) s
    if r.rwc = 0 then s1 else stageReg a w s1

/-- A field that keeps what it holds: the word written, with that field as the register shows it. -/
def keepField (s : State) (a lo len : Nat) (v : Word) : Word := setBits v lo len (bits (rdStaged s a) lo len)

/-- The copy of a register that an address is: `n` copies at stride `st` from `base`. -/
def copyOf (a base n st : Nat) : Option Nat :=
  if base ≤ a ∧ (a - base) % st = 0 ∧ (a - base) / st < n then some ((a - base) / st) else none

/-- Configuration registers of a TIC channel: ignored with WR_IGN while it calibrates or runs (R135); TIC_N 0 and MODE 2 or 3 set
CFG_BAD; 0 ≤ WIN_OPEN < WIN_CLOSE ≤ 10^10 (R129, R136, R472). -/
def ticWrite (c : Nat) (f : State → State) (s : State) : State :=
  if (tic s c).state = .calibrating ∨ (tic s c).state = .running then raiseFlag (A.TIC_STATUS c) 5 c 12 s else f s

/-- The configuration registers of a TIC channel's record, by offset (R135, R136). -/
def ticConfig (o : Nat) : Bool := o == 0 || o == 8 || o == 0xC || (decide (0x10 ≤ o) && decide (o < 0x28)) || o == 0x7C

/-- A word of a TIC channel's record (R136): the status and the results keep their own access codes. -/
def ticWord (c a : Nat) (v : Word) (s : State) : State :=
  (if ticConfig ((a - 0x140100) % 0x100) then ticWrite c else id) (fun s =>
    if a = A.TIC_N c ∧ bits v 0 25 = 0 then setFlag (A.TIC_STATUS c) 4 s
    else if a = A.TIC_CTRL c ∧ 2 ≤ bits v 0 2 then setFlag (A.TIC_STATUS c) 4 (storeWord a (keepField s a 0 2 v) s)
    else storeWord a v s) s

/-- The set-up of an output as its registers would have it (R117, R121); none where the rules forbid it. -/
def outSetup (s : State) (o : Nat) (offset : Int) : Option OutCfg :=
  let mode := rf s (A.OUT_CTRL o) 0 2
  let align := rf s (A.OUT_CTRL o) 5 3
  let period := rn s (A.OUT_PERIOD o)
  let width := rn s (A.OUT_WIDTH o)
  if mode = 3 ∨ 4 < align ∨ period < 4 ∨ 1000000000 % period ≠ 0 ∨ width < 4 ∨ 500000000 < width ∨ (mode = 2 ∧ period ≤ width) then none
  else some { mode := mode, align := align, offset := offset, period := period, width := width, low := flag s (A.OUT_CTRL o) 3 }

/-- A write of an output's registers: one that breaks the rules leaves the output and its registers as they are and sets
CFG_BAD; mode, alignment, period and offset take effect at the next second boundary, the rest at once (R117, R121). -/
def outWrite (o : Nat) (f : State → State) (s : State) : State :=
  let s1 := f s
  match outSetup s1 o (sgn 64 (rn64 s1 (A.OUT_OFFSET o))) with
  | none => setFlag (A.OUT_STATUS o) 3 s
  | some c => modOut o (fun x => { x with next := some c, cfg := { x.cfg with width := c.width, low := c.low } }) s1

/-- The primary root's values of POLICY, LAUNCH_LEAD, BCAST_MIN and MUSTER_TIMEOUT go to its twin as they change (R187, R377). -/
def paramsMirror (a : Nat) (s : State) : State :=
  if s.tw.primary ∧ 0x201000 ≤ a ∧ a < 0x203000 ∧ [0, 0x10, 0x14, 0x18].contains (a % 0x80) then
    mirrorGroup .keel ((a - 0x201000) / 0x80) s
  else s

/-- A word with the conditions that some registers put on it: codes that are ignored and flagged keep their field. -/
def storeRules (a : Nat) (v : Word) (s : State) : State :=
  match copyOf a (A.GRP_CFG 0) 64 0x80 with
  | some k =>
    if 2 ≤ bits v 8 2 then storeWord a (keepField s a 8 2 v) (raiseFlag (A.GRP_STAT k) 14 k 12 s) else storeWord a v s
  | none =>
  match copyOf a (A.SEQ_CFG 0) 8 0x80 with
  | some q =>
    if ¬ reduceDie s (q / 4) then s
    else storeWord a (setBits v 16 8 (min (bits v 16 8) (tget {} s.cfg.seqs q).table.guardLimit)) s
  | none =>
  match copyOf a (A.DIG_CTRL 0) 2 0x400000 with
  | some dx =>
    if bits v 0 2 = 3 then storeWord a (keepField s a 0 2 v) (raiseFlag (A.DIG_STAT dx 0) 17 0 12 s) else storeWord a v s
  | none =>
  match copyOf a (A.E_LAUNCH_CFG 0) 8 4 with
  | some _ => if bits v 8 2 = 3 then storeWord a (keepField s a 8 2 v) (evRegErr a s) else storeWord a v s
  | none =>
  if 0x140100 ≤ a ∧ a < 0x140500 ∧ rwcMask a = 0 then ticWord ((a - 0x140100) / 0x100) a v s
  else if 0x130000 ≤ a ∧ a < 0x130080 ∧ (a % 0x40 = 0 ∨ a % 0x40 = 0x10 ∨ a % 0x40 = 0x14) then
    outWrite ((a - 0x130000) / 0x40) (storeWord a v) s
  else if 0x2400000 ≤ a ∧ dieOf a < 7 then
    let o := (a - 0x1000000) % 0x400000
    let part := bits v 16 8
    if ((0xA1000 ≤ o ∧ o < 0xA3000 ∧ o % 0x20 = 0x10) ∨ (0xD0100 ≤ o ∧ o < 0xD0500 ∧ o % 0x40 = 0x20)) ∧ 64 ≤ part ∧ part < 255 then
      storeWord a (keepField s a 16 8 v) s
    else storeWord a v s
  else if 0x4000500 ≤ a ∧ a < 0x4000600 ∧ bits v 0 2 = 3 then storeWord a (keepField s a 0 2 v) s
  else storeWord a v s

/-- A 64-bit value takes effect (R440), with the ranges of 64-bit fields (R121, R136). -/
def store64 (a : Nat) (v : DWord) (s : State) : State :=
  let both (x : Nat) (s : State) : State := storeWord (a + 4) (wordAt x 1) (storeWord a (wordAt x 0) s)
  if a = A.OUT_OFFSET 0 ∨ a = A.OUT_OFFSET 1 then
    outWrite ((a - 0x130000) / 0x40) (both (enc 64 (clampInt (-32768000000000) 32768000000000 v.toInt))) s
  else
    match copyOf a (A.WIN_OPEN 0) 4 0x100, copyOf a (A.WIN_CLOSE 0) 4 0x100 with
    | some c, _ => ticWrite c (both (min v.toNat (rn64 s (A.WIN_CLOSE c) - 1))) s
    | _, some c => ticWrite c (both (max (rn64 s (A.WIN_OPEN c) + 1) (min v.toNat 10000000000))) s
    | none, none => both v.toNat s

/-! Writes that are commands. -/

/-- The state in which a command's meaning leaves `s`. -/
def after (f : State → Answer) (s : State) : State :=
  match f s with
  | .next t => t
  | _ => s

/-- Meanings in turn. -/
def afterAll (l : List (State → Answer)) (s : State) : State := l.foldl (fun s f => after f s) s

/-- A meaning where a bit of the word written is set. -/
def onBit (v : Word) (i : Nat) (f : State → Answer) : List (State → Answer) := if bit v i then [f] else []

/-- The commands that a write of a word is at the package-wide registers, in the order of their effect: what the word stores
stands in `plain`. ADMIT needs the newcomer's DET_KEY, which no register holds: the rows ADMIT and ADMIT_COMPAT carry it (log
entry 41). Whether a TIC_CTRL write with START and a reserved MODE starts the channel the spec leaves open: DESIGN CHOICE (log entry
20): it sets CFG_BAD, keeps the old MODE and starts with it. -/
def keelOwn (a : Nat) (v : Word) : Option (List (State → Answer)) :=
  let plain : State → Answer := fun s => done (storeWord a v s)
  if a = A.SNAP_CTRL then some [execSnap v]
  else if a = 0x140 ∨ a = A.ALM_COMMIT then some (onBit v 30 (execCommitCancel v) ++ onBit v 31 (execAlmCommit v))
  else if a = A.IRQ_ACK then some [execIrqAck v]
  else if a = A.LOG_CTRL then some ([plain] ++ onBit v 30 execLogClear ++ onBit v 31 execLogExport)
  else if a = A.HLTH_CMD then some (onBit v 31 execScoreClear ++ onBit v 30 execExpelNow ++ onBit v 29 execClearExpelled)
  else if a = A.WATCH_LEVEL ∨ a = A.EXPEL_LEVEL then
    some [fun s => done (levelCheck (decide (watchLevel s ≤ s.hl.score)) (storeWord a v s))]
  else if a = A.SW_EVENT then some [execSwEvent v]
  else if a = A.TWIN_CMD then some (onBit v 29 execDemotePartner ++ onBit v 28 execCancelAdmit ++ onBit v 27 (execRehNow (bits v 0 3)))
  else if a = A.TIME_EPOCH_SET then some [execTimeEpochSet v]
  else if a = A.JUMP_CTRL then some ([plain] ++ onBit v 31 (execJumpAllow .keel))
  else if a = A.PULL_REQ then some [execPullReq (v.setWidth 64)]
  else if a = A.SERVO_CTRL then some ([if bit v 0 then execServoModeOpen .keel else execServoModeClosed .keel] ++ onBit v 4 (execServoRestart .keel))
  else if a = A.SLEW then some [execSlew .keel v]
  else if a = A.REF_CTRL then some [if bit v 31 then execTableApply v else execSelForce v]
  else if a = A.REF_EXPERT then some [execWarmForce v]
  else if a = A.STRAG_REQ then some (onBit v 31 (execStragReq v))
  else if a = A.ALM_REQ then some (onBit v 31
    (match bits v 24 4 with
     | 1 => execLoad v
     | 2 => execCacheLoad v
     | 3 => execDiscard v
     | 4 => execTeardown v
     | 5 => execCacheDrop v
     | _ => fun s => done (raiseFlag A.ALM_STAT 2 0 12 s)))
  else if a = A.ALM_KEY_PROG then some [execAlmKeyProg v]
  else if a = A.ALM_REVOKE then some [execAlmRevoke v]
  else if a = A.RST_CMD then some (onBit v 31
    (if bit v 30 then execEngineReset (if bit v 15 then 6 else 5) (bits v 16 8) else execPartitionReset (bits v 0 6)))
  else if a = A.PWR_CAP then some [execPwrCap v]
  else if a = A.PKG_RST then some [if bit v 0 then execColdReset v else execWarmReset v]
  else if a = A.SSC_CTRL then some [execSscOff v]
  else if (unlockBase a).isSome then some [execExpertUnlock a v]
  else (copyOf a (A.SRC_CFG 0) 4 0x20).map (fun i => [execPinModeWrite i v])
    |>.or ((copyOf a (A.TIC_CTRL 0) 4 0x100).map (fun c =>
      [fun s => done (if bits v 29 3 ≠ 0 ∧ ((tic s c).state = .calibrating ∨ (tic s c).state = .running) then s else ticWord c a v s)] ++
        onBit v 30 (execTicAbort c) ++ onBit v 29 (execTicLatch c) ++ onBit v 31 (execTicStart c)))
    |>.or ((copyOf a (A.PORT_TSTAT 0) 513 0x20).map (fun p => [plain] ++ onBit v 31 (execCalStart .keel p)))
    |>.or ((copyOf a (A.ASYM 0) 513 0x20).map (fun p => [execAsymWrite .keel p v]))
    |>.or ((copyOf a (A.PTP_TXQ_FIND 0) 2 0x100).map (fun e => [execPtpTxqFind e v]))
    |>.or ((copyOf a (A.MUSTER_CMD 0) 64 0x80).map (fun k => onBit v 31 (execForceDegrade k)))
    |>.or ((copyOf a (A.COND_FENCE 0) 32 4).map (fun b => [execCondFence b v]))

/-- The commands that a write of a word is in a die's window. A START or RESTART of a DMA engine needs the descriptor that the
engine fetches: the rows DMA_START and DMA_RESTART carry it (log entry 41). -/
def dieOwn (a : Nat) (v : Word) : Option (List (State → Answer)) :=
  let d := dieOf a
  let o := (a - 0x1000000) % 0x400000
  if (unlockBase a).isSome then some [execExpertUnlock a v]
  else if d < 5 then
    (if o = 0x100030 then some (onBit v 31 (execTcamReq d v)) else none)
  else if 0x380000 ≤ o then some [execBankApertureAccess d (o - 0x380000) 4 (.write (v.setWidth 64))]
  else if o = 0x80020 then some [execClearReq d v]
  else if o = 0xC0008 then some [match bits v 28 4 with
    | 1 => execTallySignal d v
    | 2 => execTallySet d v
    | 3 => execTallyClearErr d v
    | 4 => execTallyClear d v
    | _ => fun s => done (raiseFlag (A.TALLY_STAT (d - 5)) 6 0 12 s)]
  else if o = 0xC0030 then some (onBit v 31 (execDumpReq d v))
  else (copyOf o 0x81000 256 0x10).map (fun b => [execBankOwnerWrite d b v])
    |>.or ((copyOf o 0x4104C 32 0x80).map (fun u => onBit v 31 (execUpdResume ((d - 5) * 32 + u))))
    |>.or ((copyOf o 0xD012C 16 0x40).map (fun g => onBit v 31 (execGateCancel d g)))
    |>.or ((copyOf o 0xE0100 16 0x40).map (fun k => onBit v 29 (execDmaPreempt d k)))

/-- The commands that a write of a word is in the window of the Evxus. A staged REVERTIVE waits for PAGE_COMMIT or TABLE_APPLY
(R166). -/
def evOwn (a : Nat) (v : Word) : Option (List (State → Answer)) :=
  let plain : State → Answer := fun s => done (storeRules a v s)
  if a = A.E_JUMP_CTRL then some ([plain] ++ onBit v 31 (execJumpAllow .evxus))
  else if a = A.EV_CTRL then some ([plain] ++ onBit v 30 execSoftRst ++ onBit v 31 execPageCommit)
  else if a = A.EV_UNLOCK then some [execEvUnlock v]
  else if a = A.E_SERVO_CTRL then some ([if bit v 0 then execServoModeOpen .evxus else execServoModeClosed .evxus] ++ onBit v 4 (execServoRestart .evxus))
  else if a = A.E_SLEW then some [execSlew .evxus v]
  else if a = A.EVU_CTRL then some ([fun s => done (stageReg a v (selForce .evxus (bits v 8 4) s))] ++
    onBit v 31 (fun s => done (tableApply .evxus (wr a ((rd s a &&& ~~~ 1#32) ||| (rdStaged s a &&& 1#32)) s))))
  else if a = A.E_LAUNCH_CLR then some [execLaunchClr v]
  else if a = A.E_ARRIVE then some [execArrive v]
  else (copyOf a (A.E_PORT_STAT 0) 64 4).map (fun p => [plain] ++ onBit v 31 (execCalStart .evxus p))
    |>.or ((copyOf a (A.E_ASYM 0) 64 0x18).map (fun p => [execAsymWrite .evxus p v]))
    |>.or ((copyOf a (A.E_TX_LAT 0) 64 0x18).map (fun p => [execTapLatWrite p 0 v]))
    |>.or ((copyOf a (A.E_RX_LAT 0) 64 0x18).map (fun p => [execTapLatWrite p 1 v]))
    |>.or ((copyOf a (A.E_UI_FS 0) 64 0x18).map (fun p => [execTapLatWrite p 2 v]))

/-- The commands that a write of a word is. -/
def ownOf (a : Nat) (v : Word) : Option (List (State → Answer)) :=
  if a < 0x1000000 then keelOwn a v else if a < evLo then dieOwn a v else evOwn a v

/-- The commands that a 64-bit value is as it takes effect. -/
def own64 (a : Nat) (v : DWord) : Option (List (State → Answer)) :=
  if a = A.TIME_ADDEND then some [execTimeAddend .keel v]
  else if a = A.E_TIME_ADDEND then some [execTimeAddend .evxus v]
  else if a = A.E_WAKE_AT then some [fun s => done (modHost (fun h => { h with lowHeld := tset none h.lowHeld a (some (wordAt v.toNat 0)) }) s),
      execWakeAt (wordAt v.toNat 1)]
  else (copyOf a (A.TCAM_LOCK 0) 4 0x400000).map (fun d => [execTcamLock (d + 1) v])
    |>.or ((copyOf a (A.TCAM_UNLOCK 0) 4 0x400000).map (fun d => [execTcamUnlock (d + 1) v]))
    |>.or ((copyOf a (A.TCAM_ABANDON 0) 4 0x400000).map (fun d => [execTcamAbandon (d + 1) v]))

/-! The access. -/

/-- Does the address lie on the expert page of a block; record tables that reach into its range stay basic (R440, log entry
42)? -/
def expertPage (a : Nat) : Bool :=
  decide (0x800 ≤ a % 0x1000) && (unlockBase (a - a % 0x1000 + 0x7FC)).isSome &&
    (match regRow a with
     | some r => decide (r.n2 = 1) && (decide (r.n = 1) || decide (r.s = 0x400000))
     | none => true)

/-- A 64-bit value takes effect, and no low word is held any more (R440). -/
def effect64 (a : Nat) (v : DWord) (s : State) : State :=
  let s1 := modHost (fun h => { h with lowHeld := tset none h.lowHeld a none }) s
  match own64 a v with
  | some l => afterAll l s1
  | none => store64 a v s1

/-- A write of one word: the low word of a 64-bit register is held, its high word makes it take effect (R440). -/
def writeWord (a : Nat) (v : Word) (s : State) : State :=
  if a < evLo ∧ expertPage a ∧ ¬ unlockedAt s (a - a % 0x1000) then expertDenied s
  else
    match halfOf a with
    | 1 => modHost (fun h => { h with lowHeld := tset none h.lowHeld a (some v) }) s
    | 2 =>
      let lo := (tget none s.host.lowHeld (a - 4)).getD (peekLive s (a - 4))
      effect64 (a - 4) (v ++ lo) s
    | _ =>
      match ownOf a v with
      | some l => afterAll l s
      | none => paramsMirror a (storeRules a v s)

/-- A write of eight bytes: a 64-bit register in one access, else two words, the low one first (R439, R440); one to a locked expert page
is one refused write (R441). -/
def writeDouble (a : Nat) (v : DWord) (s : State) : State :=
  if halfOf a = 1 ∧ ¬ (expertPage a ∧ ¬ unlockedAt s (a - a % 0x1000)) then effect64 a v s
  else if 0x2400000 ≤ a ∧ dieOf a < 7 ∧ 0x380000 ≤ (a - 0x1000000) % 0x400000 then
    after (execBankApertureAccess (dieOf a) ((a - 0x1000000) % 0x400000 - 0x380000) 8 (.write v)) s
  else if a < evLo ∧ expertPage a ∧ ¬ unlockedAt s (a - a % 0x1000) then expertDenied s
  else writeWord (a + 4) (wordAt v.toNat 1) (writeWord a (wordAt v.toNat 0) s)

/-- A write of the Evxus window, a whole word: an unmapped offset, and a locked expert page, set REG_ERR (R141). -/
def evWrite (a : Nat) (v : Word) (s : State) : State :=
  if (regRow a).isNone then evRegErr a s
  else if 0x4000800 ≤ a ∧ ¬ s.ev.unlocked then evRegErr a s
  else writeWord a v s

/-- What a host's write of a word is where a hardware update of some of its bits lands in the same cycle: a set of a sticky bit wins over
its clear, and of any other field the update stands and the write is discarded (R12). -/
def clashWord (s : State) (a : Nat) (hw v : Word) : Word :=
  match regRow a with
  | some r => (v &&& ~~~ hw) ||| (peekLive s a &&& hw &&& ~~~ BitVec.ofNat 32 r.w1c)
  | none => v

/-- Is an address that of BANK_OWNER: one field, whose write is a command (R281, R282)? -/
def ownerAt (a : Nat) : Bool :=
  decide (0x2400000 ≤ a) && decide (dieOf a < 7) && (copyOf ((a - 0x1000000) % 0x400000) 0x81000 256 0x10).isSome

/-- What is left to write after R12; none where nothing is. -/
def clashed (s : State) (a : Nat) (hw v : DWord) : Option DWord :=
  if hw = 0 then some v
  else if ownerAt a then none
  else some (clashWord s (a + 4) (wordAt hw.toNat 1) (wordAt v.toNat 1) ++ clashWord s a (wordAt hw.toNat 0) (wordAt v.toNat 0))

/-- A write at an address. -/
def registerWrite (addr : Nat) (acc : WriteAcc) (v0 : DWord) (s : State) : State :=
  let size := acc.size
  match clashed s addr acc.hw v0 with
  | none => s
  | some v =>
    if evLo ≤ addr then
      (if addr < evHi ∧ addr % 4 = 0 ∧ size = 4 then evHold .evxus (.registerWrite addr acc v0) (evWrite addr (v.setWidth 32)) s else s)
    else if ¬ ((size = 4 ∨ size = 8) ∧ addr % size = 0) then accErr addr true s
    else if absentAt s addr then (if dieOf addr = 0 then s else absentDie addr s)
    else if size = 8 then writeDouble addr v s
    else writeWord addr (v.setWidth 32) s

/-- REGISTER_WRITE (R9). -/
def execRegisterWrite (addr : Nat) (acc : WriteAcc) (v : DWord) (s : State) : Answer := done (registerWrite addr acc v s)

/-! EV_READY. -/

/-- What a held access does (R141): those of its kinds that the Evxus holds. -/
def heldAccess (i : Instr) : State → Answer :=
  match i with
  | .registerWrite a z v => execRegisterWrite a z v
  | .rcCounterRead a => execRcCounterRead a
  | .lowWordRead a => execLowWordRead a
  | .ft128Word0Read a => execFt128Word0Read a
  | .servoRestart n => execServoRestart n
  | .servoModeOpen n => execServoModeOpen n
  | .servoModeClosed n => execServoModeClosed n
  | .timeAddend n v => execTimeAddend n v
  | .slew n v => execSlew n v
  | .servoMeasPop n => execServoMeasPop n
  | .jumpAllow n => execJumpAllow n
  | .asymWrite n p v => execAsymWrite n p v
  | .calStart n p => execCalStart n p
  | .softRst => execSoftRst
  | .pageCommit => execPageCommit
  | .evUnlock v => execEvUnlock v
  | .launchClr v => execLaunchClr v
  | .arrive v => execArrive v
  | .wakeAt v => execWakeAt v
  | .tapLatWrite p w v => execTapLatWrite p w v
  | .evtPop => execEvtPop
  | _ => fun s => done s

/-- READY is set once ev_refclk is there, and the held accesses complete in their order; a write of ARRIVE held in an outage is
refused (R141, R153, R154). -/
def evReady (s : State) : State :=
  if s.ev.ready ∨ ¬ s.ev.refclkOk then s
  else
    modEv (fun e => { e with outage := false })
      (afterAll (s.ev.held.map heldAccess) (modEv (fun e => { e with ready := true, held := [] }) s))

/-- EV_READY (R154). -/
def execEvReady (s : State) : Answer := done (evReady s)

end Sys2Proof.Machine
end

