-- ==== Sys2Proof/Machine/Dispatch.lean ====
section
/-! DEFINITION. One arm per command. -/

namespace Sys2Proof.Machine

def exec (i : Instr) (s : State) : Host.Outcome State Fault Refusal :=
  match i with
  | .registerWrite addr acc v => Sys2Proof.Machine.execRegisterWrite addr acc v s
  | .rcCounterRead r => Sys2Proof.Machine.execRcCounterRead r s
  | .lowWordRead r => Sys2Proof.Machine.execLowWordRead r s
  | .ft128Word0Read r => Sys2Proof.Machine.execFt128Word0Read r s
  | .expertUnlock addr v => Sys2Proof.Machine.execExpertUnlock addr v s
  | .timeEpochSet v => Sys2Proof.Machine.execTimeEpochSet v s
  | .epochLoad pulse => Sys2Proof.Machine.execEpochLoad pulse s
  | .epochNopps => Sys2Proof.Machine.execEpochNopps s
  | .unsureStepWindowEnd n => Sys2Proof.Machine.execUnsureStepWindowEnd n s
  | .unsureDipWindowEnd n => Sys2Proof.Machine.execUnsureDipWindowEnd n s
  | .timeUncUpdate n => Sys2Proof.Machine.execTimeUncUpdate n s
  | .intercalApply n => Sys2Proof.Machine.execIntercalApply n s
  | .syncSend n p barrel => Sys2Proof.Machine.execSyncSend n p barrel s
  | .syncReceive n p barrel m => Sys2Proof.Machine.execSyncReceive n p barrel m s
  | .reqSend n p barrel => Sys2Proof.Machine.execReqSend n p barrel s
  | .reqReceive n p barrel m => Sys2Proof.Machine.execReqReceive n p barrel m s
  | .respSend n p => Sys2Proof.Machine.execRespSend n p s
  | .respReceive n p m => Sys2Proof.Machine.execRespReceive n p m s
  | .exchangeTimeout n p => Sys2Proof.Machine.execExchangeTimeout n p s
  | .syncMissing n p => Sys2Proof.Machine.execSyncMissing n p s
  | .delayGateReset n p => Sys2Proof.Machine.execDelayGateReset n p s
  | .lossOfActivity n p => Sys2Proof.Machine.execLossOfActivity n p s
  | .acqSlow n => Sys2Proof.Machine.execAcqSlow n s
  | .settleSlow n => Sys2Proof.Machine.execSettleSlow n s
  | .servoRestart n => Sys2Proof.Machine.execServoRestart n s
  | .servoModeOpen n => Sys2Proof.Machine.execServoModeOpen n s
  | .servoModeClosed n => Sys2Proof.Machine.execServoModeClosed n s
  | .timeAddend n v => Sys2Proof.Machine.execTimeAddend n v s
  | .slew n v => Sys2Proof.Machine.execSlew n v s
  | .slewSpent n => Sys2Proof.Machine.execSlewSpent n s
  | .servoMeasPop n => Sys2Proof.Machine.execServoMeasPop n s
  | .jumpAllow n => Sys2Proof.Machine.execJumpAllow n s
  | .jumpDeferRelease n => Sys2Proof.Machine.execJumpDeferRelease n s
  | .pullReq v => Sys2Proof.Machine.execPullReq v s
  | .intercalateAnnounce => Sys2Proof.Machine.execIntercalateAnnounce s
  | .intercalateReceive n p m => Sys2Proof.Machine.execIntercalateReceive n p m s
  | .intercalLateUncEnd n => Sys2Proof.Machine.execIntercalLateUncEnd n s
  | .linkUp n p => Sys2Proof.Machine.execLinkUp n p s
  | .asymCalDone n p r => Sys2Proof.Machine.execAsymCalDone n p r s
  | .linkDown n p => Sys2Proof.Machine.execLinkDown n p s
  | .asymWrite n p v => Sys2Proof.Machine.execAsymWrite n p v s
  | .calStart n p => Sys2Proof.Machine.execCalStart n p s
  | .ptpEventTx e phase msgId m => Sys2Proof.Machine.execPtpEventTx e phase msgId m s
  | .ptpEventRx e phase m => Sys2Proof.Machine.execPtpEventRx e phase m s
  | .ptpAnnounceRx e m => Sys2Proof.Machine.execPtpAnnounceRx e m s
  | .ptpTxqFind e v => Sys2Proof.Machine.execPtpTxqFind e v s
  | .txqStale e => Sys2Proof.Machine.execTxqStale e s
  | .ppsPulse pin phase => Sys2Proof.Machine.execPpsPulse pin phase s
  | .pinPhaseMeasure pin phase => Sys2Proof.Machine.execPinPhaseMeasure pin phase s
  | .ppsWindowEmpty pin => Sys2Proof.Machine.execPpsWindowEmpty pin s
  | .freqGapLoss pin => Sys2Proof.Machine.execFreqGapLoss pin s
  | .freqActivityRestored pin => Sys2Proof.Machine.execFreqActivityRestored pin s
  | .monitorUpdate n oven freqs => Sys2Proof.Machine.execMonitorUpdate n oven freqs s
  | .tableApply v => Sys2Proof.Machine.execTableApply v s
  | .selForce v => Sys2Proof.Machine.execSelForce v s
  | .pinModeWrite pin v => Sys2Proof.Machine.execPinModeWrite pin v s
  | .warmForce v => Sys2Proof.Machine.execWarmForce v s
  | .ovenWarmLoss => Sys2Proof.Machine.execOvenWarmLoss s
  | .holdAged n => Sys2Proof.Machine.execHoldAged n s
  | .outputEdge o => Sys2Proof.Machine.execOutputEdge o s
  | .outConfigApply o => Sys2Proof.Machine.execOutConfigApply o s
  | .ticStart t => Sys2Proof.Machine.execTicStart t s
  | .ticCalibrationDone t k1s k2s k1e k2e => Sys2Proof.Machine.execTicCalibrationDone t k1s k2s k1e k2e s
  | .ticStartEvent t tap => Sys2Proof.Machine.execTicStartEvent t tap s
  | .ticStopEvent t tap => Sys2Proof.Machine.execTicStopEvent t tap s
  | .ticWindowClose t => Sys2Proof.Machine.execTicWindowClose t s
  | .ticTimeout t => Sys2Proof.Machine.execTicTimeout t s
  | .ticAbort t => Sys2Proof.Machine.execTicAbort t s
  | .ticLatch t => Sys2Proof.Machine.execTicLatch t s
  | .ticPeriodicRecal t => Sys2Proof.Machine.execTicPeriodicRecal t s
  | .launchTapFire k => Sys2Proof.Machine.execLaunchTapFire k s
  | .ftSec => Sys2Proof.Machine.execFtSec s
  | .evRstN => Sys2Proof.Machine.execEvRstN s
  | .evReady => Sys2Proof.Machine.execEvReady s
  | .softRst => Sys2Proof.Machine.execSoftRst s
  | .pageCommit => Sys2Proof.Machine.execPageCommit s
  | .pageCommitApply => Sys2Proof.Machine.execPageCommitApply s
  | .evUnlock v => Sys2Proof.Machine.execEvUnlock v s
  | .hclkLoss => Sys2Proof.Machine.execHclkLoss s
  | .hclkPresent period => Sys2Proof.Machine.execHclkPresent period s
  | .evLaunchReceive p m => Sys2Proof.Machine.execEvLaunchReceive p m s
  | .launchLineAssert l phase => Sys2Proof.Machine.execLaunchLineAssert l phase s
  | .launchPulseEnd l => Sys2Proof.Machine.execLaunchPulseEnd l s
  | .launchClr v => Sys2Proof.Machine.execLaunchClr v s
  | .eventEdge input falling phase => Sys2Proof.Machine.execEventEdge input falling phase s
  | .arrive v => Sys2Proof.Machine.execArrive v s
  | .evtPop => Sys2Proof.Machine.execEvtPop s
  | .wakeAt v => Sys2Proof.Machine.execWakeAt v s
  | .wakeTimer => Sys2Proof.Machine.execWakeTimer s
  | .tapTxSof p barrel m => Sys2Proof.Machine.execTapTxSof p barrel m s
  | .tapRxSof p barrel m => Sys2Proof.Machine.execTapRxSof p barrel m s
  | .tapOrphan p => Sys2Proof.Machine.execTapOrphan p s
  | .tapLatWrite p which v => Sys2Proof.Machine.execTapLatWrite p which v s
  | .refclkLoss => Sys2Proof.Machine.execRefclkLoss s
  | .evPllRelock => Sys2Proof.Machine.execEvPllRelock s
  | .arriveReceive n p barrel m => Sys2Proof.Machine.execArriveReceive n p barrel m s
  | .aggPeriod n k => Sys2Proof.Machine.execAggPeriod n k s
  | .adjArrive k => Sys2Proof.Machine.execAdjArrive k s
  | .launchDecide k => Sys2Proof.Machine.execLaunchDecide k s
  | .musterTimeout k => Sys2Proof.Machine.execMusterTimeout k s
  | .forceDegrade k => Sys2Proof.Machine.execForceDegrade k s
  | .twinLaunchAck k step => Sys2Proof.Machine.execTwinLaunchAck k step s
  | .launchUnackTimeout k => Sys2Proof.Machine.execLaunchUnackTimeout k s
  | .aggLaunchReceive n p m => Sys2Proof.Machine.execAggLaunchReceive n p m s
  | .finalWaitEnd n k => Sys2Proof.Machine.execFinalWaitEnd n k s
  | .launchRepeat n k => Sys2Proof.Machine.execLaunchRepeat n k s
  | .stragReq v => Sys2Proof.Machine.execStragReq v s
  | .stragListDone reports ok => Sys2Proof.Machine.execStragListDone reports ok s
  | .slotPulse q => Sys2Proof.Machine.execSlotPulse q s
  | .entryIssue q e ecc => Sys2Proof.Machine.execEntryIssue q e ecc s
  | .entryComplete q e => Sys2Proof.Machine.execEntryComplete q e s
  | .clockStretch die sent received both => Sys2Proof.Machine.execClockStretch die sent received both s
  | .baleIngress p m => Sys2Proof.Machine.execBaleIngress p m s
  | .updBaleApply u bale ue => Sys2Proof.Machine.execUpdBaleApply u bale ue s
  | .updResume u => Sys2Proof.Machine.execUpdResume u s
  | .circuitSet k => Sys2Proof.Machine.execCircuitSet k s
  | .circuitFail g => Sys2Proof.Machine.execCircuitFail g s
  | .circuitRelease k => Sys2Proof.Machine.execCircuitRelease k s
  | .bankOwnerWrite die b v => Sys2Proof.Machine.execBankOwnerWrite die b v s
  | .clearReq die v => Sys2Proof.Machine.execClearReq die v s
  | .bankClearDone die b => Sys2Proof.Machine.execBankClearDone die b s
  | .bankApertureAccess die off size acc => Sys2Proof.Machine.execBankApertureAccess die off size acc s
  | .stackPatrolScrub stack ce ues => Sys2Proof.Machine.execStackPatrolScrub stack ce ues s
  | .partitionScrubDone die first => Sys2Proof.Machine.execPartitionScrubDone die first s
  | .tallySignal die v => Sys2Proof.Machine.execTallySignal die v s
  | .tallySet die v => Sys2Proof.Machine.execTallySet die v s
  | .tallyClearErr die v => Sys2Proof.Machine.execTallyClearErr die v s
  | .tallyClear die v => Sys2Proof.Machine.execTallyClear die v s
  | .signalArrival src ref => Sys2Proof.Machine.execSignalArrival src ref s
  | .tallyClearAck ref => Sys2Proof.Machine.execTallyClearAck ref s
  | .gateArrive die g e => Sys2Proof.Machine.execGateArrive die g e s
  | .gateCancel die g => Sys2Proof.Machine.execGateCancel die g s
  | .dumpReq die v => Sys2Proof.Machine.execDumpReq die v s
  | .tallyDumpDone die ok => Sys2Proof.Machine.execTallyDumpDone die ok s
  | .dmaStart die e desc => Sys2Proof.Machine.execDmaStart die e desc s
  | .dmaBurst die e data ends => Sys2Proof.Machine.execDmaBurst die e data ends s
  | .dmaDescDone die e next => Sys2Proof.Machine.execDmaDescDone die e next s
  | .dmaPreempt die e => Sys2Proof.Machine.execDmaPreempt die e s
  | .dmaPreemptStop die e => Sys2Proof.Machine.execDmaPreemptStop die e s
  | .dmaRestart die e desc => Sys2Proof.Machine.execDmaRestart die e desc s
  | .load v => Sys2Proof.Machine.execLoad v s
  | .cacheLoad v => Sys2Proof.Machine.execCacheLoad v s
  | .discard v => Sys2Proof.Machine.execDiscard v s
  | .teardown v => Sys2Proof.Machine.execTeardown v s
  | .cacheDrop v => Sys2Proof.Machine.execCacheDrop v s
  | .loaderDequeue => Sys2Proof.Machine.execLoaderDequeue s
  | .almLoadDone got => Sys2Proof.Machine.execAlmLoadDone got s
  | .almCommit v => Sys2Proof.Machine.execAlmCommit v s
  | .prepareVotesDone part => Sys2Proof.Machine.execPrepareVotesDone part s
  | .commitActivate part acks => Sys2Proof.Machine.execCommitActivate part acks s
  | .activateTimeout part => Sys2Proof.Machine.execActivateTimeout part s
  | .commitCancel v => Sys2Proof.Machine.execCommitCancel v s
  | .almKeyProg v => Sys2Proof.Machine.execAlmKeyProg v s
  | .almRevoke v => Sys2Proof.Machine.execAlmRevoke v s
  | .helloSend n p => Sys2Proof.Machine.execHelloSend n p s
  | .helloReceive n p m => Sys2Proof.Machine.execHelloReceive n p m s
  | .neighbourLost n p => Sys2Proof.Machine.execNeighbourLost n p s
  | .frameIngress p noBuffer m => Sys2Proof.Machine.execFrameIngress p noBuffer m s
  | .learnPop die => Sys2Proof.Machine.execLearnPop die s
  | .tcamLock die v => Sys2Proof.Machine.execTcamLock die v s
  | .tcamUnlock die v => Sys2Proof.Machine.execTcamUnlock die v s
  | .tcamAbandon die v => Sys2Proof.Machine.execTcamAbandon die v s
  | .tcamReq die v => Sys2Proof.Machine.execTcamReq die v s
  | .tcamLoadDone die got => Sys2Proof.Machine.execTcamLoadDone die got s
  | .spillOn p cls => Sys2Proof.Machine.execSpillOn p cls s
  | .spillOff p cls => Sys2Proof.Machine.execSpillOff p cls s
  | .spillReport p m => Sys2Proof.Machine.execSpillReport p m s
  | .heartbeatSend => Sys2Proof.Machine.execHeartbeatSend s
  | .heartbeatReceive mode primary epoch chip is700 mark => Sys2Proof.Machine.execHeartbeatReceive mode primary epoch chip is700 mark s
  | .hbTimeout => Sys2Proof.Machine.execHbTimeout s
  | .probeSend => Sys2Proof.Machine.execProbeSend s
  | .probeAnswer path => Sys2Proof.Machine.execProbeAnswer path s
  | .probeWait => Sys2Proof.Machine.execProbeWait s
  | .mirrorUpdate input => Sys2Proof.Machine.execMirrorUpdate input s
  | .rootTakeover => Sys2Proof.Machine.execRootTakeover s
  | .soloNoticeReceive lost alts retire => Sys2Proof.Machine.execSoloNoticeReceive lost alts retire s
  | .convoyLossReceive pos total => Sys2Proof.Machine.execConvoyLossReceive pos total s
  | .parityDelta src set bale frame frames delta => Sys2Proof.Machine.execParityDelta src set bale frame frames delta s
  | .parityAck holder set bale => Sys2Proof.Machine.execParityAck holder set bale s
  | .rebuildDone bytes data => Sys2Proof.Machine.execRebuildDone bytes data s
  | .admitStart key => Sys2Proof.Machine.execAdmitStart key s
  | .admitCompat key => Sys2Proof.Machine.execAdmitCompat key s
  | .demotePartner => Sys2Proof.Machine.execDemotePartner s
  | .cancelAdmit => Sys2Proof.Machine.execCancelAdmit s
  | .rehNow drill => Sys2Proof.Machine.execRehNow drill s
  | .admitTrackReached => Sys2Proof.Machine.execAdmitTrackReached s
  | .restoreDone bytes data => Sys2Proof.Machine.execRestoreDone bytes data s
  | .compatBistDone pass => Sys2Proof.Machine.execCompatBistDone pass s
  | .compatStreamDone data => Sys2Proof.Machine.execCompatStreamDone data s
  | .rehDue => Sys2Proof.Machine.execRehDue s
  | .drillEnd passed => Sys2Proof.Machine.execDrillEnd passed s
  | .rehStarved => Sys2Proof.Machine.execRehStarved s
  | .classWindowClose die block inst cls data0 => Sys2Proof.Machine.execClassWindowClose die block inst cls data0 s
  | .scoreDecay => Sys2Proof.Machine.execScoreDecay s
  | .budgetLapse => Sys2Proof.Machine.execBudgetLapse s
  | .expelNow => Sys2Proof.Machine.execExpelNow s
  | .clearExpelled => Sys2Proof.Machine.execClearExpelled s
  | .scoreClear => Sys2Proof.Machine.execScoreClear s
  | .swEvent v => Sys2Proof.Machine.execSwEvent v s
  | .logExport => Sys2Proof.Machine.execLogExport s
  | .logExportDone failed => Sys2Proof.Machine.execLogExportDone failed s
  | .logClear => Sys2Proof.Machine.execLogClear s
  | .supplyDipDetect die mv => Sys2Proof.Machine.execSupplyDipDetect die mv s
  | .dipEnd die => Sys2Proof.Machine.execDipEnd die s
  | .dipVerifyResult die tree bale step d => Sys2Proof.Machine.execDipVerifyResult die tree bale step d s
  | .dipVerifyTimeout die tree bale step => Sys2Proof.Machine.execDipVerifyTimeout die tree bale step s
  | .healthSend n p => Sys2Proof.Machine.execHealthSend n p s
  | .healthReceive n p m => Sys2Proof.Machine.execHealthReceive n p m s
  | .krefLoss die => Sys2Proof.Machine.execKrefLoss die s
  | .krefRelock die => Sys2Proof.Machine.execKrefRelock die s
  | .oscLoss => Sys2Proof.Machine.execOscLoss s
  | .oscReturn => Sys2Proof.Machine.execOscReturn s
  | .fstepChangeStart die idle => Sys2Proof.Machine.execFstepChangeStart die idle s
  | .fstepChangeDone die => Sys2Proof.Machine.execFstepChangeDone die s
  | .pwrCap v => Sys2Proof.Machine.execPwrCap v s
  | .condFence b v => Sys2Proof.Machine.execCondFence b v s
  | .overCap w => Sys2Proof.Machine.execOverCap w s
  | .tjMeasure die tj mv dieW pkgW load => Sys2Proof.Machine.execTjMeasure die tj mv dieW pkgW load s
  | .supplyResetExcursion die => Sys2Proof.Machine.execSupplyResetExcursion die s
  | .pkgRstN => Sys2Proof.Machine.execPkgRstN s
  | .coldReset v => Sys2Proof.Machine.execColdReset v s
  | .warmReset v => Sys2Proof.Machine.execWarmReset v s
  | .partitionReset part => Sys2Proof.Machine.execPartitionReset part s
  | .engineReset die e => Sys2Proof.Machine.execEngineReset die e s
  | .resetDone => Sys2Proof.Machine.execResetDone s
  | .sscOff v => Sys2Proof.Machine.execSscOff v s
  | .powerGood => Sys2Proof.Machine.execPowerGood s
  | .startupStageEnd fault d => Sys2Proof.Machine.execStartupStageEnd fault d s
  | .vauxLow low => Sys2Proof.Machine.execVauxLow low s
  | .irqAck v => Sys2Proof.Machine.execIrqAck v s
  | .msixMessage vec => Sys2Proof.Machine.execMsixMessage vec s
  | .snap v => Sys2Proof.Machine.execSnap v s
  | .snapLatch die => Sys2Proof.Machine.execSnapLatch die s
  | .snapDieTimeout die => Sys2Proof.Machine.execSnapDieTimeout die s
  | .pcieFlr c => Sys2Proof.Machine.execPcieFlr c s
  | .brownoutRelease die => Sys2Proof.Machine.execBrownoutRelease die s
  | .circuitSetComplete g => Sys2Proof.Machine.execCircuitSetComplete g s
  | .launchTReached n k => Sys2Proof.Machine.execLaunchTReached n k s

end Sys2Proof.Machine
end

