-- ==== Sys2Proof/Machine/Tick.lean ====
section
/-! DEFINITION. What the block does in one cycle of the keel's 1.25 GHz timing clock when no command waits (log entry 1): the
counters run (R26, R28, R41), a slew is spent (R72), and every egress port sends a frame (R358). -/

namespace Sys2Proof.Machine

/-- One cycle of a node's counter (R26, R28, R41, R72): a slew in progress offsets the addend. -/
def clockCycle (c : Clock) : Clock :=
  let d := slewOf c
  { c with now := fabAdd c.now (c.addend.toNat + d), moved := some (c.addend.toNat + d).toNat, slew := c.slew - d
           slewed := c.slewed + d, pe := c.pe + 1 }

/-- Cycles of the Evxus' timing clock: the edges of the host clock in them (R143), and the counter, which stands while ev_refclk is
absent (R153). -/
def evCycles : Nat → State → State
  | 0, s => s
  | k + 1, s => evCycles k (whenDo s.ev.refclkOk (modClk .evxus clockCycle) (whenDo s.ev.hclk busCycle s))

/-- The priority of a class at egress: 1 CTRL, 2 SCHED, 3 MGMT, 4 BULK (R358). -/
def clsPrio (c : Nat) : Nat := if c = 1 then 1 else if c = 2 then 2 else if c = 7 then 3 else 4

/-- The BULK class to serve, of classes 3 to 6 with frames queued: the one whose turn it is until it has sent its weight, then the
next (R358). -/
def bulkTurn (w : Word) (e : Egress) (waiting : List Nat) : Nat × Nat :=
  if waiting.contains (3 + e.turn) ∧ e.sent < bits w (8 * e.turn) 8 then (e.turn, e.sent)
  else (((List.range 4).map (fun i => (e.turn + 1 + i) % 4)).find? (fun c => waiting.contains (3 + c)) |>.getD e.turn, 0)

/-- May a class be sent at a port: SCHED needs no credits, the others do (R358); what the neighbour grants is free (log entry 63). -/
def credited (k p c : Nat) : Bool := c == 2 || Config.creditOk k p c

/-- The class that a port serves next, and its turn among the BULK classes; none when nothing is queued that has credits (R358). A SPLIT
port carries neither SCHED nor BULK: what was queued there before waits (R367). -/
def egressPick (w : Word) (k p : Nat) (split : Bool) (e : Egress) : Option (Nat × Nat × Nat) :=
  let waiting := (e.queue.map (fun f => f.cls)).filter (fun c => credited k p c && !(split && isFenced c))
  if waiting.contains 1 then some (1, e.turn, e.sent)
  else if waiting.contains 2 then some (2, e.turn, e.sent)
  else if waiting.contains 7 then some (7, e.turn, e.sent)
  else if waiting.isEmpty then none
  else
    let (c, n) := bulkTurn w e waiting
    some (3 + c, c, n + 1)

/-- A port of the package whose link is up sends the oldest frame of the class it serves (R358, R360); a MISWIRE one forwards none
(R356). -/
def egressSend (k p : Nat) (s : State) : State :=
  let e := tget {} s.rt.egress p
  match egressPick (rd s (A.BULK_WEIGHT (portDie p - 1))) k p (portSplit s p) e with
  | none => s
  | some (c, t, n) =>
    match e.queue.find? (fun f => f.cls == c) with
    | none => s
    | some f =>
      if ¬ (port s .keel p).linkUp ∨ ¬ portMoves s p ∨ (nbrOf s .keel p).miswire then s
      else emit (.frame p f.raw) (modRt (fun r => { r with egress := tset {} r.egress p { e with queue := e.queue.erase f, turn := t, sent := n } }) s)

/-- What is back-pressured at an egress port: the BULK frames queued without credits, by class and ingress port (R227, R369). -/
def heldAt (k p : Nat) (e : Egress) : List Nat :=
  ((e.queue.filter (fun f => isBulk f.cls && !credited k p f.cls)).map (fun f => heldKey f.cls f.ingress)).eraseDups

/-- Levels with BULK frames that are back-pressured: die place and level (R227). -/
def heldLevels (s : State) : List (Nat × Nat) :=
  ((s.rt.egress.filter (fun e => !e.2.held.isEmpty)).map (fun e => (portDie e.1 - 1, portLevel s e.1))).eraseDups

/-- Since when a port's BULK traffic is back-pressured, and its queues are below half their credit limits (R369). -/
def egressNote (k p : Nat) (s : State) : State :=
  let e := tget {} s.rt.egress p
  let low (i : Nat) : Option Nat :=
    if 2 * queuedBytes s p (3 + i) < Config.creditLimit p (3 + i) then some ((e.low.getD i none).getD (pe s .keel)) else none
  modRt (fun r => { r with egress := tset {} r.egress p { e with
    held := (heldAt k p e).foldl (fun t h => tput h (tget (pe s .keel) e.held h) t) [], low := (List.range 4).map low } }) s

/-- BP_CYC of a level counts the cycles of the route-die clock in which back-pressure holds unscheduled traffic (R227, R239); how
many of them fall in a cycle of the timing clock is left open (log entry 11). -/
def holdCycles (k : Nat) (s : State) : State :=
  forAll (heldLevels s) (fun x s => bump64 (A.BP_CYC x.1 x.2) (Config.routeTicks k) s) s

/-- One cycle with no command waiting. The keel's counter freewheels without its oscillator (R423), and stands once the keel
die has stopped its clocks (R428); that of the Evxus stands
while ev_refclk is absent (R153), and advances by cycles of its own (log entry 5). -/
def tick (s : State) : State :=
  let k := Config.evTicks s.free
  let s1 := whenDo (s.clks.powered && nodeRuns s .keel) (modClk .keel clockCycle) { s with free := s.free + 1 }
  let s2 := evCycles k s1
  let s3 := forAll (s2.rt.egress.map (fun e => e.1)) (fun p s4 => egressNote s.free p (egressSend s.free p s4)) s2
  settle (holdCycles s.free s3)

end Sys2Proof.Machine
end

