-- ==== Sys2Proof/Machine/Frame.lean ====
section
/-! DEFINITION. The parts of the state, and which parts the effect of each command may change, settling apart: what statements
of the form "and nothing else changes" are made of. -/

namespace Sys2Proof.Machine

/-- The register blocks of R437, and the Evxus window. -/
inductive RegBlock where
  | pkg | host | err | hlth | twin | time | servo | ref | pps | tic | etx | ptp | step | sch | alm
  | clk | rte | tcam | swc | red | qnt | upd | dgs | bank | seg | tally | gate | dma | ev
  deriving DecidableEq, Repr

/-- The block of a register in a die-local window, by its offset there (R437). -/
def windowBlock (route : Bool) (o : Nat) : RegBlock :=
  if route then (match o / 0x100000 with | 0 => .rte | 1 => .tcam | _ => .swc)
  else match o / 0x10000 with
    | 0 | 1 => .red | 2 | 3 => .qnt | 4 | 5 => .upd | 6 | 7 => .dgs | 8 | 9 => .bank | 0xA | 0xB => .seg | 0xC => .tally
    | 0xD => .gate
    | _ => .dma

/-- The block of a register address (R437, log entry 3). -/
def regBlock (a : Nat) : RegBlock :=
  if evLo ≤ a then .ev
  else if 0x01000000 ≤ a then
    let d := (a - 0x01000000) / 0x400000
    windowBlock (decide (1 ≤ d) && decide (d ≤ 4)) ((a - 0x01000000) % 0x400000)
  else match a / 0x10000 with
    | 0 => .pkg | 1 => .host | 2 => .err | 3 => .hlth | 4 => .twin | 0x10 => .time | 0x11 => .servo | 0x12 => .ref
    | 0x13 => .pps | 0x14 => .tic | 0x15 => .etx | 0x16 => .ptp | 0x20 => .step | 0x21 => .sch | 0x30 => .alm | _ => .clk

/-- A part of the state. -/
inductive Part where
  /-- the counter of either node, and what stands beside it -/
  | clk
  /-- intercalations -/
  | icl
  /-- the servos -/
  | svo
  /-- timing ports and taps -/
  | ports
  /-- sources and selection -/
  | ref
  /-- edge ports -/
  | ptp
  /-- pulse outputs -/
  | outs
  /-- interval channels -/
  | tics
  /-- the rest of the Evxus block -/
  | ev
  /-- muster groups of the keel -/
  | mus
  /-- muster groups of the Evxus -/
  | evMus
  /-- sequencers -/
  | seqs
  /-- waystation records -/
  | ws
  /-- parameter sets -/
  | psets
  /-- engines -/
  | engines
  /-- SRAM banks -/
  | banks
  /-- segments -/
  | segs
  /-- tallies -/
  | tallies
  /-- gates -/
  | gates
  /-- DMA engines -/
  | dmas
  /-- SRAM bytes -/
  | sram
  /-- stack bytes -/
  | stack
  /-- readiness, training, scrubs, faults not acted on -/
  | rest
  /-- crossings of a clock domain -/
  | cross
  /-- signals on their way -/
  | sigs
  /-- dumps that run -/
  | dumps
  /-- the configuration in force -/
  | cfg
  /-- the almanac loader -/
  | alm
  /-- neighbour records -/
  | nbrs
  /-- TCAM and learning -/
  | routes
  /-- by-pass groups -/
  | byps
  /-- egress queues -/
  | egress
  /-- frames trapped to the keel -/
  | traps
  /-- ingress in the current millisecond -/
  | peaks
  /-- the pair and the convoy -/
  | tw
  /-- logs, windows and score -/
  | hl
  /-- tickets, bus, interrupts, snapshots -/
  | host
  /-- clocks, supplies, resets -/
  | clks
  /-- staged words -/
  | staged
  /-- what has been sent -/
  | out
  /-- the count of free values -/
  | free
  /-- the stored bits of the registers of a block -/
  | reg (b : RegBlock)
  deriving DecidableEq, Repr

/-- A part is the same in two states. -/
def Part.same (s t : State) : Part → Prop
  | .clk => t.keel.clk = s.keel.clk ∧ t.evx.clk = s.evx.clk
  | .icl => t.keel.icl = s.keel.icl ∧ t.evx.icl = s.evx.icl
  | .svo => t.keel.svo = s.keel.svo ∧ t.evx.svo = s.evx.svo
  | .ports => t.keel.ports = s.keel.ports ∧ t.evx.ports = s.evx.ports
  | .ref => t.keel.ref = s.keel.ref ∧ t.evx.ref = s.evx.ref
  | .ptp => t.ptp = s.ptp
  | .outs => t.outs = s.outs
  | .tics => t.tics = s.tics
  | .ev => t.ev = s.ev
  | .mus => t.mus = s.mus
  | .evMus => t.evMus = s.evMus
  | .seqs => t.die.seqs = s.die.seqs
  | .ws => t.die.ws = s.die.ws
  | .psets => t.die.psets = s.die.psets
  | .engines => t.die.engines = s.die.engines
  | .banks => t.die.banks = s.die.banks
  | .segs => t.die.segs = s.die.segs
  | .tallies => t.die.tallies = s.die.tallies
  | .gates => t.die.gates = s.die.gates
  | .dmas => t.die.dmas = s.die.dmas
  | .sram => t.die.sram = s.die.sram
  | .stack => t.die.stack = s.die.stack
  | .rest => t.die.ready = s.die.ready ∧ t.die.trained = s.die.trained ∧
    t.die.scrubs = s.die.scrubs ∧ t.die.fresh = s.die.fresh
  | .cross => t.die.crossings = s.die.crossings
  | .sigs => t.die.sigs = s.die.sigs
  | .dumps => t.die.dumps = s.die.dumps
  | .cfg => t.cfg = s.cfg
  | .alm => t.alm = s.alm
  | .nbrs => t.rt.nbrs = s.rt.nbrs
  | .routes => t.rt.dies = s.rt.dies
  | .byps => t.rt.byps = s.rt.byps
  | .egress => t.rt.egress = s.rt.egress
  | .traps => t.rt.mgmt = s.rt.mgmt
  | .peaks => t.rt.peaks = s.rt.peaks
  | .tw => t.tw = s.tw
  | .hl => t.hl = s.hl
  | .host => t.host = s.host
  | .clks => t.clks = s.clks
  | .staged => t.staged = s.staged
  | .out => t.out = s.out
  | .free => t.free = s.free
  | .reg b => ∀ a, regBlock a = b → rd t a = rd s a

/-- The registers of every block. -/
def allRegs : List Part :=
  [.pkg, .host, .err, .hlth, .twin, .time, .servo, .ref, .pps, .tic, .etx, .ptp, .step, .sch, .alm,
   .clk, .rte, .tcam, .swc, .red, .qnt, .upd, .dgs, .bank, .seg, .tally, .gate, .dma, .ev].map .reg

/-- Every part. -/
def everything : List Part :=
  [.clk, .icl, .svo, .ports, .ref, .ptp, .outs, .tics, .ev, .mus, .evMus, .seqs, .ws, .psets,
   .engines, .banks, .segs, .tallies, .gates, .dmas, .sram, .stack, .rest, .cross, .sigs, .dumps, .cfg, .alm, .nbrs, .routes,
   .byps, .egress, .traps, .peaks, .tw, .hl, .host, .clks, .staged, .out, .free] ++ allRegs

/-- The parts that the effect of a command may change. What the command leaves to be settled (R211, R305, R308, R405 to R410,
R448) comes after, and is no part of this. -/
def touches : Instr → List Part
  | .registerWrite _ _ _ | .evReady | .supplyResetExcursion _ | .pkgRstN | .coldReset _ | .warmReset _ | .vauxLow _ =>
    everything
  | .rcCounterRead _ | .lowWordRead _ | .ft128Word0Read _ =>
    [.svo, .ev, .routes, .hl, .host, .out] ++ allRegs
  | .expertUnlock _ _ | .swEvent _ =>
    [.hl, .host, .out, .reg .err, .reg .hlth]
  | .timeEpochSet _ =>
    [.clk, .hl, .out, .reg .err, .reg .hlth, .reg .time]
  | .epochLoad _ =>
    [.clk, .icl, .ref, .tics, .seqs, .ws, .engines, .tallies, .dmas, .stack, .rest, .cross, .hl, .host, .out] ++
      allRegs
  | .epochNopps | .dipEnd _ =>
    [.clk, .hl, .out, .reg .err, .reg .hlth]
  | .unsureStepWindowEnd _ | .unsureDipWindowEnd _ | .timeUncUpdate _ | .slewSpent _ =>
    [.clk]
  | .intercalApply _ =>
    [.clk, .icl, .tics, .host, .reg .time, .reg .ev]
  | .syncSend _ _ _ =>
    [.svo, .ports, .tics, .host, .out, .reg .tic]
  | .syncReceive _ _ _ _ | .respReceive _ _ _ =>
    [.clk, .icl, .svo, .ports, .ref, .tics, .hl, .host, .out, .free] ++ allRegs
  | .reqSend _ _ _ =>
    [.ports, .tics, .host, .out, .reg .tic]
  | .reqReceive _ _ _ _ =>
    [.ports, .tics, .hl, .host, .out, .free] ++ allRegs
  | .respSend _ _ =>
    [.ports, .out]
  | .healthSend _ _ =>
    [.ports, .ev, .nbrs, .out]
  | .exchangeTimeout _ _ | .syncMissing _ _ =>
    [.ports] ++ allRegs
  | .delayGateReset _ _ =>
    [.ports, .hl, .out, .reg .err, .reg .hlth, .reg .etx, .reg .ev]
  | .lossOfActivity _ _ =>
    [.clk, .svo, .ports, .ref, .hl, .out] ++ allRegs
  | .acqSlow _ | .settleSlow _ =>
    [.hl, .out, .reg .err, .reg .hlth, .reg .servo, .reg .ev]
  | .servoRestart _ =>
    [.clk, .svo, .ref, .ev, .hl, .out, .reg .err, .reg .hlth, .reg .servo, .reg .ref, .reg .ev]
  | .servoModeOpen _ | .servoModeClosed _ =>
    [.clk, .svo, .ev, .reg .servo, .reg .ev]
  | .timeAddend _ _ =>
    [.clk, .svo, .ev, .reg .time, .reg .ev]
  | .slew _ _ =>
    [.clk, .ev]
  | .servoMeasPop _ =>
    [.svo, .ev, .host, .reg .servo, .reg .ev]
  | .jumpAllow _ =>
    [.svo, .ev, .reg .sch, .reg .ev]
  | .jumpDeferRelease _ =>
    [.svo]
  | .pullReq _ =>
    [.icl, .ref, .out]
  | .intercalateAnnounce =>
    [.icl, .ports, .out]
  | .intercalateReceive _ _ _ =>
    [.clk, .icl, .ports, .tics, .hl, .host, .out, .free, .reg .err, .reg .hlth, .reg .time, .reg .tic, .reg .etx,
      .reg .ev]
  | .intercalLateUncEnd _ =>
    [.clk, .icl]
  | .linkUp _ _ =>
    [.clk, .svo, .ports, .ref, .ev, .tw, .hl, .out] ++ allRegs
  | .tapLatWrite _ _ _ =>
    [.clk, .svo, .ports, .ref, .ev, .hl, .out] ++ allRegs
  | .asymCalDone _ _ _ =>
    [.ports, .ev, .hl, .host, .out, .free] ++ allRegs
  | .linkDown _ _ =>
    [.clk, .svo, .ports, .ref, .ev, .tw, .hl, .host, .out, .free] ++ allRegs
  | .asymWrite _ _ _ =>
    [.ports, .ev, .hl, .out] ++ allRegs
  | .calStart _ _ =>
    [.clk, .svo, .ports, .ref, .ev, .hl, .host, .out] ++ allRegs
  | .ptpEventTx _ _ _ _ =>
    [.ptp, .out, .reg .ptp]
  | .ptpEventRx _ _ _ =>
    [.ptp, .out]
  | .ptpAnnounceRx _ _ | .ptpTxqFind _ _ =>
    [.ptp]
  | .txqStale _ =>
    [.ptp, .reg .ptp]
  | .ppsPulse _ _ =>
    [.clk, .icl, .svo, .ref, .tics, .hl, .host, .out] ++ allRegs
  | .pinPhaseMeasure _ _ =>
    [.clk, .icl, .svo, .ref, .tics, .hl, .host, .out, .reg .err, .reg .hlth, .reg .time, .reg .servo, .reg .ref,
      .reg .ev]
  | .ppsWindowEmpty _ | .freqGapLoss _ =>
    [.clk, .svo, .ports, .ref, .hl, .out] ++ allRegs
  | .freqActivityRestored _ =>
    [.ref]
  | .monitorUpdate _ _ _ | .tableApply _ | .selForce _ | .pinModeWrite _ _ =>
    [.clk, .svo, .ports, .ref, .hl, .out, .reg .err, .reg .hlth, .reg .time, .reg .servo, .reg .ref, .reg .ev]
  | .warmForce _ =>
    [.ref, .hl, .out, .reg .host, .reg .err, .reg .hlth, .reg .ref, .reg .ev]
  | .ovenWarmLoss | .holdAged _ =>
    [.ref, .hl, .out, .reg .err, .reg .hlth, .reg .ref, .reg .ev]
  | .outputEdge _ =>
    [.outs, .out, .reg .pps]
  | .outConfigApply _ =>
    [.outs]
  | .ticStart _ =>
    [.tics, .hl, .host, .out, .reg .host, .reg .err, .reg .hlth, .reg .tic]
  | .ticCalibrationDone _ _ _ _ _ =>
    [.tics, .hl, .host, .out, .reg .err, .reg .hlth, .reg .tic]
  | .ticStartEvent _ _ | .ticStopEvent _ _ =>
    [.tics, .host, .reg .tic]
  | .ticWindowClose _ =>
    [.tics, .reg .tic]
  | .ticTimeout _ | .ticAbort _ =>
    [.tics, .host]
  | .ticLatch _ | .ticPeriodicRecal _ =>
    [.tics]
  | .launchTapFire _ =>
    [.tics, .mus, .host, .out, .reg .tic]
  | .ftSec =>
    [.tics, .host, .out, .reg .tic]
  | .evRstN =>
    [.clk, .icl, .svo, .ports, .ref, .ev, .evMus, .host, .staged, .out, .reg .ev]
  | .softRst | .launchLineAssert _ _ =>
    [.ev, .out, .reg .ev]
  | .pageCommit | .pageCommitApply =>
    [.clk, .svo, .ports, .ref, .ev, .hl, .staged, .out] ++ allRegs
  | .evUnlock _ =>
    [.ev]
  | .hclkPresent _ =>
    [.ev, .out]
  | .evtPop =>
    [.ev, .host]
  | .hclkLoss | .wakeTimer | .tapOrphan _ =>
    [.ev, .reg .ev]
  | .wakeAt _ =>
    [.ev, .host, .reg .ev]
  | .evLaunchReceive _ _ =>
    [.tics, .ev, .hl, .host, .out, .free] ++ allRegs
  | .launchPulseEnd _ | .launchClr _ =>
    [.ev, .out]
  | .eventEdge _ _ _ | .arrive _ =>
    [.ports, .ev, .out, .reg .ev]
  | .tapTxSof _ _ _ =>
    [.ports, .ev, .out]
  | .tapRxSof _ _ _ =>
    [.clk, .icl, .svo, .ports, .ref, .tics, .ev, .mus, .evMus, .seqs, .ws, .psets, .engines, .tallies, .dmas, .stack,
      .rest, .cross, .alm, .nbrs, .tw, .hl, .host, .out, .free] ++ allRegs
  | .refclkLoss =>
    [.clk, .ev, .free, .reg .ev]
  | .evPllRelock =>
    [.clk, .svo, .ev, .reg .ev]
  | .arriveReceive _ _ _ _ =>
    [.ports, .tics, .mus, .evMus, .ws, .hl, .host, .out, .free] ++ allRegs
  | .aggPeriod _ _ | .launchRepeat _ _ =>
    [.ports, .mus, .evMus, .out]
  | .adjArrive _ =>
    [.ports, .mus, .evMus, .hl, .out] ++ allRegs
  | .launchDecide _ | .musterTimeout _ | .forceDegrade _ | .twinLaunchAck _ _ | .launchUnackTimeout _ =>
    [.clk, .icl, .svo, .ports, .ref, .ev, .mus, .evMus, .seqs, .ws, .psets, .engines, .tallies, .dmas, .stack, .rest,
      .cross, .alm, .tw, .hl, .host, .out, .free] ++ allRegs
  | .aggLaunchReceive _ _ _ =>
    [.clk, .icl, .svo, .ports, .ref, .tics, .ev, .mus, .evMus, .seqs, .ws, .psets, .engines, .tallies, .dmas, .stack,
      .rest, .cross, .alm, .tw, .hl, .host, .out, .free] ++ allRegs
  | .finalWaitEnd _ _ =>
    [.ports, .mus, .evMus, .ws, .out] ++ allRegs
  | .stragReq _ =>
    [.mus, .hl, .host, .out, .reg .host, .reg .err, .reg .hlth, .reg .step]
  | .stragListDone _ _ =>
    [.mus, .host, .out, .free, .reg .host]
  | .slotPulse _ =>
    [.seqs, .ws, .psets, .engines, .banks, .tallies, .gates, .dmas, .stack, .rest, .cross, .sigs, .egress, .tw, .hl,
      .host, .out, .free] ++ allRegs
  | .entryIssue _ _ _ =>
    [.seqs, .ws, .engines, .banks, .tallies, .gates, .dmas, .stack, .rest, .hl, .host, .out] ++ allRegs
  | .entryComplete _ _ =>
    [.seqs, .ws, .psets, .engines, .banks, .tallies, .dmas, .stack, .rest, .cross, .sigs, .egress, .hl, .host, .out]
      ++ allRegs
  | .clockStretch _ _ _ _ =>
    [.seqs, .cross, .reg .sch]
  | .baleIngress _ _ =>
    [.ws, .sram, .stack, .egress, .peaks, .hl, .out] ++ allRegs
  | .updBaleApply _ _ _ =>
    [.psets, .engines, .stack, .rest, .sigs, .tw, .hl, .out] ++ allRegs
  | .updResume _ =>
    [.psets, .engines, .hl, .out, .reg .err, .reg .hlth]
  | .circuitSet _ | .circuitRelease _ =>
    [.byps, .out]
  | .circuitFail _ =>
    [.byps, .reg .swc]
  | .bankOwnerWrite _ _ _ | .clearReq _ _ =>
    [.banks, .hl, .out, .reg .err, .reg .hlth, .reg .bank]
  | .bankClearDone _ _ =>
    [.banks, .sram, .hl, .out, .reg .err, .reg .hlth]
  | .bankApertureAccess _ _ _ _ =>
    [.banks, .sram, .hl, .host, .out, .free, .reg .host, .reg .err, .reg .hlth, .reg .bank]
  | .stackPatrolScrub _ _ _ =>
    [.hl, .out, .reg .err, .reg .hlth, .reg .seg]
  | .partitionScrubDone _ _ =>
    [.segs, .stack, .rest, .hl, .out, .reg .err, .reg .hlth, .reg .seg]
  | .tallySignal _ _ | .dmaStart _ _ _ | .dmaRestart _ _ _ =>
    [.engines, .tallies, .gates, .dmas, .stack, .rest, .hl, .host, .out] ++ allRegs
  | .tallyClear _ _ =>
    [.engines, .tallies, .dmas, .stack, .rest, .hl, .host, .out] ++ allRegs
  | .tallySet _ _ =>
    [.engines, .tallies, .gates, .dmas, .stack, .rest, .hl, .host, .out] ++ allRegs
  | .tallyClearErr _ _ =>
    [.tallies, .hl, .out] ++ allRegs
  | .signalArrival _ _ =>
    [.engines, .tallies, .gates, .dmas, .stack, .rest, .sigs, .hl, .host, .out] ++ allRegs
  | .tallyClearAck _ =>
    [.tallies]
  | .gateArrive _ _ _ | .gateCancel _ _ =>
    [.engines, .gates, .dmas, .stack, .rest, .hl, .host, .out] ++ allRegs
  | .dumpReq _ _ =>
    [.dumps, .hl, .host, .out, .reg .host, .reg .err, .reg .hlth, .reg .tally]
  | .tallyDumpDone _ _ =>
    [.stack, .dumps, .hl, .host, .out] ++ allRegs
  | .dmaBurst _ _ _ _ =>
    [.engines, .banks, .tallies, .gates, .dmas, .sram, .stack, .rest, .hl, .host, .out] ++ allRegs
  | .dmaDescDone _ _ _ =>
    [.engines, .banks, .tallies, .gates, .dmas, .stack, .rest, .sigs, .hl, .host, .out] ++ allRegs
  | .dmaPreempt _ _ =>
    [.engines, .tallies, .gates, .dmas, .stack, .rest, .hl, .host, .out] ++ allRegs
  | .dmaPreemptStop _ _ =>
    [.engines, .banks, .tallies, .gates, .dmas, .stack, .rest, .sigs, .hl, .host, .out] ++ allRegs
  | .load _ | .cacheLoad _ | .discard _ | .teardown _ | .cacheDrop _ | .almCommit _ =>
    [.alm, .hl, .host, .out, .reg .host, .reg .err, .reg .hlth, .reg .alm]
  | .loaderDequeue =>
    [.stack, .alm, .host, .staged, .out, .reg .alm]
  | .almLoadDone _ =>
    [.stack, .alm, .host, .staged, .reg .host]
  | .prepareVotesDone _ =>
    [.alm, .hl, .host, .out] ++ allRegs
  | .commitActivate _ _ =>
    [.clk, .svo, .ports, .ref, .ev, .mus, .evMus, .seqs, .ws, .psets, .engines, .banks, .segs, .tallies, .gates,
      .dmas, .stack, .rest, .cross, .cfg, .alm, .nbrs, .routes, .byps, .egress, .tw, .hl, .host, .clks, .staged, .out,
      .free] ++ allRegs
  | .activateTimeout _ =>
    [.cfg, .alm, .hl, .host, .clks, .out] ++ allRegs
  | .commitCancel _ =>
    [.alm, .hl, .host, .out, .reg .err, .reg .hlth]
  | .almKeyProg _ =>
    [.alm, .hl, .out, .reg .host, .reg .err, .reg .hlth]
  | .almRevoke _ =>
    [.alm, .hl, .out, .reg .host, .reg .err, .reg .hlth, .reg .alm]
  | .helloSend _ _ =>
    [.ports, .ev, .nbrs, .out]
  | .helloReceive _ _ _ =>
    [.clk, .svo, .ports, .ref, .tics, .ev, .nbrs, .hl, .host, .out, .free] ++ allRegs
  | .neighbourLost _ _ =>
    [.ev, .nbrs] ++ allRegs
  | .frameIngress _ _ _ =>
    [.ws, .sram, .stack, .routes, .egress, .traps, .peaks, .hl, .out] ++ allRegs
  | .learnPop _ =>
    [.routes, .hl, .host, .out, .reg .err, .reg .hlth]
  | .tcamLock _ _ | .tcamAbandon _ _ =>
    [.routes, .hl, .out, .reg .err, .reg .hlth]
  | .tcamUnlock _ _ =>
    [.routes, .hl, .out, .reg .err, .reg .hlth, .reg .tcam]
  | .tcamReq _ _ =>
    [.routes, .hl, .host, .out, .reg .host, .reg .err, .reg .hlth, .reg .tcam]
  | .tcamLoadDone _ _ =>
    [.routes, .hl, .host, .out, .reg .host, .reg .err, .reg .hlth]
  | .spillOn _ _ | .spillOff _ _ =>
    [.egress, .reg .alm, .reg .rte]
  | .spillReport _ _ =>
    allRegs
  | .heartbeatSend | .hbTimeout | .probeSend =>
    [.tw, .out]
  | .heartbeatReceive _ _ _ _ _ _ =>
    [.seqs, .ws, .engines, .tallies, .dmas, .stack, .rest, .cross, .tw, .hl, .host, .out] ++ allRegs
  | .cancelAdmit =>
    [.tw, .hl, .host, .out, .reg .err, .reg .hlth, .reg .twin]
  | .compatBistDone _ =>
    [.alm, .tw, .hl, .host, .out, .reg .err, .reg .hlth, .reg .twin]
  | .probeAnswer _ | .soloNoticeReceive _ _ _ =>
    [.tw, .hl, .out, .reg .err, .reg .hlth, .reg .twin]
  | .probeWait | .budgetLapse | .expelNow =>
    [.seqs, .ws, .engines, .tallies, .dmas, .stack, .rest, .cross, .tw, .hl, .host, .out] ++ allRegs
  | .mirrorUpdate _ =>
    [.clk, .icl, .svo, .ports, .ref, .ev, .mus, .evMus, .seqs, .ws, .psets, .engines, .tallies, .dmas, .sram, .stack,
      .rest, .cross, .alm, .tw, .hl, .host, .out, .free] ++ allRegs
  | .rootTakeover =>
    [.icl, .ref, .tw, .hl, .out] ++ allRegs
  | .convoyLossReceive _ _ =>
    [.psets, .tw, .hl, .host, .out] ++ allRegs
  | .parityDelta _ _ _ _ _ _ =>
    [.engines, .stack, .rest, .tw, .hl, .out, .reg .err, .reg .hlth, .reg .seg]
  | .rehNow _ =>
    [.tw]
  | .admitTrackReached =>
    [.alm, .tw]
  | .parityAck _ _ _ | .rehDue =>
    [.tw, .out]
  | .rebuildDone _ _ =>
    [.ports, .mus, .evMus, .psets, .engines, .stack, .rest, .tw, .hl, .host, .out] ++ allRegs
  | .admitStart _ | .admitCompat _ =>
    [.tw, .hl, .host, .out, .reg .host, .reg .err, .reg .hlth, .reg .twin]
  | .demotePartner =>
    [.tw, .hl, .out, .reg .err, .reg .hlth, .reg .twin]
  | .restoreDone _ _ =>
    [.engines, .stack, .rest, .tw, .hl, .host, .out, .reg .err, .reg .hlth, .reg .twin, .reg .seg]
  | .compatStreamDone _ =>
    [.engines, .stack, .rest, .tw, .hl, .host, .out, .reg .err, .reg .hlth, .reg .twin, .reg .seg]
  | .drillEnd _ =>
    [.engines, .stack, .rest, .tw, .hl, .out, .reg .err, .reg .hlth, .reg .twin, .reg .seg]
  | .rehStarved =>
    [.hl, .out, .reg .err, .reg .hlth, .reg .twin]
  | .classWindowClose _ _ _ _ _ =>
    [.hl]
  | .scoreDecay =>
    [.hl, .out, .reg .hlth]
  | .clearExpelled | .scoreClear =>
    [.hl, .out, .reg .hlth]
  | .logExport =>
    [.hl, .host, .out, .reg .host, .reg .err, .reg .hlth]
  | .logExportDone _ =>
    [.hl, .host, .out, .reg .host]
  | .logClear =>
    [.hl, .reg .err]
  | .supplyDipDetect _ _ =>
    [.clk, .tics, .hl, .out] ++ allRegs
  | .dipVerifyResult _ _ _ _ _ | .dipVerifyTimeout _ _ _ _ =>
    [.hl, .out, .reg .err, .reg .hlth]
  | .healthReceive _ _ _ =>
    [.tics, .ev, .hl, .host, .out, .free, .reg .err, .reg .hlth, .reg .tic, .reg .etx, .reg .ev]
  | .krefLoss _ =>
    [.clk, .hl, .clks, .out, .reg .err, .reg .hlth, .reg .clk]
  | .krefRelock _ | .powerGood =>
    [.clk, .clks]
  | .oscLoss =>
    [.clk, .ref, .hl, .clks, .out, .reg .err, .reg .hlth, .reg .ref, .reg .clk, .reg .ev]
  | .oscReturn =>
    [.clk, .svo, .clks]
  | .fstepChangeStart _ _ =>
    [.clks, .reg .sch]
  | .fstepChangeDone _ =>
    [.engines, .tallies, .gates, .dmas, .stack, .rest, .tw, .hl, .host, .clks, .out] ++ allRegs
  | .pwrCap _ =>
    [.clks, .reg .sch, .reg .clk]
  | .condFence _ _ =>
    [.clks, .reg .hlth, .reg .sch]
  | .overCap _ =>
    [.hl, .out, .reg .err, .reg .hlth, .reg .clk]
  | .tjMeasure _ _ _ _ _ _ =>
    [.hl, .clks, .out] ++ allRegs
  | .partitionReset _ =>
    [.seqs, .ws, .psets, .engines, .tallies, .gates, .dmas, .stack, .rest, .cross, .alm, .hl, .host, .clks, .staged,
      .out] ++ allRegs
  | .engineReset _ _ =>
    [.seqs, .ws, .psets, .engines, .tallies, .gates, .dmas, .stack, .rest, .cross, .hl, .host, .clks, .out] ++ allRegs
  | .resetDone =>
    [.engines, .clks]
  | .sscOff _ =>
    [.hl, .out, .reg .host, .reg .err, .reg .hlth, .reg .clk]
  | .startupStageEnd _ _ =>
    [.banks, .sram, .rest, .host, .clks, .reg .sch]
  | .irqAck _ | .snapDieTimeout _ =>
    [.host]
  | .msixMessage _ =>
    [.host, .out]
  | .snap _ =>
    [.hl, .host, .out, .reg .pkg, .reg .err, .reg .hlth]
  | .snapLatch _ =>
    [.tics, .host] ++ allRegs
  | .pcieFlr _ =>
    [.host, .reg .host]
  | .brownoutRelease _ =>
    [.engines, .banks, .tallies, .gates, .dmas, .sram, .stack, .rest, .hl, .host, .clks, .out] ++ allRegs
  | .circuitSetComplete _ =>
    [.byps]
  | .launchTReached _ _ =>
    [.mus, .evMus]

/-- The node that a command of the time side or of the musters is sent to, where it is one of the two. -/
def commandNode : Instr → Option Node
  | .unsureStepWindowEnd n | .unsureDipWindowEnd n | .timeUncUpdate n | .intercalApply n | .syncSend n _ _
  | .syncReceive n _ _ _ | .reqSend n _ _ | .reqReceive n _ _ _ | .respSend n _ | .respReceive n _ _
  | .exchangeTimeout n _ | .syncMissing n _ | .delayGateReset n _ | .lossOfActivity n _ | .acqSlow n
  | .settleSlow n | .servoRestart n | .servoModeOpen n | .servoModeClosed n | .timeAddend n _ | .slew n _
  | .slewSpent n | .servoMeasPop n | .jumpAllow n | .jumpDeferRelease n | .intercalateReceive n _ _
  | .intercalLateUncEnd n | .linkUp n _ | .asymCalDone n _ _ | .linkDown n _ | .asymWrite n _ _ | .calStart n _
  | .monitorUpdate n _ _ | .holdAged n | .arriveReceive n _ _ _ | .aggPeriod n _ | .finalWaitEnd n _
  | .launchRepeat n _ | .helloSend n _ | .helloReceive n _ _ | .neighbourLost n _ | .healthSend n _
  | .healthReceive n _ _ | .launchTReached n _ => some n
  | _ => none

end Sys2Proof.Machine
end

