-- ==== Sys2Proof/Safety.lean ====
section
/-! DEFINITION. What a safe step is, the two forms in which a statement says that a command runs to its end, and the four
invariants of the state. -/

namespace Sys2Proof
open Machine

/-- The step from `s` answers a next state. -/
def SafeStep (s : State) : Prop := ∃ t, step s = .next t

/-- The command completes: `exec` answers a next state, of which `P` holds unless low VAUX holds the package in COLD reset (R457). -/
def Completes (c : Instr) (s : State) (P : State → Prop) : Prop := ∃ t, exec c s = .next t ∧ (s.clks.vauxLow = false → P t)

/-- The command completes, and `P` holds of what the command itself leaves: the next state is that, settled. Settling is what
the spec lets follow within the same moment: faults of engines take their course (R211, R305, R308), an expulsion that is due
is carried out (R405 to R410), interrupt levels rise (R448), and while VAUX is low the package goes back to COLD reset (R457). With nothing of that kind left, only the interrupt levels move. -/
def Gives (c : Instr) (s : State) (P : State → Prop) : Prop := ∃ u, exec c s = .next (settle u) ∧ P u

/-- The frame of a bale passes at each of some ports (R347, R353, R356, R367). -/
def baleGoes (s : State) (c : WsCfg) (dx : Nat) (ps : List Nat) (m : Raw) : Bool :=
  ps.all (fun p => portOwned s (baleFrame s c dx p m) p && portMoves s p && !(nbrOf s .keel p).miswire && !portSplit s p)

/-- The egress queues with the frame of a bale behind the queue of each of some ports (R357, R360). -/
def baleQueued (s : State) (c : WsCfg) (dx : Nat) (ps : List Nat) (m : Raw) : Table Egress :=
  ps.foldl (fun q p => tmod {} q p (fun e =>
    let f := frameMake (baleFrame s c dx p m)
    { e with queue := e.queue ++ [⟨2, f.length, f, fromHere⟩] })) s.rt.egress

/-- The stored register bits are in canonical form: addresses strictly rising, no word listed that equals its reset value. -/
def regsWf (t : Table Word) : Bool := tsorted t && t.all (fun e => e.2 != resetOf e.1)

/-- The register store and the two memories are in canonical form. -/
def TablesOk (s : State) : Prop :=
  regsWf s.regs = true ∧ Memory.wf s.die.sram = true ∧ Memory.wf s.die.stack = true

/-- What is of a fixed number has that number: six sources and two virtual references of a node (R90), eight lines and their
bindings (R144, R167), two planes of a group (R175), four BULK classes of an egress port (R358). -/
def ShapesOk (s : State) : Prop :=
  s.keel.ref.srcs.length = 6 ∧ s.evx.ref.srcs.length = 6 ∧ s.keel.ref.bind.length = 2 ∧ s.evx.ref.bind.length = 2 ∧
  s.ev.lines.length = 8 ∧ s.ev.bound.length = 8 ∧
  (∀ e ∈ s.mus.groups, e.2.planes.length = 2) ∧ (∀ e ∈ s.evMus.groups, e.2.planes.length = 2) ∧
  (∀ e ∈ s.rt.egress, e.2.spillOn.length = 4 ∧ e.2.low.length = 4)

/-- What the spec gives a depth or a range stays within it: pending intercalations (R79), measurement FIFOs (R72, R165), transmit
stamp queues (R85), the event FIFO (R145), LEARN queues (R365), logs (R401), tallies (R299). -/
def CapacitiesOk (s : State) : Prop :=
  s.keel.icl.pend.length ≤ 8 ∧ s.evx.icl.pend.length ≤ 8 ∧
  s.keel.svo.fifo.length ≤ fifoDepth .keel ∧ s.evx.svo.fifo.length ≤ fifoDepth .evxus ∧
  (∀ e ∈ s.ptp, e.2.queue.length ≤ 16) ∧ s.ev.fifo.length ≤ 64 ∧ (∀ e ∈ s.rt.dies, e.2.learn.length ≤ 1024) ∧
  (∀ e ∈ s.hl.logs, e.2.head.length ≤ 1024 ∧ e.2.ring.length ≤ 3072) ∧ (∀ e ∈ s.die.tallies, e.2.value ≤ 65535)

/-- The nanoseconds field of both counters, and of an epoch set that is armed, lies below 1,000,000,000 (R28, R38). -/
def ClocksOk (s : State) : Prop :=
  s.keel.clk.now.ns.toNat < nsPerSec ∧ s.evx.clk.now.ns.toNat < nsPerSec ∧
  (∀ e, s.keel.clk.epochArmed = some e → e.1.ns.toNat < nsPerSec) ∧ (∀ e, s.evx.clk.epochArmed = some e → e.1.ns.toNat < nsPerSec)

end Sys2Proof
end

