-- ==== Sys2Proof/WellFormed.lean ====
section
/-! DEFINITION. Which commands are well formed: the numbers that name a port, a group, a line, a die and so on stand in the
range the spec gives the resource. A command out of range is not refused by the step: it meets nothing there. -/

namespace Sys2Proof

/-- The ports of a node: 512 fabric ports and the twin port of the keel (R88, R374), 64 taps of the Evxus (R137). -/
def portOk : Node → Nat → Bool
  | .keel, p => decide (p ≤ 512)
  | .evxus, p => decide (p < 64)

/-- The links that can come up and go down: those of the ports and taps, and the 31 data lanes of the twin link beside its keel lane
(R375). -/
def linkOk : Node → Nat → Bool
  | .keel, p => decide (p < 544)
  | .evxus, p => portOk .evxus p

/-- A reduce die: 5 or 6. -/
def redDieOk (d : Nat) : Bool := d == 5 || d == 6

/-- A route die: 1 to 4. -/
def routeDieOk (d : Nat) : Bool := decide (1 ≤ d) && decide (d ≤ 4)

/-- A partition, or the hall (COMMIT_STAT, R351). -/
def partOk (k : Nat) : Bool := decide (k < 64) || k == 0x7F

/-- Access sizes of a bus: 1, 2, 4 or 8 bytes and the malformed ones of R438. -/
def sizeOk (n : Nat) : Bool := decide (1 ≤ n) && decide (n ≤ 8)

/-- An access within BAR0's 64 MiB (R438) or the Evxus window that follows it (log entry 3). -/
def accessOk (a n : Nat) : Bool := decide (a < 0x04001000) && sizeOk n

/-- A word's address. -/
def wordAddrOk (a : Nat) : Bool := decide (a < 0x04001000) && a % 4 == 0

/-- Places within one cycle of the timing clock, 1.25 GHz, in 2^-16 ns (R26). -/
def cycleLen : Nat := 52429

/-- The command's numbers stand in their ranges. -/
def Instr.wf : Instr → Bool
  | .registerWrite addr acc _ => accessOk addr acc.size
  | .rcCounterRead r => accessOk r.addr r.size
  | .lowWordRead r => accessOk r.addr r.size
  | .ft128Word0Read r => accessOk r.addr r.size
  | .expertUnlock addr _ => wordAddrOk addr
  | .timeEpochSet _ => true
  | .epochLoad _ => true
  | .epochNopps => true
  | .unsureStepWindowEnd _ => true
  | .unsureDipWindowEnd _ => true
  | .timeUncUpdate _ => true
  | .intercalApply _ => true
  | .syncSend n p barrel => portOk n p && decide (barrel < 64)
  | .syncReceive n p barrel _ => portOk n p && decide (barrel < 64)
  | .reqSend n p barrel => portOk n p && decide (barrel < 64)
  | .reqReceive n p barrel _ => portOk n p && decide (barrel < 64)
  | .respSend n p => portOk n p
  | .respReceive n p _ => portOk n p
  | .exchangeTimeout n p => portOk n p
  | .syncMissing n p => portOk n p
  | .delayGateReset n p => portOk n p
  | .lossOfActivity n p => portOk n p
  | .acqSlow _ => true
  | .settleSlow _ => true
  | .servoRestart _ => true
  | .servoModeOpen _ => true
  | .servoModeClosed _ => true
  | .timeAddend _ _ => true
  | .slew _ _ => true
  | .slewSpent _ => true
  | .servoMeasPop _ => true
  | .jumpAllow _ => true
  | .jumpDeferRelease _ => true
  | .pullReq _ => true
  | .intercalateAnnounce => true
  | .intercalateReceive n p _ => portOk n p
  | .intercalLateUncEnd _ => true
  | .linkUp n p => linkOk n p
  | .asymCalDone n p _ => portOk n p
  | .linkDown n p => linkOk n p
  | .asymWrite n p _ => portOk n p
  | .calStart n p => portOk n p
  | .ptpEventTx e phase _ _ => decide (e < 2) && decide (phase < cycleLen)
  | .ptpEventRx e phase _ => decide (e < 2) && decide (phase < cycleLen)
  | .ptpAnnounceRx e _ => decide (e < 2)
  | .ptpTxqFind e _ => decide (e < 2)
  | .txqStale e => decide (e < 2)
  | .ppsPulse pin phase => decide (pin < 4) && decide (phase < cycleLen)
  | .pinPhaseMeasure pin phase => decide (pin < 4) && decide (phase < cycleLen)
  | .ppsWindowEmpty pin => decide (pin < 4)
  | .freqGapLoss pin => decide (pin < 4)
  | .freqActivityRestored pin => decide (pin < 4)
  | .monitorUpdate _ _ freqs => decide (freqs.length ≤ 8)
  | .tableApply _ => true
  | .selForce _ => true
  | .pinModeWrite pin _ => decide (pin < 4)
  | .warmForce _ => true
  | .ovenWarmLoss => true
  | .holdAged _ => true
  | .outputEdge o => decide (o < 2)
  | .outConfigApply o => decide (o < 2)
  | .ticStart t => decide (t < 4)
  | .ticCalibrationDone t _ _ _ _ => decide (t < 4)
  | .ticStartEvent t k => decide (t < 4) && decide (k < 448)
  | .ticStopEvent t k => decide (t < 4) && decide (k < 448)
  | .ticWindowClose t => decide (t < 4)
  | .ticTimeout t => decide (t < 4)
  | .ticAbort t => decide (t < 4)
  | .ticLatch t => decide (t < 4)
  | .ticPeriodicRecal t => decide (t < 4)
  | .launchTapFire k => decide (k < 64)
  | .ftSec => true
  | .evRstN => true
  | .evReady => true
  | .softRst => true
  | .pageCommit => true
  | .pageCommitApply => true
  | .evUnlock _ => true
  | .hclkLoss => true
  | .hclkPresent _ => true
  | .evLaunchReceive p _ => portOk .evxus p
  | .launchLineAssert l phase => decide (l < 8) && decide (phase < cycleLen)
  | .launchPulseEnd l => decide (l < 8)
  | .launchClr _ => true
  | .eventEdge i _ phase => decide (i < 16) && decide (phase < cycleLen)
  | .arrive _ => true
  | .evtPop => true
  | .wakeAt _ => true
  | .wakeTimer => true
  | .tapTxSof p barrel _ => portOk .evxus p && decide (barrel < 64)
  | .tapRxSof p barrel _ => portOk .evxus p && decide (barrel < 64)
  | .tapOrphan p => portOk .evxus p
  | .tapLatWrite p which _ => portOk .evxus p && decide (which < 3)
  | .refclkLoss => true
  | .evPllRelock => true
  | .arriveReceive n p barrel _ => portOk n p && decide (barrel < 64)
  | .aggPeriod _ k => decide (k < 64)
  | .adjArrive k => decide (k < 64)
  | .launchDecide k => decide (k < 64)
  | .musterTimeout k => decide (k < 64)
  | .forceDegrade k => decide (k < 64)
  | .twinLaunchAck k _ => decide (k < 64)
  | .launchUnackTimeout k => decide (k < 64)
  | .aggLaunchReceive n p _ => portOk n p
  | .finalWaitEnd _ k => decide (k < 64)
  | .launchRepeat _ k => decide (k < 64)
  | .stragReq _ => true
  | .stragListDone _ _ => true
  | .slotPulse q => decide (q < 8)
  | .entryIssue q _ _ => decide (q < 8)
  | .entryComplete q _ => decide (q < 8)
  | .clockStretch die sent received both => decide (die < 8) &&
      (sent ++ received ++ both).all (fun x => decide (x.other < 8) && x.hits.all (fun h => decide (h.1 < 8)))
  | .baleIngress p m => portOk .keel p && redDieOk m.die
  | .updBaleApply u _ _ => decide (u < 64)
  | .updResume u => decide (u < 64)
  | .circuitSet k => decide (k < 64)
  | .circuitFail g => decide (g < 64)
  | .circuitRelease k => decide (k < 64)
  | .bankOwnerWrite die b _ => redDieOk die && decide (b < 256)
  | .clearReq die _ => redDieOk die
  | .bankClearDone die b => redDieOk die && decide (b < 256)
  | .bankApertureAccess die _ size _ => redDieOk die && sizeOk size
  | .stackPatrolScrub stack _ _ => decide (stack < 4)
  | .partitionScrubDone die _ => redDieOk die
  | .tallySignal die _ => redDieOk die
  | .tallySet die _ => redDieOk die
  | .tallyClearErr die _ => redDieOk die
  | .tallyClear die _ => redDieOk die
  | .signalArrival _ ref => decide (ref < 10368)
  | .tallyClearAck ref => decide (ref < 10368)
  | .gateArrive die g e => redDieOk die && decide (g < 16) && decide (e < 108)
  | .gateCancel die g => redDieOk die && decide (g < 16)
  | .dumpReq die _ => redDieOk die
  | .tallyDumpDone die _ => redDieOk die
  | .dmaStart die e _ => redDieOk die && decide (e < 16)
  | .dmaBurst die e _ _ => redDieOk die && decide (e < 16)
  | .dmaDescDone die e _ => redDieOk die && decide (e < 16)
  | .dmaPreempt die e => redDieOk die && decide (e < 16)
  | .dmaPreemptStop die e => redDieOk die && decide (e < 16)
  | .dmaRestart die e _ => redDieOk die && decide (e < 16)
  | .load _ => true
  | .cacheLoad _ => true
  | .discard _ => true
  | .teardown _ => true
  | .cacheDrop _ => true
  | .loaderDequeue => true
  | .almLoadDone _ => true
  | .almCommit _ => true
  | .prepareVotesDone part => partOk part
  | .commitActivate part _ => partOk part
  | .activateTimeout part => partOk part
  | .commitCancel _ => true
  | .almKeyProg _ => true
  | .almRevoke _ => true
  | .helloSend n p => portOk n p
  | .helloReceive n p _ => portOk n p
  | .neighbourLost n p => portOk n p
  | .frameIngress p _ _ => decide (p < 512)
  | .learnPop die => routeDieOk die
  | .tcamLock die _ => routeDieOk die
  | .tcamUnlock die _ => routeDieOk die
  | .tcamAbandon die _ => routeDieOk die
  | .tcamReq die _ => routeDieOk die
  | .tcamLoadDone die _ => routeDieOk die
  | .spillOn p cls => decide (p < 512) && decide (cls < 4)
  | .spillOff p cls => decide (p < 512) && decide (cls < 4)
  | .spillReport p _ => decide (p < 512)
  | .heartbeatSend => true
  | .heartbeatReceive mode _ _ _ _ mark => decide (mode < 3) && decide (mark < 4)
  | .hbTimeout => true
  | .probeSend => true
  | .probeAnswer path => decide (path < 2)
  | .probeWait => true
  | .mirrorUpdate _ => true
  | .rootTakeover => true
  | .soloNoticeReceive _ _ _ => true
  | .convoyLossReceive pos _ => decide (pos < 8)
  | .parityDelta src _ _ frame frames _ => decide (src < 8) && decide (frame < frames)
  | .parityAck holder _ _ => decide (holder < 8)
  | .rebuildDone _ _ => true
  | .admitStart _ => true
  | .admitCompat _ => true
  | .demotePartner => true
  | .cancelAdmit => true
  | .rehNow drill => decide (drill < 16)
  | .admitTrackReached => true
  | .restoreDone _ _ => true
  | .compatBistDone _ => true
  | .compatStreamDone _ => true
  | .rehDue => true
  | .drillEnd _ => true
  | .rehStarved => true
  | .classWindowClose die _ _ _ _ => decide (die < 8)
  | .scoreDecay => true
  | .budgetLapse => true
  | .expelNow => true
  | .clearExpelled => true
  | .scoreClear => true
  | .swEvent _ => true
  | .logExport => true
  | .logExportDone _ => true
  | .logClear => true
  | .supplyDipDetect die _ => decide (die < 8)
  | .dipEnd die => decide (die < 8)
  | .dipVerifyResult die _ _ _ _ => redDieOk die
  | .dipVerifyTimeout die _ _ _ => redDieOk die
  | .healthSend n p => portOk n p
  | .healthReceive n p _ => portOk n p
  | .krefLoss die => decide (die < 8)
  | .krefRelock die => decide (die < 8)
  | .oscLoss => true
  | .oscReturn => true
  | .fstepChangeStart die _ => decide (die < 8)
  | .fstepChangeDone die => decide (die < 8)
  | .pwrCap _ => true
  | .condFence b _ => decide (b < 32)
  | .overCap _ => true
  | .tjMeasure die _ _ _ _ _ => decide (die < 8)
  | .supplyResetExcursion die => decide (die < 8)
  | .pkgRstN => true
  | .coldReset _ => true
  | .warmReset _ => true
  | .partitionReset part => decide (part < 64)
  | .engineReset die e => redDieOk die && decide (e < 108)
  | .resetDone => true
  | .sscOff _ => true
  | .powerGood => true
  | .startupStageEnd _ _ => true
  | .vauxLow _ => true
  | .irqAck _ => true
  | .msixMessage vec => decide (vec < 4)
  | .snap _ => true
  | .snapLatch die => decide (die < 8)
  | .snapDieTimeout die => decide (die < 8)
  | .pcieFlr c => decide (c.cause < 3)
  | .brownoutRelease die => decide (die < 8)
  | .circuitSetComplete g => decide (g < 64)
  | .launchTReached _ k => decide (k < 64)

end Sys2Proof
end

