-- ==== Sys2Proof/Certificates/Slice0/Obligations.lean ====
section
/-! DEFINITION. The statements. -/

open Sys2Proof Sys2Proof.Machine


/-! Fabric time (02). -/

/-- R37, R38, R41: an epoch set is armed with its value; refused by a node that is not primary root; loaded on or after the
8th cycle, with VALID set while the 10 MHz oscillator is there (R423), or on the pulse edge of the selected pin, which
then carries the written time; abandoned after 2 s without a pulse. The model's choices: that edge is the edge at the pin
itself, without PIN_PHASE_OFS (log entry 18), and of several refusals the first of R38's table is the status (log entry
65). R42, R44, R66: the windows of UNSURE end at their time; TIME_UNC is unbounded while VALID is 0, zero at the primary
root, else the sum of PATH_UNC, SERVO_UNC and the late intercalations while no holdover lasts. -/
def Obligations.EpochSet : Prop :=
  (∀ s v, bit v 0 = true → s.tw.primary = true → rf s (A.TIME_EPOCH_SET + 4) 0 30 < nsPerSec → (s.keel.clk.valid = true →
     bit v 1 = true) → s.keel.clk.epochArmed = none → Completes (.timeEpochSet v) s (fun t =>
     t.keel.clk.epochArmed = some (⟨BitVec.ofNat 48 (rn s (A.TIME_EPOCH_SET + 8) + 2 ^ 32 * rf s (A.TIME_EPOCH_SET + 12) 0 16),
     BitVec.ofNat 30 (rf s (A.TIME_EPOCH_SET + 4) 0 30), BitVec.ofNat 32 (bits v 16 16 * 65536)⟩, bit v 2, pe s .keel) ∧
     t.keel.clk.epochStatus = .armed ∧ t.keel.clk.now = s.keel.clk.now)) ∧
  (∀ s v, bit v 0 = true → s.tw.primary = false → Completes (.timeEpochSet v) s (fun t =>
     t.keel.clk = { s.keel.clk with epochStatus := .notRoot })) ∧
  (∀ s b val at_, s.keel.clk.epochArmed = some (val, false, at_) → at_ + 8 ≤ pe s .keel →
     Completes (.epochLoad b) s (fun t => t.keel.clk.now = val ∧ t.keel.clk.valid = s.keel.clk.oscOk ∧
     t.keel.clk.epochArmed = none ∧ t.keel.clk.epochPe = s.keel.clk.pe ∧ t.keel.clk.epochStatus = .done ∧
     t.keel.icl.remain = 0)) ∧
  (∀ s val at_ ph, s.keel.clk.epochArmed = some (val, true, at_) → epochPulse s at_ = some ph →
     Completes (.epochLoad true) s (fun t => t.keel.clk.now = fabAdd val (-(ph * 65536 : Nat)) ∧
     t.keel.clk.valid = s.keel.clk.oscOk ∧ t.keel.clk.epochArmed = none ∧ t.keel.clk.epochStatus = .done ∧
     t.keel.ref.phaseFar = false)) ∧
  (∀ s val at_, s.keel.clk.epochArmed = some (val, true, at_) → epochPulse s at_ = none →
     Completes (.epochLoad true) s (fun t => t.keel = s.keel)) ∧
  (∀ s val at_, s.keel.clk.epochArmed = some (val, true, at_) → at_ + 2500000000 ≤ pe s .keel →
     Completes (.epochNopps) s (fun t => t.keel.clk.epochArmed = none ∧ t.keel.clk.epochStatus = .noPps ∧
     t.keel.clk.now = s.keel.clk.now)) ∧
  (∀ n s x, (nd s n).clk.stepUntil = some x → x ≤ pe s n → Completes (.unsureStepWindowEnd n) s (fun t =>
     nd t n = { nd s n with clk := { (nd s n).clk with stepUntil := none } })) ∧
  (∀ n s x, (nd s n).clk.dipUntil = some x → x ≤ pe s n → Completes (.unsureDipWindowEnd n) s (fun t =>
     nd t n = { nd s n with clk := { (nd s n).clk with dipUntil := none } })) ∧
  (∀ n s, Completes (.timeUncUpdate n) s (fun t => ((nd s n).clk.valid = false → (nd t n).clk.unc = 0xFFFFFFFF#32) ∧
     ((nd s n).clk.valid = true → isRoot s n = true → (nd t n).clk.unc = 0#32) ∧ ((nd s n).clk.valid = true →
     isRoot s n = false → (nd s n).svo.holdEntry = none →
     (nd t n).clk.unc = BitVec.ofNat 32 (min (pathUnc s n + servoUnc s n + lateUnc s n) 0xFFFFFFFF)) ∧
     (nd t n).clk.now = (nd s n).clk.now))

/-- R29, R54, R77 to R80: an intercalation that is due is added to the counter and to ICAL_SUM; the primary root announces the
next one on every downstream timing lane, no sooner than the spacing of R77 after the last one; one that comes in time is
queued, one that comes late is applied at once and counts in TIME_UNC for 10 ms; the target of a pull is replaced, at the
primary root only. The model's choice: a forced epoch set leaves the sequence as it is (log entry 65). -/
def Obligations.Intercalation : Prop :=
  (∀ n s x, (nd s n).icl.pend.find? (fun y => fullAtOrAfter (now s n) y.apply) = some x →
     Completes (.intercalApply n) s (fun t => (nd t n).clk.now = fabAdd (nd s n).clk.now (x.q * 65536) ∧
     (nd t n).icl.seq = x.seq ∧ (nd t n).icl.sum = (nd s n).icl.sum + BitVec.ofInt 32 x.q ∧
     (nd t n).icl.pend = (nd s n).icl.pend.filter (fun y => y.seq != x.seq))) ∧
  (∀ s v, s.tw.primary = true → Completes (.pullReq v) s (fun t => t.keel.icl.remain = (v.setWidth 32).toInt)) ∧
  (∀ s v, s.tw.primary = false → Completes (.pullReq v) s (fun t => t.keel = s.keel)) ∧
  (∀ s x, s.tw.primary = true → s.keel.icl.known = true → s.keel.icl.remain ≠ 0 → s.keel.icl.pend.length < 8 →
     x = ({ seq := icalLast s.keel.icl + 1, q := clampInt (-3276) 3276 s.keel.icl.remain, apply := ftWiden (fabFt64 (fabAdd (now s .keel) (usFull (100 * rf s A.PULL_CTRL 0 16)))) (now s .keel), sum := (s.keel.icl.pend.foldl (fun a y => a + BitVec.ofInt 32 y.q) s.keel.icl.sum) + BitVec.ofInt 32 (clampInt (-3276) 3276 s.keel.icl.remain) } : Ical) →
     (∀ l, s.keel.icl.lastApply = some l → (usFull (500000 / max 1 (rf s A.PULL_CTRL 16 6)) : Int) ≤ fullDiff x.apply l) →
     Completes (.intercalateAnnounce) s (fun t => t.keel.icl.remain = s.keel.icl.remain - x.q ∧
     t.keel.icl.pend = s.keel.icl.pend ++ [x] ∧ t.keel.icl.lastApply = some x.apply ∧
     (∀ p ∈ servePorts s .keel, ∃ q, Out.msg .keel p (mkMsg 6 q (senderOf s .keel p) (icalBody x)) ∈ t.out))) ∧
  (∀ s l, s.keel.icl.lastApply = some l →
     fullDiff (ftWiden (fabFt64 (fabAdd (now s .keel) (usFull (100 * rf s A.PULL_CTRL 0 16)))) (now s .keel)) l < (usFull (500000 / max 1 (rf s A.PULL_CTRL 16 6)) : Int) →
     Completes (.intercalateAnnounce) s (fun t => t.keel = s.keel)) ∧
  (∀ n s p m, nodeRuns s n = true → (port s n p).linkUp = true → portWorks s n p = true → linkStands s n p = true →
     mCrcOk m = true → mType m = 6 → (nd s n).icl.known = true → 0 < seqDiff (icalOf s n m).seq (icalLast (nd s n).icl) →
     fullDiff (now s n) (icalOf s n m).apply ≤ 0 → (nd s n).icl.pend.length < 8 →
     Completes (.intercalateReceive n p m) s (fun t => (nd t n).icl.pend = (nd s n).icl.pend ++ [icalOf s n m] ∧
     (nd t n).clk = (nd s n).clk)) ∧
  (∀ n s p m, nodeRuns s n = true → (port s n p).linkUp = true → portWorks s n p = true → linkStands s n p = true →
     mCrcOk m = true → mType m = 6 → (nd s n).icl.known = true → 0 < seqDiff (icalOf s n m).seq (icalLast (nd s n).icl) →
     0 < fullDiff (now s n) (icalOf s n m).apply → Completes (.intercalateReceive n p m) s (fun t =>
     (nd t n).clk.now = fabAdd (nd s n).clk.now ((icalOf s n m).q * 65536) ∧ (nd t n).icl.seq = (icalOf s n m).seq ∧
     (nd t n).icl.late = (nd s n).icl.late ++ [((icalOf s n m).q.natAbs, pe s n + 12500000)])) ∧
  (∀ n s, Completes (.intercalLateUncEnd n) s (fun t =>
     (nd t n).icl = { (nd s n).icl with late := (nd s n).icl.late.filter (fun x => decide (pe s n < x.2)) }))

/-! The timing exchange and the servo (03). -/

/-- R52, R54, R55, R62: a SYNC, due 250 µs after the last one, a REQ and a RESP take the next sequence number of their type; a
SYNC carries its departure stamp T1, PATH_UNC, CORR (the mean offset rounded, zero at the root), ICAL_SEQ and ICAL_SUM,
STAGE, JUMP_PENDING, HOPS and ROOT_ID; a REQ carries and keeps its stamp as t3, a RESP answers the REQ it ends within 20
µs; a SYNC and a REQ that are taken are held with their reception stamps. The place of a stamp within a cycle is free, and
the half of an odd sum in CORR goes to even (log entries 15 and 16, the model's choice). -/
def Obligations.ExchangeMessages : Prop :=
  (∀ n s p b, portTimes s n p = true → servesOn s n p = true → servesTime s n = true → syncDue s n p = true →
     Gives (.syncSend n p b) s (fun t => (port t n p).seqs = (port s n p).seqs.set 0 ((port s n p).seqs.getD 0 0 + 1) ∧
     (port t n p).selAtSync = (nd s n).ref.selCount ∧ (port t n p).lastTx = some (now s n) ∧
     Out.msg n p (mkMsg 1 ((port s n p).seqs.getD 0 0).toNat (senderOf s n p) (bodyOf [(12, stampBytes (txStamp s n p b)),
     (24, toBE 4 (pathUnc s n)), (28, toBE 4 (if isRoot s n then 0#32 else sat32 (filtMean (nd s n).svo)).toNat),
     (32, toBE 2 (nd s n).icl.seq.toNat), (34, toBE 4 (nd s n).icl.sum.toNat),
     (38, toBE 1 (stageCode (nd s n).svo.stage * 64 + b2n (nd s n).svo.jumpPending * 32 + ownHops s n)),
     (40, toBE 4 (rootId s n))])) ∈ t.out)) ∧
  (∀ n s p b, syncDue s n p = false → Completes (.syncSend n p b) s (fun t => nd t n = nd s n)) ∧
  (∀ n s p b m, portTimes s n p = true → portRole s n p = .follows → (port s n p).exch = none → mCrcOk m = true →
     mType m = 1 → getBE m 38 1 % 16 < 6 → getBE m 40 4 = rootId s n → (syncOf m (rxStamp s n p b)).t1.valid = true →
     Completes (.syncReceive n p b m) s (fun t =>
     (port t n p).exch = some { sync := syncOf m (rxStamp s n p b), begun := widen s n (rxStamp s n p b).ft } ∧
     (port t n p).lastSync = now s n ∧ (port t n p).upHops = getBE m 38 1 % 16)) ∧
  (∀ n s p b e, (port s n p).exch = some e → e.req = none → portTimes s n p = true → sinceThen s n e.begun ≤ usFull 20 →
     Gives (.reqSend n p b) s (fun t =>
     (port t n p).exch = some { e with req := some ((port s n p).seqs.getD 1 0, txStamp s n p b) } ∧
     (port t n p).seqs = (port s n p).seqs.set 1 ((port s n p).seqs.getD 1 0 + 1) ∧
     Out.msg n p (mkMsg 2 ((port s n p).seqs.getD 1 0).toNat (senderOf s n p) (bodyOf [(12, stampBytes (txStamp s n p b)),
     (24, toBE 2 e.sync.seq.toNat)])) ∈ t.out)) ∧
  (∀ n s p b m, portTimes s n p = true → servesOn s n p = true → (port s n p).lastTx.isSome = true → mCrcOk m = true →
     mType m = 2 → BitVec.ofNat 16 (getBE m 24 2) + 1 = (port s n p).seqs.getD 0 0 →
     Completes (.reqReceive n p b m) s (fun t =>
     (port t n p).reqIn = some (mSeq m, rxStamp s n p b, (port s n p).selAtSync != (nd s n).ref.selCount) ∧
     (port t n p).reqAt = widen s n (rxStamp s n p b).ft)) ∧
  (∀ n s p q t4 chg, (port s n p).reqIn = some (q, t4, chg) → portTimes s n p = true →
     sinceThen s n (port s n p).reqAt ≤ usFull 20 → Gives (.respSend n p) s (fun t => (port t n p).reqIn = none ∧
     Out.msg n p (mkMsg 3 ((port s n p).seqs.getD 2 0).toNat (senderOf s n p) (bodyOf [(12, stampBytes t4),
     (24, toBE 2 q.toNat), (26, toBE 1 (b2n chg))])) ∈ t.out))

/-- R63: a RESP that completes the exchange it echoes, none of the reasons of R62 and R64 to discard it being present, gives x
= (fwd − rev + ASYM) / 2, rounded to nearest, ties to even, and dly = (fwd + rev) / 2, which the model rounds in the same
way (the model's choice, log entry 16); the exchange is counted in the port's run of accepted ones. On a port that is not
the selected upstream the servo does not act. On the selected one (R68 to R70, R72, R74): x_total = x + CORR goes through
the filter and the loop of the stage; the first exchange of a node without VALID steps its time by x_total and takes over
ICAL_SEQ and ICAL_SUM; while the loop is open the exchange is put in SERVO_MEAS and the clock is left; the eighth in a row
beyond JUMP_LIMIT is refused, with the mean of the eight as JUMP_OFFSET (its rounding to nearest is the model's choice,
log entry 15) and TIME_ADDEND at its holdover value. A complete exchange that the delay gate discards reaches the monitors
of its virtual reference all the same (R65). -/
def Obligations.ExchangeResult : Prop :=
  (∀ n s p m e q t3, (port s n p).exch = some e → e.req = some (q, t3) → portTimes s n p = true → mCrcOk m = true →
     mType m = 3 → BitVec.ofNat 16 (getBE m 24 2) = q → sinceThen s n e.begun ≤ usFull 100 → e.sync.t1.valid = true →
     e.sync.t2.valid = true → t3.valid = true → (stampOfBytes (slice m 12 12)).valid = true → selPort s n ≠ some p →
     let fwd := ftDiff e.sync.t2.ft e.sync.t1.ft; let rev := ftDiff (stampOfBytes (slice m 12 12)).ft t3.ft; 0 ≤ fwd + rev →
     fwd + rev ≤ (2 * usU 1000 : Nat) → gated s n (port s n p) (divRNE (fwd + rev) 2) = false →
     icalWithin (nd s n).icl (now s n) e.sync.t1.ft (stampOfBytes (slice m 12 12)).ft = false → getBE m 26 1 % 2 = 0 →
     e.sync.corrSat = false → Completes (.respReceive n p m) s (fun t =>
     (port t n p).lastX = divRNE (fwd - rev + asymOf s n p) 2 ∧ (port t n p).lastDly = divRNE (fwd + rev) 2 ∧
     (port t n p).oks = (port s n p).oks + 1 ∧ (port t n p).fails = 0 ∧ (port t n p).exch = none ∧
     (nd t n).clk = (nd s n).clk ∧ (nd t n).svo = (nd s n).svo)) ∧
  (∀ n s p m e q t3, (port s n p).exch = some e → e.req = some (q, t3) → portTimes s n p = true → mCrcOk m = true →
     mType m = 3 → BitVec.ofNat 16 (getBE m 24 2) = q → sinceThen s n e.begun ≤ usFull 100 → e.sync.t1.valid = true →
     e.sync.t2.valid = true → t3.valid = true → (stampOfBytes (slice m 12 12)).valid = true →
     let fwd := ftDiff e.sync.t2.ft e.sync.t1.ft; let rev := ftDiff (stampOfBytes (slice m 12 12)).ft t3.ft; 0 ≤ fwd + rev →
     fwd + rev ≤ (2 * usU 1000 : Nat) → gated s n (port s n p) (divRNE (fwd + rev) 2) = false →
     icalWithin (nd s n).icl (now s n) e.sync.t1.ft (stampOfBytes (slice m 12 12)).ft = false → getBE m 26 1 % 2 = 0 →
     e.sync.corrSat = false → let x := divRNE (fwd - rev + asymOf s n p) 2; let total := x + e.sync.corr;
     selPort s n = some p → isRoot s n = false → (nd s n).clk.oscOk = true → (nd s n).clk.valid = true →
     absLePs total (jumpLimit s n * 1000) = true → (nd s n).svo.stage ≠ .hold → (nd s n).svo.open_ = false →
     (nd s n).svo.jumpPending = false → (nd s n).svo.change = none →
     let acc := (nd s n).svo.acc + (gains s n (nd s n).svo.stage).2 * total; Completes (.respReceive n p m) s (fun t =>
     (port t n p).lastX = x ∧ (port t n p).exch = none ∧ (nd t n).svo.filt = (total :: (nd s n).svo.filt).take 16 ∧
     (nd t n).svo.overs = [] ∧ (nd t n).svo.acc = acc ∧
     (nd t n).clk.addend = BitVec.ofInt 64 (clampInt 0xCCC25072 0xCCD74928 (addendOf (acc + (gains s n (nd s n).svo.stage).1 * total))) ∧
     (nd t n).clk.now = (nd s n).clk.now)) ∧
  (∀ n s p m e q t3, (port s n p).exch = some e → e.req = some (q, t3) → portTimes s n p = true → mCrcOk m = true →
     mType m = 3 → BitVec.ofNat 16 (getBE m 24 2) = q → sinceThen s n e.begun ≤ usFull 100 → e.sync.t1.valid = true →
     e.sync.t2.valid = true → t3.valid = true → (stampOfBytes (slice m 12 12)).valid = true →
     let fwd := ftDiff e.sync.t2.ft e.sync.t1.ft; let rev := ftDiff (stampOfBytes (slice m 12 12)).ft t3.ft; 0 ≤ fwd + rev →
     fwd + rev ≤ (2 * usU 1000 : Nat) → gated s n (port s n p) (divRNE (fwd + rev) 2) = false →
     icalWithin (nd s n).icl (now s n) e.sync.t1.ft (stampOfBytes (slice m 12 12)).ft = false → getBE m 26 1 % 2 = 0 →
     e.sync.corrSat = false → let x := divRNE (fwd - rev + asymOf s n p) 2; let total := x + e.sync.corr;
     selPort s n = some p → isRoot s n = false → (nd s n).clk.oscOk = true → (nd s n).clk.valid = false →
     (nd s n).svo.acquired = false → Completes (.respReceive n p m) s (fun t =>
     (nd t n).clk.now = fabAdd (nd s n).clk.now (-total * 65536) ∧ (nd t n).svo.stage = .acquire ∧
     (nd t n).svo.acquired = true ∧ (nd t n).svo.acc = (nd s n).svo.acc ∧ (nd t n).icl.known = true ∧
     (nd t n).icl.seq = e.sync.icalSeq ∧ (nd t n).icl.sum = e.sync.icalSum)) ∧
  (∀ n s p m e q t3, (port s n p).exch = some e → e.req = some (q, t3) → portTimes s n p = true → mCrcOk m = true →
     mType m = 3 → BitVec.ofNat 16 (getBE m 24 2) = q → sinceThen s n e.begun ≤ usFull 100 → e.sync.t1.valid = true →
     e.sync.t2.valid = true → t3.valid = true → (stampOfBytes (slice m 12 12)).valid = true →
     let fwd := ftDiff e.sync.t2.ft e.sync.t1.ft; let rev := ftDiff (stampOfBytes (slice m 12 12)).ft t3.ft; 0 ≤ fwd + rev →
     fwd + rev ≤ (2 * usU 1000 : Nat) → gated s n (port s n p) (divRNE (fwd + rev) 2) = false →
     icalWithin (nd s n).icl (now s n) e.sync.t1.ft (stampOfBytes (slice m 12 12)).ft = false → getBE m 26 1 % 2 = 0 →
     e.sync.corrSat = false → let x := divRNE (fwd - rev + asymOf s n p) 2; let total := x + e.sync.corr;
     selPort s n = some p → (nd s n).clk.oscOk = true → (nd s n).clk.valid = true →
     absLePs total (jumpLimit s n * 1000) = true → (nd s n).svo.open_ = true → (nd s n).svo.jumpPending = false →
     (nd s n).svo.fifo.length < fifoDepth n → Completes (.respReceive n p m) s (fun t => (nd t n).clk = (nd s n).clk ∧
     (nd t n).svo.filt = (total :: (nd s n).svo.filt).take 16 ∧ (nd t n).svo.stage = (nd s n).svo.stage ∧
     (nd t n).svo.acc = (nd s n).svo.acc ∧
     (nd t n).svo.fifo = (nd s n).svo.fifo ++ [⟨p, e.sync.seq, x, divRNE (fwd + rev) 2, e.sync.corr⟩])) ∧
  (∀ n s p m e q t3, (port s n p).exch = some e → e.req = some (q, t3) → portTimes s n p = true → mCrcOk m = true →
     mType m = 3 → BitVec.ofNat 16 (getBE m 24 2) = q → sinceThen s n e.begun ≤ usFull 100 → e.sync.t1.valid = true →
     e.sync.t2.valid = true → t3.valid = true → (stampOfBytes (slice m 12 12)).valid = true →
     let fwd := ftDiff e.sync.t2.ft e.sync.t1.ft; let rev := ftDiff (stampOfBytes (slice m 12 12)).ft t3.ft; 0 ≤ fwd + rev →
     fwd + rev ≤ (2 * usU 1000 : Nat) → gated s n (port s n p) (divRNE (fwd + rev) 2) = false →
     icalWithin (nd s n).icl (now s n) e.sync.t1.ft (stampOfBytes (slice m 12 12)).ft = false → getBE m 26 1 % 2 = 0 →
     e.sync.corrSat = false → let x := divRNE (fwd - rev + asymOf s n p) 2; let total := x + e.sync.corr;
     selPort s n = some p → (nd s n).clk.oscOk = true → (nd s n).clk.valid = true →
     absLePs total (jumpLimit s n * 1000) = false → (nd s n).svo.jumpPending = false → (nd s n).svo.overs.length = 7 →
     (nd s n).ref.holdSince = none → Completes (.respReceive n p m) s (fun t => (nd t n).svo.jumpPending = true ∧
     (nd t n).svo.jumpOffset = divRNE ((total :: (nd s n).svo.overs).foldl (· + ·) 0) 8 ∧ (nd t n).svo.overs = [] ∧
     (nd t n).svo.acc = (nd s n).svo.acc ∧ (nd t n).clk.causeJump = true ∧
     (nd t n).clk.addend = BitVec.ofInt 64 (clampInt 0xCCC25072 0xCCD74928 (holdoverValue s n)) ∧
     (nd t n).clk.now = (nd s n).clk.now)) ∧
  (∀ n s p m e q t3, (port s n p).exch = some e → e.req = some (q, t3) → portTimes s n p = true → mCrcOk m = true →
     mType m = 3 → BitVec.ofNat 16 (getBE m 24 2) = q → sinceThen s n e.begun ≤ usFull 100 → e.sync.t1.valid = true →
     e.sync.t2.valid = true → t3.valid = true → (stampOfBytes (slice m 12 12)).valid = true →
     let fwd := ftDiff e.sync.t2.ft e.sync.t1.ft; let rev := ftDiff (stampOfBytes (slice m 12 12)).ft t3.ft; 0 ≤ fwd + rev →
     fwd + rev ≤ (2 * usU 1000 : Nat) → gated s n (port s n p) (divRNE (fwd + rev) 2) = true → e.sync.corrSat = false →
     (nd s n).ref.bind.getD 0 none = some p → 4 < (nd s n).ref.srcs.length → Completes (.respReceive n p m) s (fun t =>
     (src t n 4).phase = divRNE (fwd - rev + asymOf s n p) 2 + e.sync.corr ∧ (port t n p).exch = none ∧
     (port t n p).fails = (port s n p).fails + 1 ∧ (port t n p).oks = 0 ∧ (port t n p).gateRun = (port s n p).gateRun + 1 ∧
     (nd t n).svo = (nd s n).svo))

/-- R62, R64, R65: an exchange without its RESP in 100 µs, and 250 µs without a SYNC, are one failure each; after 64 discards
of the delay gate its median starts over, and ASYM_SUSPECT is set; after 16 failures in a row, once for a row, the count
toward restoring the port starts over, and the virtual reference UPSTREAM_A or UPSTREAM_B that is bound to it is active no
more. That SYNC_MISSING counts while the port calibrates too is the model's reading (log entry 16). -/
def Obligations.ExchangeFailures : Prop :=
  (∀ n s p e, (port s n p).exch = some e → (usFull 100 : Int) < sinceThen s n e.begun →
     Completes (.exchangeTimeout n p) s (fun t => (port t n p).exch = none ∧ (port t n p).fails = (port s n p).fails + 1 ∧
     (port t n p).oks = 0)) ∧
  (∀ n s p, watched s n p = true → portRole s n p = .follows → (usFull 250 : Int) ≤ sinceThen s n (port s n p).lastSync →
     Completes (.syncMissing n p) s (fun t => (port t n p).fails = (port s n p).fails + 1 ∧ (port t n p).oks = 0 ∧
     (port t n p).lastSync = fabAdd (port s n p).lastSync (usFull 250))) ∧
  (∀ n s p, 64 ≤ (port s n p).gateRun → Gives (.delayGateReset n p) s (fun t =>
     flag t (nr n (A.PORT_TSTAT p) (A.E_PORT_STAT p)) 7 = true ∧ (port t n p).gateRun = 0 ∧
     (port t n p).delays = [(port s n p).gateDly])) ∧
  (∀ n s p, 16 ≤ (port s n p).fails → (port s n p).lossTold = false → (nd s n).ref.bind.getD 0 none = some p →
     Completes (.lossOfActivity n p) s (fun t => (port t n p).oks = 0 ∧ (port t n p).lossTold = true ∧
     (src t n 4).active = false)) ∧
  (∀ n s p, 16 ≤ (port s n p).fails → (port s n p).lossTold = false → (nd s n).ref.bind.getD 1 none = some p →
     Completes (.lossOfActivity n p) s (fun t => (port t n p).oks = 0 ∧ (port t n p).lossTold = true ∧
     (src t n 5).active = false)) ∧
  (∀ n s p, (port s n p).lossTold = true → Completes (.lossOfActivity n p) s (fun t => nd t n = nd s n))

/-- R70 to R73, R86: RESTART begins ACQUIRE with the integral cleared (with nothing selected too, which is the model's choice,
log entry 15); OPEN keeps the addend; CLOSED takes the integral from the addend and lets a slew go on; the time limits of
a stage raise their flags and change nothing else of the node. -/
def Obligations.ServoModes : Prop :=
  (∀ s, Completes (.servoRestart .keel) s (fun t => t.keel.svo.stage = .acquire ∧ t.keel.svo.acc = 0 ∧
     t.keel.svo.stageSince = pe s .keel ∧ t.keel.clk.now = s.keel.clk.now ∧ t.keel.clk.addend = s.keel.clk.addend)) ∧
  (∀ s, nodeRuns s .evxus = true → Completes (.servoRestart .evxus) s (fun t => t.evx.svo.stage = .acquire ∧
     t.evx.svo.acc = 0 ∧ t.evx.svo.stageSince = pe s .evxus ∧ t.evx.clk.now = s.evx.clk.now ∧
     t.evx.clk.addend = s.evx.clk.addend)) ∧
  (∀ n s, nodeRuns s n = true → Completes (.servoModeOpen n) s (fun t =>
     (nd t n).svo = { (nd s n).svo with open_ := true } ∧ (nd t n).clk.addend = (nd s n).clk.addend)) ∧
  (∀ n s, nodeRuns s n = true → (nd s n).svo.open_ = true → Completes (.servoModeClosed n) s (fun t =>
     (nd t n).svo.open_ = false ∧ (nd t n).svo.acc = accOf (nd s n).clk.addend ∧ (nd t n).clk.slew = (nd s n).clk.slew ∧
     (nd t n).clk.addend = (nd s n).clk.addend)) ∧
  (∀ n s, (nd s n).svo.stage = .acquire → (nd s n).svo.open_ = false → (nd s n).svo.stageSince + 2500000000 ≤ pe s n →
     Gives (.acqSlow n) s (fun t => flag t (nr n A.SERVO_STATUS A.E_SERVO_STATUS) 8 = true ∧ nd t n = nd s n)) ∧
  (∀ n s, (nd s n).svo.stage = .settle → (nd s n).svo.open_ = false → (nd s n).svo.stageSince + 25000000000 ≤ pe s n →
     Gives (.settleSlow n) s (fun t => flag t (nr n A.SERVO_STATUS A.E_SERVO_STATUS) 9 = true ∧ nd t n = nd s n))

/-- R27, R72, R87: while the loop is open TIME_ADDEND is written, clamped to its limits; a slew is clamped to ±1 µs, and one
that a cycle covers is applied and ends; a read of SERVO_MEAS takes the oldest measurement. While the loop is closed,
neither write changes the node. -/
def Obligations.ServoWrites : Prop :=
  (∀ n s v, nodeRuns s n = true → (nd s n).svo.open_ = true → Completes (.timeAddend n v) s (fun t =>
     (nd t n).clk.addend = BitVec.ofInt 64 (clampInt 0xCCC25072 0xCCD74928 v.toNat) ∧ (nd t n).clk.now = (nd s n).clk.now)) ∧
  (∀ n s v, nodeRuns s n = true → (nd s n).svo.open_ = false → Completes (.timeAddend n v) s (fun t => nd t n = nd s n)) ∧
  (∀ n s v, nodeRuns s n = true → (nd s n).svo.open_ = true → Completes (.slew n v) s (fun t =>
     (nd t n).clk.slew = clampInt (-65536000) 65536000 v.toInt * 65536)) ∧
  (∀ n s v, nodeRuns s n = true → (nd s n).svo.open_ = false → Completes (.slew n v) s (fun t => nd t n = nd s n)) ∧
  (∀ n s, slewOf (nd s n).clk = (nd s n).clk.slew → Completes (.slewSpent n) s (fun t => (nd t n).clk.slew = 0 ∧
     (nd t n).clk.now = fabAdd (nd s n).clk.now (nd s n).clk.slew)) ∧
  (∀ n s m r, nodeRuns s n = true → (nd s n).svo.fifo = m :: r → Gives (.servoMeasPop n) s (fun t => (nd t n).svo.fifo = r ∧
     t.host.rdata = BitVec.ofNat 64 (m.port * 65536 + m.seq.toNat) ∧ rd t (nr n A.SERVO_MEAS A.E_SERVO_MEAS + 4) = sat32 m.x))

/-- R75, R76, R156, R210: JUMP_ALLOW grants a jump that is refused, at once where nothing holds it, else deferred until
nothing does; without a refusal it is ignored. Nothing else of the node changes. -/
def Obligations.JumpGrant : Prop :=
  (∀ n s, nodeRuns s n = true → (nd s n).svo.grant = false → (nd s n).svo.grantDeferred = false →
     (nd s n).svo.jumpPending = true → stepHeld s n = false → Completes (.jumpAllow n) s (fun t =>
     nd t n = { nd s n with svo := { (nd s n).svo with grant := true, jumpResult := .granted } })) ∧
  (∀ n s, nodeRuns s n = true → (nd s n).svo.grant = false → (nd s n).svo.grantDeferred = false →
     (nd s n).svo.jumpPending = true → stepHeld s n = true → Completes (.jumpAllow n) s (fun t =>
     nd t n = { nd s n with svo := { (nd s n).svo with grantDeferred := true } })) ∧
  (∀ n s, nodeRuns s n = true → (nd s n).svo.grant = false → (nd s n).svo.grantDeferred = false →
     (nd s n).svo.jumpPending = false → Completes (.jumpAllow n) s (fun t =>
     nd t n = { nd s n with svo := { (nd s n).svo with jumpResult := .ignored } })) ∧
  (∀ n s, (nd s n).svo.grantDeferred = true → (nd s n).svo.jumpPending = true → stepFree s n = true →
     Completes (.jumpDeferRelease n) s (fun t =>
     nd t n = { nd s n with svo := { (nd s n).svo with grant := true, grantDeferred := false, jumpResult := .granted } }))

/-! Links and their calibration (03), IEEE 1588 on the edge ports (03). -/

/-- R59, R60, R61: a link that comes up begins a calibration with no history; a calibration that ends well writes ASYM as the
mean of its rounds (its rounding to nearest is the model's choice, log entry 16); one without a reflector sets CAL_FAIL
and leaves ASYM_VALID as it was (the model's reading, log entry 16); a link that goes down loses ASYM_VALID and its
exchange; a tap's PCS reflects while the far end asks for it (R149). A TWIN_CUT holds the twin link down in its first 50
ms (R393), and numbers above 512 are data lanes of the twin link (the model's numbering, log entry 62). R60, R61, R441: a
write of ASYM takes effect on an unlocked expert page and sets ASYM_VALID; on a locked one it changes nothing of the node
(a record that the grouping does not use is written too, which is the model's choice, log entry 59); CAL_START begins a
calibration, on the package with a ticket. -/
def Obligations.Links : Prop :=
  (∀ n s p, (port s n p).linkUp = false → portWorks s n p = true → cutHolds s n p = false → p ≤ 512 →
     Completes (.linkUp n p) s (fun t => (port t n p).linkUp = true ∧ (port t n p).calibrating = true ∧
     (port t n p).exch = none ∧ (port t n p).delays = [] ∧ (port t n p).lastSync = now s n ∧ (port t n p).lossTold = false ∧
     (port t n p).lastTx = none)) ∧
  (∀ n s p rounds, p ≤ 512 → (port s n p).calibrating = true → rounds.length = 4096 →
     spreadOk (rounds.map (fun r => r.1)) = true → Gives (.asymCalDone n p (.rounds rounds)) s (fun t =>
     (port t n p).calibrating = false ∧ (port t n p).asymValid = true ∧
     rd t (nr n (A.ASYM p) (A.E_ASYM p)) = sat32 (divRNE (rounds.foldl (fun a r => a + (r.1 - r.2)) 0) rounds.length))) ∧
  (∀ n s p, p ≤ 512 → (port s n p).calibrating = true → Gives (.asymCalDone n p (.rounds [])) s (fun t =>
     (port t n p).calibrating = false ∧ (port t n p).asymValid = (port s n p).asymValid ∧
     flag t (nr n (A.PORT_TSTAT p) (A.E_PORT_STAT p)) 8 = true)) ∧
  (∀ s p, (port s .evxus p).linkUp = true → s.ev.loopback.contains p = false →
     Gives (.asymCalDone .evxus p (.farAsks true)) s (fun t => t.ev.loopback = p :: s.ev.loopback ∧
     Out.pin (.laneLoopback p) true ∈ t.out ∧ t.evx = s.evx)) ∧
  (∀ s p, (port s .evxus p).linkUp = true → s.ev.loopback.contains p = true →
     Gives (.asymCalDone .evxus p (.farAsks false)) s (fun t => t.ev.loopback.contains p = false ∧
     Out.pin (.laneLoopback p) false ∈ t.out ∧ t.evx = s.evx)) ∧
  (∀ n s p, (port s n p).linkUp = true → p ≤ 512 → Completes (.linkDown n p) s (fun t => (port t n p).linkUp = false ∧
     (port t n p).asymValid = false ∧ (port t n p).calibrating = false ∧ (port t n p).exch = none ∧ (port t n p).reqIn = none)) ∧
  (∀ s p v, p ≤ 512 → s.host.unlocked.contains 0x150000 = true → Gives (.asymWrite .keel p v) s (fun t =>
     (port t .keel p).asymValid = true ∧ rd t (A.ASYM p) = v ∧ rd t (A.HOP_UNC p) = 120)) ∧
  (∀ s p v, s.host.unlocked.contains 0x150000 = false → Completes (.asymWrite .keel p v) s (fun t => t.keel = s.keel)) ∧
  (∀ s p v, nodeRuns s .evxus = true → s.ev.unlocked = true → Gives (.asymWrite .evxus p v) s (fun t =>
     (port t .evxus p).asymValid = true ∧ rd t (A.E_ASYM p) = v)) ∧
  (∀ s p k, (port s .keel p).calibrating = false → portWorks s .keel p = true → nextTicket s = some k →
     Gives (.calStart .keel p) s (fun t => (port t .keel p).calibrating = true ∧ (port t .keel p).calTicket = some k ∧
     (opstat t k).state = .running)) ∧
  (∀ s p, nodeRuns s .evxus = true → (port s .evxus p).calibrating = false → portWorks s .evxus p = true →
     Completes (.calStart .evxus p) s (fun t => (port t .evxus p).calibrating = true ∧ t.ev.loopback = s.ev.loopback ∧
     Out.markers .evxus p 4096 ∈ t.out))

/-- R83 to R85: a two-step event message leaves its transmit stamp in the queue; a one-step Sync is completed as it leaves,
over UDP with its checksum corrected (over IPv4 a checksum of zero stays, log entry 54); a received one carries its stamp
with it; an Announce is kept and changes no port state; a stamp is found by its key, the oldest first, and one not fetched
in 2 s is discarded. What EDGE_ASYM adds to a time is free (log entry 25). -/
def Obligations.PtpPorts : Prop :=
  (∀ s e ph k m, tget 0 s.straps.transport e = 0 → ptpTwoStep m = true → (edgeOf s e).queue.length < 16 →
     Completes (.ptpEventTx e ph k m) s (fun t =>
     (edgeOf t e).queue = (edgeOf s e).queue ++ [{ msgId := k, msgType := BitVec.ofNat 4 (ptpType m), seqId := BitVec.ofNat 16 (ptpSeq m), stamp := edgeStamp s (edgeTime s e ph true), at_ := pe s .keel }])) ∧
  (∀ s e ph k m, tget 0 s.straps.transport e = 0 → ptpType m = 0 → ptpTwoStep m = false →
     Gives (.ptpEventTx e ph k m) s (fun t => t.out = .ptp e (putOrigin (edgeTime s e ph true) m) :: s.out ∧
     edgeOf t e = edgeOf s e)) ∧
  (∀ s e ph k m, tget 0 s.straps.transport e = 1 → ptpType (m.drop 8) = 0 → ptpTwoStep (m.drop 8) = false →
     let b := putOrigin (edgeTime s e ph true) (m.drop 8); Gives (.ptpEventTx e ph k m) s (fun t =>
     t.out = .ptp e (udpCorrect true (m.drop 8) b (m.take 8) ++ b) :: s.out ∧ edgeOf t e = edgeOf s e)) ∧
  (∀ s e ph m, Gives (.ptpEventRx e ph m) s (fun t => t.out = .ptpRx e (edgeStamp s (edgeTime s e ph false)) m :: s.out ∧
     (edgeOf t e).queue = (edgeOf s e).queue)) ∧
  (∀ s e m, Completes (.ptpAnnounceRx e m) s (fun t =>
     edgeOf t e = { edgeOf s e with announces := (edgeOf s e).announces ++ [m] })) ∧
  (∀ s e v x, (edgeOf s e).queue.find? (fun y => y.msgId == BitVec.ofNat 8 (bits v 0 8)) = some x →
     Completes (.ptpTxqFind e v) s (fun t => (edgeOf t e).found = some x ∧ (edgeOf t e).queue = (edgeOf s e).queue.erase x)) ∧
  (∀ s e, Completes (.txqStale e) s (fun t =>
     (edgeOf t e).queue = (edgeOf s e).queue.filter (fun x => !decide (x.at_ + 2500000000 < pe s .keel))))

/-! References (04): pins, monitors, selection, holdover, pulse outputs. -/

/-- R90, R93, R94, R98: the first pulse of a pin is noted; one in its window makes a PPS pin active and gives its phase; a 10
MHz edge of a BOTH pin is kept as its anchor; the third empty window, or a gap of the 10 MHz part, ends the pin's
activity; 1 µs without a gap restores that part. -/
def Obligations.PinPulses : Prop :=
  (∀ s i ph, i < 4 → s.keel.ref.srcs.length = 6 → pinMode s i = 1 → (src s .keel i).pulseOk = false →
     (src s .keel i).lastPulse = none → (src s .keel i).edges = [] → Completes (.ppsPulse i ph) s (fun t =>
     src t .keel i = { src s .keel i with edges := [pe s .keel], lastPulse := some (pe s .keel), lastEdge := some (pe s .keel, ph), empty := 0 })) ∧
  (∀ s i ph, i < 4 → s.keel.ref.srcs.length = 6 → pinMode s i = 1 → (src s .keel i).pulseOk = true →
     pulseInWindow s (src s .keel i) = true → s.tw.primary = false → Completes (.ppsPulse i ph) s (fun t =>
     (src t .keel i).active = true ∧ (src t .keel i).phase = cres (pinTime s i ph) secU ∧
     (src t .keel i).lastPulse = some (pe s .keel))) ∧
  (∀ s i ph, i < 4 → s.keel.ref.srcs.length = 6 → pinMode s i = 3 → (src s .keel i).freqPart = true →
     (src s .keel i).grid = none → Completes (.pinPhaseMeasure i ph) s (fun t =>
     src t .keel i = { src s .keel i with edge := some (cres (pinTime s i ph) grid100) })) ∧
  (∀ s i l, i < 4 → s.keel.ref.srcs.length = 6 → (pinMode s i = 1 ∨ pinMode s i = 3) → (src s .keel i).lastPulse = some l →
     (src s .keel i).empty = 2 → l + 3 * 1250000000 + 1250 < pe s .keel → Completes (.ppsWindowEmpty i) s (fun t =>
     (src t .keel i).active = false ∧ (src t .keel i).pulseOk = false ∧ (src t .keel i).empty = 3)) ∧
  (∀ s i, s.keel.ref.srcs.length = 6 → pinFreq s i = true → Completes (.freqGapLoss i) s (fun t =>
     (src t .keel i).active = false ∧ (src t .keel i).freqPart = false)) ∧
  (∀ s i, s.keel.ref.srcs.length = 6 → i < 4 → pinMode s i = 2 → Completes (.freqActivityRestored i) s (fun t =>
     (src t .keel i).active = true ∧ (src t .keel i).freqPart = true))

/-- R90, R104, R105, R108: TABLE_APPLY stages the table for the next monitor update, which puts it in force; a force selects
the entry it names if its source may be used; a pin whose mode is written OFF starts afresh. R109, R110, R113: WARM_FORCE
sets ROOT_WARM on an unlocked page; the loss of OVEN_WARM clears it; a holdover of 10 s is aged. -/
def Obligations.Selection : Prop :=
  (∀ n s oven fr tb rev, (nd s n).ref.applyPend = some (tb, rev) → Completes (.monitorUpdate n oven fr) s (fun t =>
     (nd t n).ref.table = tb ∧ (nd t n).ref.revertive = rev ∧ (nd t n).ref.applyPend = none)) ∧
  (∀ s v, bits v 8 4 = s.keel.ref.force → Completes (.tableApply v) s (fun t =>
     t.keel.ref = { s.keel.ref with applyPend := some (tableStaged s .keel, bit v 0) })) ∧
  (∀ s v, bits v 8 4 < 8 → s.keel.ref.force ≠ bits v 8 4 → s.keel.ref.disputed = false →
     (s.keel.ref.table.getD (bits v 8 4) (0, 15)).1 ≠ 0 →
     srcNamed .keel (s.keel.ref.table.getD (bits v 8 4) (0, 15)).2 = true →
     srcAllowed s .keel (s.keel.ref.table.getD (bits v 8 4) (0, 15)).2 = true →
     (src s .keel (s.keel.ref.table.getD (bits v 8 4) (0, 15)).2).active = true → Completes (.selForce v) s (fun t =>
     t.keel.ref.force = bits v 8 4 ∧ t.keel.ref.selected = some (bits v 8 4))) ∧
  (∀ s i v, i < 4 → bits v 0 2 = 0 → Completes (.pinModeWrite i v) s (fun t => src t .keel i = {})) ∧
  (∀ s v, s.host.unlocked.contains 0x120000 = true → bit v 0 = true → Completes (.warmForce v) s (fun t =>
     t.keel.ref.rootWarm = true)) ∧
  (∀ s v, s.host.unlocked.contains 0x120000 = false → Completes (.warmForce v) s (fun t => t.keel = s.keel)) ∧
  (∀ s, Completes (.ovenWarmLoss) s (fun t =>
     t.keel.ref = { s.keel.ref with ovenWarm := false, rootWarm := false, warmTime := 0 } ∧ t.keel.clk = s.keel.clk)) ∧
  (∀ n s e, (nd s n).ref.holdSince = some e → e + 12500000000 ≤ pe s n → Completes (.holdAged n) s (fun t =>
     (nd t n).ref = { (nd s n).ref with holdAged := true }))

/-- R116, R117: a PPS output aligned to fabric time, VALID, emits its edge in the cycle that reaches it, and its trailing edge
OUT_WIDTH later; a new configuration is in force from a second boundary on. That the trailing edge counts for nothing else
is the model's choice (log entry 18). -/
def Obligations.PulseOutputs : Prop :=
  (∀ s o, o < 2 → (outOf s o).cfg.mode = 1 → (outOf s o).cfg.align = 0 → s.keel.clk.valid = true →
     (outOf s o).lastPulse = none → (outOf s o).fall = none → let e := outEdge s (outOf s o).cfg;
     ((ftUnits (now64 s .keel) : Int) - e) * 65536 < lastCycle s.keel.clk → Gives (.outputEdge o) s (fun t =>
     t.out = .edge (.pps o) (ftOf (e % (ftCycle : Int)).toNat) :: s.out ∧ (outOf t o).running = true ∧
     (outOf t o).squelched = false ∧ (outOf t o).lastPulse = some (pe s .keel) ∧
     (outOf t o).fall = some (ftAdd (ftOf (e % (ftCycle : Int)).toNat) (nsU (outOf s o).cfg.width : Nat)))) ∧
  (∀ s o f, o < 2 → (outOf s o).cfg.mode = 1 → (outOf s o).fall = some f → atOrAfter (now64 s .keel) f = true →
     Gives (.outputEdge o) s (fun t => t.out = .edge (.pps o) f :: s.out ∧ outOf t o = { outOf s o with fall := none })) ∧
  (∀ s o k, (outOf s o).next = some k →
     s.keel.clk.now.ns.toNat * 2 ^ 32 + s.keel.clk.now.frac.toNat < lastCycle s.keel.clk →
     Completes (.outConfigApply o) s (fun t => (outOf t o).cfg = k ∧ (outOf t o).next = none))

/-! Interval channels (05). -/

/-- R123, R131, R134, R135: START takes a ticket and calibrates; a calibration within its limits starts the measurement,
another ends it with CAL_FAIL; LATCH copies the running results; ABORT and the time-out end it with their fault codes; a
channel recalibrates when its period has passed and no window is open. R126, R128, R129, R131, R132: a start event opens a
window; a stop event inside it is counted as a result, and the Nth ends the measurement; a window that has reached
WIN_CLOSE closes; LAUNCH_TAP fires for the launch that this keel has decided, also while that waits for the twin; FT_SEC
fires. Which edges of the timing clock sample, and which events start a dead time, are the model's choices (log entry 20). -/
def Obligations.IntervalCommands : Prop :=
  (∀ s c k, c < 4 → (tic s c).state = .idle → ticSrcOk s c (startSel s c) = true → ticSrcOk s c (stopSel s c) = true →
     nextTicket s = some k → Gives (.ticStart c) s (fun t => tic t c = { state := .calibrating, ticket := some k } ∧
     (opstat t k).state = .running)) ∧
  (∀ s c a b d e, (tic s c).state = .calibrating → calOk ⟨a, b⟩ = true → calOk ⟨d, e⟩ = true →
     Completes (.ticCalibrationDone c a b d e) s (fun t => (tic t c).state = .running ∧ (tic t c).calStart = ⟨a, b⟩ ∧
     (tic t c).calStop = ⟨d, e⟩ ∧ (tic t c).lastCal = pe s .keel)) ∧
  (∀ s c a b d e, (tic s c).state = .calibrating → calOk ⟨a, b⟩ = false →
     Completes (.ticCalibrationDone c a b d e) s (fun t => (tic t c).state = .ended ∧ (tic t c).fault = 1)) ∧
  (∀ s c, ((tic s c).state = .calibrating ∨ (tic s c).state = .running) → Completes (.ticAbort c) s (fun t =>
     (tic t c).state = .ended ∧ (tic t c).fault = 4 ∧ (tic t c).group = ticGroup (tic s c))) ∧
  (∀ s c, (tic s c).state = .running → rn s (A.TIC_TIMEOUT c) ≠ 0 →
     (tic s c).lastAccept + 1250000000 * rn s (A.TIC_TIMEOUT c) ≤ pe s .keel → Completes (.ticTimeout c) s (fun t =>
     (tic t c).state = .ended ∧ (tic t c).fault = 2)) ∧
  (∀ s c, (tic s c).state = .running → Completes (.ticLatch c) s (fun t =>
     tic t c = { tic s c with group := ticGroup (tic s c) })) ∧
  (∀ s c, (tic s c).state = .running → rf s (A.TIC_CTRL c) 16 8 ≠ 0 → (tic s c).win = none →
     (tic s c).lastCal + 1250000000 * rf s (A.TIC_CTRL c) 16 8 ≤ pe s .keel → Completes (.ticPeriodicRecal c) s (fun t =>
     tic t c = { tic s c with recal := true })) ∧
  (∀ s c tap, (tic s c).state = .running → ticLineSrc (startSel s c) = true → (tic s c).recal = false → tap < 448 →
     tfind (2 * startSel s c) (tic s c).dead = none → (tic s c).win = none → Completes (.ticStartEvent c tap) s (fun t =>
     (tic t c).win.isSome = true ∧ (tic t c).winHit = false ∧ (tic t c).n = (tic s c).n)) ∧
  (∀ s c tap a, (tic s c).state = .running → ticLineSrc (stopSel s c) = true → tap < 448 → (tic s c).recal = false →
     tfind (2 * stopSel s c + 1) (tic s c).dead = none → (tic s c).win = some a → let b := ticSampled s (tic s c).calStop tap;
     ticPast s c (ticInterval (ticFt s c) a b) = false → ticInWindow s c (ticInterval (ticFt s c) a b) = true →
     (tic s c).n + 1 < rf s (A.TIC_N c) 0 25 → Completes (.ticStopEvent c tap) s (fun t => (tic t c).n = (tic s c).n + 1 ∧
     (tic t c).state = .running ∧ (tic t c).lastStart = a.stamp ∧ (tic t c).lastStop = b.stamp ∧
     (tic t c).lastVerdict = orderVerdict a.stamp b.stamp ∧ (tic t c).win = if ticMulti s c then some a else none)) ∧
  (∀ s c tap a, (tic s c).state = .running → ticLineSrc (stopSel s c) = true → tap < 448 → (tic s c).recal = false →
     tfind (2 * stopSel s c + 1) (tic s c).dead = none → (tic s c).win = some a → let b := ticSampled s (tic s c).calStop tap;
     ticPast s c (ticInterval (ticFt s c) a b) = false → ticInWindow s c (ticInterval (ticFt s c) a b) = true →
     rf s (A.TIC_N c) 0 25 ≤ (tic s c).n + 1 → Completes (.ticStopEvent c tap) s (fun t => (tic t c).n = (tic s c).n + 1 ∧
     (tic t c).state = .ended ∧ (tic t c).fault = 0 ∧ (tic t c).win = none ∧ (tic t c).group.count = (tic s c).n + 1 ∧
     (tic t c).group.lastStart = a.stamp ∧ (tic t c).group.lastStop = b.stamp)) ∧
  (∀ s c a, (tic s c).win = some a → ticPast s c (ticInterval (ticFt s c) a (ticComputed s (now64 s .keel))) = true →
     Completes (.ticWindowClose c) s (fun t => tic t c = { tic s c with win := none })) ∧
  (∀ s k x, tapLaunch (grp s .keel k) = some x → k = rf s A.LMON_GROUP 0 6 → (grp s .keel k).state = .launching →
     tfind k s.mus.lastTap ≠ some x.step → atOrAfter (now64 s .keel) (ftAdd x.t (-(nsU (rn s A.TAP_LEAD) : Int))) = true →
     Gives (.launchTapFire k) s (fun t => tfind k t.mus.lastTap = some x.step ∧ Out.tap 0x0B x.t ∈ t.out)) ∧
  (∀ s k x d, (grp s .keel k).toTwin = [(x, d, false)] → k = rf s A.LMON_GROUP 0 6 → (grp s .keel k).state = .launching →
     tfind k s.mus.lastTap ≠ some x.step → atOrAfter (now64 s .keel) (ftAdd x.t (-(nsU (rn s A.TAP_LEAD) : Int))) = true →
     Gives (.launchTapFire k) s (fun t => tfind k t.mus.lastTap = some x.step ∧ Out.tap 0x0B x.t ∈ t.out)) ∧
  (∀ s, s.keel.clk.valid = true → s.keel.clk.now.ns.toNat * 2 ^ 32 + s.keel.clk.now.frac.toNat < lastCycle s.keel.clk →
     Gives (.ftSec) s (fun t => Out.tap 0x0A (fabFt64 { s.keel.clk.now with ns := 0, frac := 0 }) ∈ t.out ∧ t.keel = s.keel))

/-! The Evxus block (06). -/

/-- R141, R153 to R155, R164: ev_rst_n puts the block and its muster state at reset and keeps the link levels and the accesses
that the host still holds (that the levels and a held access remain is the model's reading, log entry 26); READY rises
once the reference clock is there, and an access held until then completes; SOFT_RST clears lines, FIFO and arrivals, and
lowers the outputs while the host clock is present; a page is refused with PAGE_BAD, waits for the lines, or takes effect;
EV_UNLOCK opens the expert page with the key alone. -/
def Obligations.EvReset : Prop :=
  (∀ s, Completes (.evRstN) s (fun t => t.ev = { refclkOk := s.ev.refclkOk, held := s.ev.held } ∧ t.evMus = {} ∧
     t.evx.clk = { oscOk := s.evx.clk.oscOk } ∧ t.evx.svo = {} ∧ t.evx.ref = {} ∧ t.evx.icl = {} ∧
     t.evx.ports = (s.evx.ports.filter (fun x => x.2.linkUp)).map (fun x => (x.1, { linkUp := true })) ∧ t.keel = s.keel)) ∧
  (∀ s, s.ev.ready = false → s.ev.refclkOk = true → s.ev.held = [] → Completes (.evReady) s (fun t =>
     t.ev = { s.ev with ready := true, outage := false } ∧ t.evx = s.evx)) ∧
  (∀ s v, s.ev.ready = false → s.ev.refclkOk = true → s.ev.held = [.evUnlock v] → Completes (.evReady) s (fun t =>
     t.ev = { s.ev with ready := true, outage := false, held := [], unlocked := v == 0x4558#32 } ∧ t.evx = s.evx)) ∧
  (∀ s, s.ev.refclkOk = false → Completes (.evReady) s (fun t => t.ev = s.ev ∧ t.evx = s.evx)) ∧
  (∀ s, nodeRuns s .evxus = true → Gives (.softRst) s (fun t => t.ev.fifo = [] ∧ t.ev.arrSent = [] ∧
     t.ev.lines.length = s.ev.lines.length ∧ (s.ev.hclk = true → ∀ l, l < 8 →
     lineOf t l = { lowers := (lineOf s l).lowers }) ∧ (s.ev.hclk = false → ∀ l, l < 8 →
     lineOf t l = { level := (lineOf s l).level, lowers := (lineOf s l).level }) ∧ t.evx = s.evx)) ∧
  (∀ s, nodeRuns s .evxus = true → pageBad s = true → Gives (.pageCommit) s (fun t => flag t A.EV_CTRL 2 = true ∧
     t.ev = { s.ev with commitPend := false } ∧ t.evx = s.evx ∧ t.staged = s.staged)) ∧
  (∀ s, nodeRuns s .evxus = true → pageBad s = false → anyArmed s = true → Completes (.pageCommit) s (fun t =>
     t.ev = { s.ev with commitPend := true } ∧ t.evx = s.evx ∧ t.staged = s.staged)) ∧
  (∀ s, nodeRuns s .evxus = true → pageBad s = false → anyArmed s = false → Completes (.pageCommit) s (fun t =>
     t.ev.commitPend = false ∧ t.evx.ref.applyPend.isSome = true ∧
     t.staged = s.staged.filter (fun e => !(decide (evLo ≤ e.1) && decide (e.1 < evHi))))) ∧
  (∀ s, s.ev.commitPend = true → anyArmed s = false → pageBad s = false → Completes (.pageCommitApply) s (fun t =>
     t.ev.commitPend = false ∧ t.evx.ref.applyPend.isSome = true ∧
     t.staged = s.staged.filter (fun e => !(decide (evLo ≤ e.1) && decide (e.1 < evHi))))) ∧
  (∀ s, s.ev.commitPend = true → anyArmed s = false → pageBad s = true → Gives (.pageCommitApply) s (fun t =>
     flag t A.EV_CTRL 2 = true ∧ t.ev = { s.ev with commitPend := false } ∧ t.evx = s.evx ∧ t.staged = s.staged)) ∧
  (∀ s v, nodeRuns s .evxus = true → Completes (.evUnlock v) s (fun t => t.ev = { s.ev with unlocked := v == 0x4558#32 } ∧
     t.evx = s.evx))

/-- R142, R144, R185: a LAUNCH on an upstream tap arms an idle line that is enabled and bound to its group; a line that is due
asserts at an edge of the host clock, so that the line goes high (in TOGGLE mode it inverts), and records step and T; a
pulse ends; LAUNCH_CLR lowers LEVEL lines, at once or when the host clock is back; the host clock is lost, and present
again with a period in range. -/
def Obligations.LaunchLines : Prop :=
  (∀ s p m l, nodeRuns s .evxus = true → (port s .evxus p).linkUp = true → portWorks s .evxus p = true → mCrcOk m = true →
     mType m = 4 → isUpstream s .evxus p = true → l < 8 → s.ev.lines.length = 8 → lineEnabled s l = true →
     lineGroup s l = (launchOf m).group → ((lineOf s l).recorded = false ∨ (lineOf s l).lastStep < (launchOf m).step) →
     (lineOf s l).armed = none → (launchOf m).step ≠ 0 → Completes (.evLaunchReceive p m) s (fun t =>
     (lineOf t l).armed = some ((launchOf m).step, (launchOf m).t) ∧
     (lineOf t l).late = decide (0 < ftDiff (now64 s .evxus) (launchOf m).t) ∧ (lineOf t l).level = (lineOf s l).level ∧
     (lineOf t l).lastStep = (lineOf s l).lastStep)) ∧
  (∀ s l (ph : Nat) st t0, l < 8 → s.ev.lines.length = 8 → (lineOf s l).armed = some (st, t0) →
     lineDue s (ftAdd (now64 s .evxus) ph) l = true → Gives (.launchLineAssert l ph) s (fun t => (lineOf t l).armed = none ∧
     (lineOf t l).level = (if rf s (A.E_LAUNCH_CFG l) 8 2 = 2 then !(lineOf s l).level else true) ∧
     ((lineOf s l).level = false → Out.pin (.launch l) true ∈ t.out) ∧
     (lineOf t l).pulseLeft = (if rf s (A.E_LAUNCH_CFG l) 8 2 = 0 then some (rf s (A.E_LAUNCH_CFG l) 12 4 + 1) else none) ∧
     (lineOf t l).lastStep = st ∧ (lineOf t l).lastT = t0 ∧ (lineOf t l).recorded = true ∧
     (lineOf t l).edgeDt = fullDiff (widen s .evxus (ftAdd (now64 s .evxus) ph)) (lineOf s l).full / 65536)) ∧
  (∀ s l, l < 8 → s.ev.lines.length = 8 → (lineOf s l).pulseLeft.isSome = true → s.ev.hclk = true →
     Completes (.launchPulseEnd l) s (fun t => lineOf t l = { lineOf s l with pulseLeft := none, level := false })) ∧
  (∀ s v l, nodeRuns s .evxus = true → l < 8 → bit v l = true → rf s (A.E_LAUNCH_CFG l) 8 2 = 1 → s.ev.hclk = true →
     Completes (.launchClr v) s (fun t => lineOf t l = { lineOf s l with level := false })) ∧
  (∀ s v l, nodeRuns s .evxus = true → l < 8 → bit v l = true → rf s (A.E_LAUNCH_CFG l) 8 2 = 1 → s.ev.hclk = false →
     Completes (.launchClr v) s (fun t => lineOf t l = { lineOf s l with lowers := (lineOf s l).level })) ∧
  (∀ s, s.ev.hclk = true → Gives (.hclkLoss) s (fun t =>
     t.ev = { s.ev with hclk := false, hclkPeriod := 0, hclkLost := some (now s .evxus) } ∧ flag t A.EV_ERR_STAT 2 = true)) ∧
  (∀ s per, 20480 ≤ per → per ≤ 263454 → Completes (.hclkPresent per) s (fun t => t.ev.hclk = true ∧ t.ev.hclkPeriod = per)) ∧
  (∀ s per l, 20480 ≤ per → per ≤ 263454 → s.ev.hclk = false → l < 8 → (lineOf s l).lowers = true →
     Completes (.hclkPresent per) s (fun t => (lineOf t l).level = false ∧ (lineOf t l).lowers = false)) ∧
  (∀ s per, (per < 20480 ∨ 263454 < per) → Completes (.hclkPresent per) s (fun t => t.ev = s.ev))

/-- R145, R146, R150, R168: an accepted edge enters the FIFO with its stamp; a pop takes the oldest entry and returns its word
0; ARRIVE sends once for a step and records it; the wake timer is armed by its high word, which takes the low word held
for it, nanoseconds past their range as their limit, and sets its bit once. R147 to R149, R153: a whole message accepted
for transmission leaves with its stamp filled in; one that is not whole stays on the beats; an incomplete one is discarded
and counted; a write of TX_LAT, RX_LAT or UI_FS under unlock clears ASYM_VALID, and a virtual reference of that tap loses
its activity; the loss of ev_refclk clears READY and VALID, and its return makes the node acquire its time anew, with
PLL_UNLOCK if the lock had been lost. -/
def Obligations.EvEvents : Prop :=
  (∀ s i f ph, i < 16 → nodeRuns s .evxus = true → s.ev.hclk = true → edgeTaken s i f = true → s.ev.fifo.length ≤ 60 →
     Completes (.eventEdge i f ph) s (fun t =>
     t.ev.fifo = s.ev.fifo ++ [⟨i, f, s.ev.evtSeq, 0, hclkStamp (ftAdd (now64 s .evxus) ph) s, flag s (A.E_EVT_CFG i) 8⟩] ∧
     t.ev.evtSeq = s.ev.evtSeq + 1)) ∧
  (∀ s v, nodeRuns s .evxus = true → bit v 31 = true → (lineOf s (bits v 0 3)).armed = none → s.ev.outage = false →
     (tget [] s.ev.arrSent (lineGroup s (bits v 0 3))).contains ((lineOf s (bits v 0 3)).lastStep + 1) = false →
     let y := lineOf s (bits v 0 3); let k := lineGroup s (bits v 0 3); let st := hclkStamp (now64 s .evxus) s;
     let fl := b2n y.lastLate * 2 + b2n y.conflict * 32; Gives (.arrive v) s (fun t =>
     t.ev = { s.ev with arrSent := tmod [] s.ev.arrSent k (fun l => (y.lastStep + 1) :: l) } ∧
     flag t A.E_ARRIVE_STAT 0 = true ∧ (∀ p, s.evx.ref.bind.getD 0 none = some p → (port s .evxus p).linkUp = true →
     Out.msg .evxus p (mkMsg 5 ((port s .evxus p).seqs.getD 4 0).toNat (senderOf s .evxus p) (arriveBody k fl (y.lastStep + 1) (nodeId s .evxus) st)) ∈ t.out) ∧
     (∀ p, s.evx.ref.bind.getD 1 none = some p → s.evx.ref.bind.getD 0 none ≠ some p → (port s .evxus p).linkUp = true →
     Out.msg .evxus p (mkMsg 5 ((port s .evxus p).seqs.getD 4 0).toNat (senderOf s .evxus p) (arriveBody k (fl + 1) (y.lastStep + 1) (nodeId s .evxus) st)) ∈ t.out))) ∧
  (∀ s v, nodeRuns s .evxus = true → bit v 31 = true →
     (tget [] s.ev.arrSent (lineGroup s (bits v 0 3))).contains ((lineOf s (bits v 0 3)).lastStep + 1) = true →
     Gives (.arrive v) s (fun t => t.ev = s.ev ∧ t.evx = s.evx ∧ flag t A.E_ARRIVE_STAT 1 = true)) ∧
  (∀ s x r, nodeRuns s .evxus = true → s.ev.fifo = x :: r → Gives (.evtPop) s (fun t =>
     t.ev = { s.ev with fifo := r, popped := some x } ∧ t.host.rdata = (evtWord0 x).setWidth 64)) ∧
  (∀ s v, nodeRuns s .evxus = true → let lo := (tget none s.host.lowHeld A.E_WAKE_AT).getD (rd s A.E_WAKE_AT);
     let f := ftClamp (v ++ lo); Gives (.wakeAt v) s (fun t =>
     t.ev = { s.ev with wakeArmed := true, wakeDue := widen s .evxus f } ∧ rd t (A.E_WAKE_AT + 4) = wordAt f.toNat 1 ∧
     rd t A.E_WAKE_AT = wordAt f.toNat 0 ∧ ftNs f < 1000000000 ∧ (ftNs (v ++ lo) < 1000000000 → rd t (A.E_WAKE_AT + 4) = v ∧
     rd t A.E_WAKE_AT = lo))) ∧
  (∀ s, s.ev.wakeArmed = true → s.ev.refclkOk = true → fullAtOrAfter (now s .evxus) s.ev.wakeDue = true →
     Gives (.wakeTimer) s (fun t => t.ev = { s.ev with wakeArmed := false } ∧ flag t A.E_WAKE_STAT 3 = true)) ∧
  (∀ s p b m, nodeRuns s .evxus = true → (port s .evxus p).linkUp = true → m.length = 64 →
     Gives (.tapTxSof p b m) s (fun t => t.out = .msg .evxus p (fillStamp (txStamp s .evxus p 0) m) :: s.out ∧ t.ev = s.ev)) ∧
  (∀ s p b m, nodeRuns s .evxus = true → (port s .evxus p).linkUp = true → m.length ≠ 64 →
     Completes (.tapRxSof p b m) s (fun t => (tget {} t.ev.taps p).rx = some m ∧ t.evx = s.evx)) ∧
  (∀ s p b m, nodeRuns s .evxus = true → (port s .evxus p).linkUp = true → portWorks s .evxus p = true → mCrcOk m = true →
     mType m = 7 → Completes (.tapRxSof p b m) s (fun t =>
     tget {} t.ev.health p = { state := getBE m 12 1 % 4, flags := BitVec.ofNat 8 (getBE m 13 1), score := getBE m 14 2 % 1024, unc := BitVec.ofNat 32 (getBE m 16 4) } ∧
     t.evx = s.evx)) ∧
  (∀ s p, nodeRuns s .evxus = true → p < 64 → Gives (.tapOrphan p) s (fun t => tget {} t.ev.taps p = {} ∧
     rd t A.E_TAP_ORPHAN = rd s A.E_TAP_ORPHAN + 1 ∧ flag t A.EV_ERR_STAT 4 = true ∧ flag t (A.E_PORT_STAT p) 10 = true)) ∧
  (∀ s p k v, nodeRuns s .evxus = true → s.ev.unlocked = true → p < 64 → k < 3 → Gives (.tapLatWrite p k v) s (fun t =>
     (port t .evxus p).asymValid = false ∧ rd t ([A.E_TX_LAT p, A.E_RX_LAT p, A.E_UI_FS p].getD k 0) = v ∧
     (∀ i, i ∈ boundTo s .evxus p → (src t .evxus (4 + i)).active = false))) ∧
  (∀ s, s.ev.refclkOk = true → Gives (.refclkLoss) s (fun t => t.ev.ready = false ∧ t.ev.refclkOk = false ∧
     t.evx.clk.valid = false ∧ t.evx.clk.unc = 0xFFFFFFFF#32 ∧ flag t A.EV_ERR_STAT 0 = true)) ∧
  (∀ s, s.ev.refclkOk = false → Gives (.evPllRelock) s (fun t => t.ev = { s.ev with refclkOk := true, lockLost := false } ∧
     t.evx.svo.acquired = false ∧ t.evx.svo.jumpPending = false ∧ t.evx.clk.oscOk = true ∧
     flag t A.EV_ERR_STAT 1 = (flag s A.EV_ERR_STAT 1 || s.ev.lockLost)))

/-! Registers and the host interface (01, 19). -/

/-- R9, R31, R438, R440: a word written puts RW and RWS bits to the value, within range, clears RW1C bits where it is 1, and
leaves every other bit; a write of another size than 4 or 8 bytes, or not aligned to its size, is counted and changes
nothing else of the registers named; a write of BANK_OWNER in the cycle of a hardware update of it is discarded (R12; that
a command's update and the write after it share a cycle is how the model puts it, log entry 11); a read clears the RC
bits; a read of a low word or of word 0 latches the words above it, and one of eight bytes gives both words of one moment.
Of the blocks below 0x130000, whose registers have no further rule. -/
def Obligations.RegisterAccess : Prop :=
  (∀ s a v r, a < 0x130000 → a % 4 = 0 → absentAt s a = false → expertPage a = false → halfOf a = 0 →
     (ownOf a v).isNone = true → regRow a = some r → r.rwc = 0 → Gives (.registerWrite a ⟨4, 0⟩ (v.setWidth 64)) s (fun t =>
     rd t a = (rd s a &&& ~~~ BitVec.ofNat 32 (r.rw ||| r.rws) &&& ~~~ (BitVec.ofNat 32 r.w1c &&& v)) ||| (clampWord a v &&& BitVec.ofNat 32 (r.rw ||| r.rws)) ∧
     t.keel = s.keel ∧ t.staged = s.staged)) ∧
  (∀ s a v, a < evLo → a % 4 ≠ 0 → Gives (.registerWrite a ⟨4, 0⟩ v) s (fun t => rd t A.ACC_ERR = rd s A.ACC_ERR + 1 ∧
     flag t A.HOST_STAT 1 = true ∧ t.staged = s.staged ∧ t.keel = s.keel)) ∧
  (∀ s a n hw v, a < evLo → (ownerAt a = false ∨ hw = 0) → ((n ≠ 4 ∧ n ≠ 8) ∨ a % n ≠ 0) →
     Gives (.registerWrite a ⟨n, hw⟩ v) s (fun t => rd t A.ACC_ERR = rd s A.ACC_ERR + 1 ∧ flag t A.HOST_STAT 1 = true ∧
     t.staged = s.staged ∧ t.keel = s.keel)) ∧
  (∀ s a n hw v, hw ≠ 0 → ownerAt a = true → Gives (.registerWrite a ⟨n, hw⟩ v) s (fun t => t = s)) ∧
  (∀ s a, a < evLo → a % 4 = 0 → latched s a = none → snapView s = false → absentAt s a = false → halfOf a = 0 →
     ft128At a = false → Gives (.rcCounterRead ⟨a, 4⟩) s (fun t => t.host.rdata = (peek s a).setWidth 64 ∧
     rd t a = rd s a &&& ~~~ rcMask a)) ∧
  (∀ s a, a < evLo → a % 4 = 0 → latched s a = none → halfOf a = 1 → rcMask a = 0 → ft128At a = false →
     Gives (.lowWordRead ⟨a, 4⟩) s (fun t => t.host.rdata = (peek s a).setWidth 64 ∧
     latched t (a + 4) = some (peek s (a + 4)) ∧ t.regs = s.regs)) ∧
  (∀ s a, a < evLo → a % 8 = 0 → latched s a = none → halfOf a = 1 → halfOf (a + 4) = 2 → rcMask a = 0 →
     rcMask (a + 4) = 0 → ft128At a = false → Gives (.lowWordRead ⟨a, 8⟩) s (fun t =>
     t.host.rdata = peek s (a + 4) ++ peek s a ∧ t.regs = s.regs)) ∧
  (∀ s, latched s A.TIME_NOW = none → Gives (.ft128Word0Read ⟨A.TIME_NOW, 4⟩) s (fun t =>
     t.host.rdata = (peek s A.TIME_NOW).setWidth 64 ∧ latched t (A.TIME_NOW + 4) = some (peek s (A.TIME_NOW + 4)) ∧
     latched t (A.TIME_NOW + 8) = some (peek s (A.TIME_NOW + 8)) ∧
     latched t (A.TIME_NOW + 12) = some (peek s (A.TIME_NOW + 12)))) ∧
  (∀ s a b v, unlockBase a = some b → absentAt s a = false → Gives (.expertUnlock a v) s (fun t =>
     t.host.unlocked.contains b = (v == 0x4558#32)))

/-- R446, R448 to R451: SNAP arms a snapshot SNAP_LEAD from now; a die latches at T_snap; one late by 100 µs fails it; an
acknowledgement makes a vector pending whose level is 1; a pending vector that is not masked sends its message; a function
reset locks the expert pages and keeps the tickets; what it clears of the vectors and holdoffs is the model's reading (log
entry 49). -/
def Obligations.HostServices : Prop :=
  (∀ s v, bit v 31 = true → s.host.snap.state ≠ .armed → Gives (.snap v) s (fun t => t.host.snap.state = .armed ∧
     t.host.snap.time = usAfter (now s .keel) (rn s A.SNAP_LEAD) ∧ t.host.snap.rcClear = bit v 2 ∧ t.host.snap.dies = [])) ∧
  (∀ s d, s.host.snap.state = .armed → diePresent s d = true → s.host.snap.dies.contains d = false →
     fullAtOrAfter (now s .keel) s.host.snap.time = true → Gives (.snapLatch d) s (fun t =>
     t.host.snap.dies = s.host.snap.dies ++ [d] ∧
     tfind d t.host.snap.stamps = some { stampDie s d with ft := fabFt64 s.host.snap.time })) ∧
  (∀ s d, s.host.snap.state = .armed → diePresent s d = true → s.host.snap.dies.contains d = false →
     fullAtOrAfter (now s .keel) (usAfter s.host.snap.time 100) = true → Gives (.snapDieTimeout d) s (fun t =>
     t.host.snap.state = .failed ∧ t.host.snap.fault = 3)) ∧
  (∀ s v i, i < 4 → bit v i = true → irqLevel s i = true → Gives (.irqAck v) s (fun t =>
     t.host.pendVec.getD i false = true ∧ alertPin t = false)) ∧
  (∀ s i, i < 4 → s.host.pendVec.getD i false = true → flag s (A.MSIX_CTRL i) 0 = false →
     s.host.lastMsg.getD i none = none → Gives (.msixMessage i) s (fun t => t.out = .msix i :: s.out ∧
     t.host.pendVec.getD i false = false)) ∧
  (∀ s k, Gives (.pcieFlr k) s (fun t => t.host.unlocked = [] ∧ t.host.pendVec = [false, false, false, false] ∧
     alertPin t = true ∧ t.host.link = (if k.cause = 0 then s.host.link else k.link) ∧ t.host.opstat = s.host.opstat ∧
     t.host.serial = s.host.serial ∧ flag t A.HOST_STAT 3 = true ∧ rd t A.IRQ_HOLDOFF = resetOf A.IRQ_HOLDOFF))

/-! Tallies, gates and dumps (12). -/

/-- R297, R299, R300, R302: SIGNAL adds its delta where the sum stays in 0 to 65535, and the satisfied waiters at the head of
the queue leave it; a sum outside leaves the value, sets ERR and empties the queue; SET puts the value and clears ERR;
CLEAR_ERR clears ERR alone; CLEAR zeroes the tally and advances GEN, held CLEARING until the other die has acknowledged
it, behind every packet in the crossing. R298, R303, R304: it is taken from those on their way; one whose GEN is not the
tally's changes no tally and counts in STALE_SIG; one of another partition changes no tally; any other adds its delta. -/
def Obligations.TallyCommands : Prop :=
  (∀ die v s, 5 ≤ die → die < 7 → diePresent s die = true → refTally s (bits v 0 16) = true →
     let k := tallyKey (bits v 0 16); let x := tallyOf s k;
     let n := (x.value : Int) + sgn 16 (rf s (A.TALLY_CMD_VAL (die - 5)) 0 16); 0 ≤ n → n ≤ 65535 →
     let r := drainWaiters x.waiters n.toNat; Gives (.tallySignal die v) s (fun t =>
     tallyOf t k = { x with value := r.2.1, waiters := r.2.2, lastSig := lastSigOf (k / 5184) srcHost } ∧ t.keel = s.keel ∧
     t.ev = s.ev)) ∧
  (∀ die v s, 5 ≤ die → die < 7 → diePresent s die = true → refTally s (bits v 0 16) = true →
     let k := tallyKey (bits v 0 16); let x := tallyOf s k;
     let n := (x.value : Int) + sgn 16 (rf s (A.TALLY_CMD_VAL (die - 5)) 0 16); (n < 0 ∨ 65535 < n) →
     Gives (.tallySignal die v) s (fun t => tallyOf t k = { x with err := true, waiters := [] })) ∧
  (∀ die v s, 5 ≤ die → die < 7 → diePresent s die = true → refTally s (bits v 0 16) = true →
     let k := tallyKey (bits v 0 16); let x := tallyOf s k;
     let r := drainWaiters x.waiters (rf s (A.TALLY_CMD_VAL (die - 5)) 0 16); Gives (.tallySet die v) s (fun t =>
     tallyOf t k = { x with value := r.2.1, err := false, waiters := r.2.2 })) ∧
  (∀ die v s, 5 ≤ die → die < 7 → diePresent s die = true → refTally s (bits v 0 16) = true →
     let k := tallyKey (bits v 0 16); Gives (.tallyClearErr die v) s (fun t =>
     tallyOf t k = { tallyOf s k with err := false })) ∧
  (∀ die v s, 5 ≤ die → die < 7 → diePresent s die = true → refTally s (bits v 0 16) = true →
     let k := tallyKey (bits v 0 16); let x := tallyOf s k; let two := reduceDie s (1 - k / 5184);
     Gives (.tallyClear die v) s (fun t =>
     tallyOf t k = { x with value := 0, err := false, gen := x.gen + 1, waiters := [], clearing := two, genCopy := if two then x.genCopy else x.gen + 1 })) ∧
  (∀ ref s, refTally s ref = true → sigsCross s (refDie ref) = true → Gives (.tallyClearAck ref) s (fun t => t = s)) ∧
  (∀ ref s, refTally s ref = true → sigsCross s (refDie ref) = false → Gives (.tallyClearAck ref) s (fun t =>
     tallyOf t (tallyKey ref) = { tallyOf s (tallyKey ref) with clearing := false, genCopy := (tallyOf s (tallyKey ref)).gen })) ∧
  (∀ src ref y s, s.die.sigs.find? (fun x => x.1 == src && x.2.1 == ref) = some y → let k := tallyKey ref;
     let x := tallyOf s k; x.gen = y.2.2.1 →
     (src = srcHost ∨ engPart s (src / 128) (src % 128) = engPart s (refDie ref) (refEng ref)) →
     0 ≤ (x.value : Int) + y.2.2.2 → (x.value : Int) + y.2.2.2 ≤ 65535 →
     let r := drainWaiters x.waiters ((x.value : Int) + y.2.2.2).toNat; Gives (.signalArrival src ref) s (fun t =>
     t.die.sigs = s.die.sigs.erase y ∧
     tallyOf t k = { x with value := r.2.1, waiters := r.2.2, lastSig := lastSigOf (k / 5184) src })) ∧
  (∀ src ref y s, s.die.sigs.find? (fun x => x.1 == src && x.2.1 == ref) = some y →
     (tallyOf s (tallyKey ref)).gen ≠ y.2.2.1 → Gives (.signalArrival src ref) s (fun t =>
     t.die = { s.die with sigs := s.die.sigs.erase y } ∧
     rd t (A.STALE_SIG (refDie ref)) = rd s (A.STALE_SIG (refDie ref)) + 1 ∧ flag t (A.TALLY_STAT (refDie ref)) 3 = true)) ∧
  (∀ src ref y s, s.die.sigs.find? (fun x => x.1 == src && x.2.1 == ref) = some y →
     (tallyOf s (tallyKey ref)).gen = y.2.2.1 → src ≠ srcHost →
     engPart s (src / 128) (src % 128) ≠ engPart s (refDie ref) (refEng ref) → Gives (.signalArrival src ref) s (fun t =>
     t.die = { s.die with sigs := s.die.sigs.erase y } ∧ flag t (A.TALLY_STAT (refDie ref)) 4 = true))

/-- R306 to R308: a member that is not the last is kept and its engine waits; the last one opens the gate, whose GEN advances
and whose members wait no longer; an engine outside the mask is refused NOT_MEMBER and counted, and so is one at a gate
that is not enabled (the model's reading, log entry 68); CANCEL empties a FILLING gate and its members, DMA engines apart,
fault; an engine that waits at another gate arrives at no second one. -/
def Obligations.Gates : Prop :=
  (∀ die g e s, 5 ≤ die → die < 7 → diePresent s die = true → g < 16 → let dx := die - 5; let x := gateOf s dx g;
     let a := x.arrived ||| BitVec.ofNat 128 (2 ^ e); gateEnabled s dx g = true → (gateMask s dx g).getLsbD e = true →
     a ≠ gateMask s dx g → coreOn s (die - 5) = true → mayArrive s dx g e = true →
     (engOf s (die - 5) e).gate.any (fun y => y != g) = false → Gives (.gateArrive die g e) s (fun t =>
     gateOf t dx g = { x with arrived := a } ∧ engOf t dx e = { engOf s dx e with gate := some g } ∧
     t.die.tallies = s.die.tallies)) ∧
  (∀ die g e s, 5 ≤ die → die < 7 → diePresent s die = true → g < 16 → let dx := die - 5; let x := gateOf s dx g;
     gateEnabled s dx g = true → (gateMask s dx g).getLsbD e = true →
     x.arrived ||| BitVec.ofNat 128 (2 ^ e) = gateMask s dx g → coreOn s (die - 5) = true → mayArrive s dx g e = true →
     (engOf s (die - 5) e).gate.any (fun y => y != g) = false → Gives (.gateArrive die g e) s (fun t =>
     gateOf t dx g = { x with arrived := 0, gen := x.gen + 1 } ∧ ((∀ j, j < 108 → (gateMask s dx g).getLsbD j = true →
     (engOf t dx j).gate = none)))) ∧
  (∀ die g e s, 5 ≤ die → die < 7 → diePresent s die = true → g < 16 → e < 108 → isDma e = false → let dx := die - 5;
     (gateEnabled s dx g = false ∨ (gateMask s dx g).getLsbD e = false) → coreOn s (die - 5) = true →
     mayArrive s dx g e = true → (engOf s (die - 5) e).gate.any (fun y => y != g) = false →
     Gives (.gateArrive die g e) s (fun t => t.die.gates = s.die.gates ∧ (engOf t dx e).state = .fault ∧
     rd t (A.GATE_NM dx) = rd s (A.GATE_NM dx) + 1)) ∧
  (∀ die g e s, 5 ≤ die → die < 7 → diePresent s die = true → g < 16 →
     (engOf s (die - 5) e).gate.any (fun y => y != g) = true → Gives (.gateArrive die g e) s (fun t => t = s)) ∧
  (∀ die g s, 5 ≤ die → die < 7 → diePresent s die = true → g < 16 → let dx := die - 5; let x := gateOf s dx g;
     x.arrived ≠ 0 → Gives (.gateCancel die g) s (fun t => gateOf t dx g = { x with arrived := 0, gen := x.gen + 1 } ∧
     ((∀ j, j < 108 → x.arrived.getLsbD j = true → isDma j = false → (engOf t dx j).state = .fault)))) ∧
  (∀ die g s, 5 ≤ die → die < 7 → diePresent s die = true → g < 16 → (gateOf s (die - 5) g).arrived = 0 →
     Gives (.gateCancel die g) s (fun t => t = s))

/-- R310, R442, R445: DUMP_REQ with GO takes a ticket of block 26 and the image as it then stands; TALLY_DUMP_DONE puts the
image where it goes, to the host or to the stack, and ends the ticket with the records written; the part before a burst
that its segment refuses stands. -/
def Obligations.Dumps : Prop :=
  (∀ die v k s, 5 ≤ die → die < 7 → diePresent s die = true → bit v 31 = true →
     s.die.dumps.any (fun d => d.dx == die - 5) = false → nextTicket s = some k → Gives (.dumpReq die v) s (fun t =>
     t.die.dumps = s.die.dumps ++ [{ dx := die - 5, ticket := k, stack := bit v 8, seg := bits v 0 8, addr := rn64 s (A.DUMP_ADDR (die - 5)), image := dumpImage s (die - 5) }] ∧
     opstat t k = { state := .running, serial := s.host.serial, block := 26 } ∧
     rd t (A.DUMP_TICKET (die - 5)) = BitVec.ofNat 32 (s.host.serial * 65536 + k))) ∧
  (∀ die d s, 5 ≤ die → die < 7 → diePresent s die = true → s.die.dumps.find? (fun d => d.dx == die - 5) = some d →
     d.stack = false → (opstat s d.ticket).state ≠ .ended → Gives (.tallyDumpDone die none) s (fun t =>
     t.die.dumps = s.die.dumps.erase d ∧
     t.out = (if d.image = [] then s.out else .hostWrite (BitVec.ofNat 64 d.addr) d.image :: s.out) ∧
     opstat t d.ticket = { opstat s d.ticket with progress := min (dumpRecords d.image.length) 0xFFFFFF, partial_ := (opstat s d.ticket).partial_ || dumpRecords d.image.length != 0, state := .ended, fault := 0 })) ∧
  (∀ die d ok s, 5 ≤ die → die < 7 → diePresent s die = true → s.die.dumps.find? (fun d => d.dx == die - 5) = some d →
     d.stack = true → segRegion s (die - 5) d.seg = 3 → dumpSegCheck s d = none → (opstat s d.ticket).state ≠ .ended →
     Gives (.tallyDumpDone die ok) s (fun t => t.die.dumps = s.die.dumps.erase d ∧
     t.die.stack = putBytes d.addr d.image s.die.stack ∧
     opstat t d.ticket = { opstat s d.ticket with progress := min (dumpRecords d.image.length) 0xFFFFFF, partial_ := (opstat s d.ticket).partial_ || dumpRecords d.image.length != 0, state := .ended, fault := 0 })) ∧
  (∀ die d c a ok s, 5 ≤ die → die < 7 → diePresent s die = true → s.die.dumps.find? (fun d => d.dx == die - 5) = some d →
     d.stack = true → segRegion s (die - 5) d.seg = 3 → dumpSegCheck s d = some (c, a) → (opstat s d.ticket).state ≠ .ended →
     Gives (.tallyDumpDone die ok) s (fun t => t.die.stack = putBytes d.addr (d.image.take (a - d.addr)) s.die.stack ∧
     (opstat t d.ticket).state = .ended ∧ (opstat t d.ticket).fault = 2 ∧
     rd t (A.SEG_VIOL_CNT (die - 5)) = rd s (A.SEG_VIOL_CNT (die - 5)) + 1)) ∧
  (∀ die d n s, 5 ≤ die → die < 7 → diePresent s die = true → s.die.dumps.find? (fun d => d.dx == die - 5) = some d →
     d.stack = false → (opstat s d.ticket).state ≠ .ended → n ≤ d.image.length →
     Gives (.tallyDumpDone die (some n)) s (fun t =>
     t.out = (if n = 0 then s.out else .hostWrite (BitVec.ofNat 64 d.addr) (d.image.take n) :: s.out) ∧
     t.die.dumps = s.die.dumps.erase d ∧ (opstat t d.ticket).state = .ended ∧ (opstat t d.ticket).fault = 1))

/-! Banks, stacks (11). -/

/-- R280 to R285: an owner write that the rule allows changes the owner; one that it does not allows changes no bank and
counts in OWN_REFUSED; CLEAR_REQ begins the clear of a host-owned bank, at whose end every byte of the bank reads zero,
every other byte as before, and the host owns it; the aperture reads and writes the bytes of a host-owned bank, and reads
zero of any other; a line read that meets an error counts it, and is recorded where it cannot be corrected (what the host
is then given is free, log entry 29). R288, R293: a patrol pass counts its pass and every error it met; the end of a
range's scrub leaves zero in the range and every other byte of the stacks as it was. -/
def Obligations.Banks : Prop :=
  (∀ die b v s, 5 ≤ die → die < 7 → diePresent s die = true → b < 256 →
     ownerWriteOk s (die - 5) b 0xFF (bits v 0 8) = true → Gives (.bankOwnerWrite die b v) s (fun t =>
     bankOf t (die - 5) b = { bankOf s (die - 5) b with owner := bits v 0 8 } ∧ t.regs = s.regs ∧ t.die.sram = s.die.sram)) ∧
  (∀ die b v s, 5 ≤ die → die < 7 → diePresent s die = true → b < 256 →
     ownerWriteOk s (die - 5) b 0xFF (bits v 0 8) = false → Gives (.bankOwnerWrite die b v) s (fun t => t.die = s.die ∧
     rd t (A.OWN_REFUSED (die - 5)) = rd s (A.OWN_REFUSED (die - 5)) + 1 ∧ flag t (A.BANK_STAT (die - 5)) 2 = true)) ∧
  (∀ die v s, 5 ≤ die → die < 7 → diePresent s die = true → bit v 31 = true → bankOwner s (die - 5) (bits v 0 8) = 0xFF →
     Gives (.clearReq die v) s (fun t =>
     bankOf t (die - 5) (bits v 0 8) = { bankOf s (die - 5) (bits v 0 8) with clearing := true } ∧ t.die.sram = s.die.sram)) ∧
  (∀ die b s, 5 ≤ die → die < 7 → diePresent s die = true → b < 256 → (bankOf s (die - 5) b).clearing = true →
     let lo := (die - 5) * 2 ^ 27 + b * 2 ^ 19; Gives (.bankClearDone die b) s (fun t =>
     bankOf t (die - 5) b = { bankOf s (die - 5) b with clearing := false, owner := 0xFF } ∧
     (∀ a, tget 0 t.die.sram a = if lo ≤ a ∧ a < lo + 2 ^ 19 then 0 else tget 0 s.die.sram a))) ∧
  (∀ die off size v s, 5 ≤ die → die < 7 → diePresent s die = true → (size = 4 ∨ size = 8) → off % size = 0 →
     off + size ≤ 2 ^ 19 → let b := rf s (A.APER_BANK (die - 5)) 0 8; bankOwner s (die - 5) b = 0xFF →
     Gives (.bankApertureAccess die off size (.write v)) s (fun t =>
     t.die = { s.die with sram := putBytes ((die - 5) * 2 ^ 27 + b * 2 ^ 19 + off) (toLE size v.toNat) s.die.sram } ∧
     t.regs = s.regs)) ∧
  (∀ die off size s, 5 ≤ die → die < 7 → diePresent s die = true → (size = 4 ∨ size = 8) → off % size = 0 →
     off + size ≤ 2 ^ 19 → let b := rf s (A.APER_BANK (die - 5)) 0 8; bankOwner s (die - 5) b = 0xFF →
     Gives (.bankApertureAccess die off size (.read none)) s (fun t =>
     t.host.rdata = BitVec.ofNat 64 (ofLE (getBytes s.die.sram ((die - 5) * 2 ^ 27 + b * 2 ^ 19 + off) size)) ∧ t.die = s.die)) ∧
  (∀ die off size s, 5 ≤ die → die < 7 → diePresent s die = true → (size = 4 ∨ size = 8) → off % size = 0 →
     off + size ≤ 2 ^ 19 → let b := rf s (A.APER_BANK (die - 5)) 0 8; bankOwner s (die - 5) b = 0xFF →
     Gives (.bankApertureAccess die off size (.read (some true))) s (fun t =>
     t.host.rdata = BitVec.ofNat 64 (ofLE (getBytes s.die.sram ((die - 5) * 2 ^ 27 + b * 2 ^ 19 + off) size)) ∧
     rd t (A.SRAM_CE (die - 5)) = rd s (A.SRAM_CE (die - 5)) + 1 ∧ (bankOf t (die - 5) b).ce = (bankOf s (die - 5) b).ce + 1 ∧
     t.die.sram = s.die.sram)) ∧
  (∀ die off size s, 5 ≤ die → die < 7 → diePresent s die = true → (size = 4 ∨ size = 8) → off % size = 0 →
     off + size ≤ 2 ^ 19 → let b := rf s (A.APER_BANK (die - 5)) 0 8; bankOwner s (die - 5) b = 0xFF →
     Gives (.bankApertureAccess die off size (.read (some false))) s (fun t =>
     rd t (A.SRAM_UE (die - 5)) = rd s (A.SRAM_UE (die - 5)) + 1 ∧ (bankOf t (die - 5) b).ueLine = some (off / 64) ∧
     flag t (A.BANK_STAT (die - 5)) 3 = true ∧ t.free = s.free + 1 ∧ t.die.sram = s.die.sram)) ∧
  (∀ die off size ecc s, 5 ≤ die → die < 7 → diePresent s die = true → (size = 4 ∨ size = 8) → off % size = 0 →
     off + size ≤ 2 ^ 19 → bankOwner s (die - 5) (rf s (A.APER_BANK (die - 5)) 0 8) ≠ 0xFF →
     Gives (.bankApertureAccess die off size (.read ecc)) s (fun t => t.host.rdata = 0 ∧ t.die = s.die ∧
     flag t (A.BANK_STAT (die - 5)) 1 = true)) ∧
  (∀ stack ce ues s, stack < 4 → diePresent s (5 + stack / 2) = true → let dx := stack / 2; let i := stack % 2;
     Gives (.stackPatrolScrub stack ce ues) s (fun t => rd t (A.SCRUB_PASS dx i) = rd s (A.SCRUB_PASS dx i) + 1 ∧
     rd t (A.STK_CE dx i) = rd s (A.STK_CE dx i) + BitVec.ofNat 32 ce ∧
     rd t (A.STK_UE dx i) = rd s (A.STK_UE dx i) + BitVec.ofNat 32 ues.length ∧ t.die = s.die)) ∧
  (∀ die first r s, 5 ≤ die → die < 7 → diePresent s die = true →
     s.die.scrubs.find? (fun r => r.1 == die - 5 && r.2.1 == first) = some r →
     Gives (.partitionScrubDone die first) s (fun t => t.die.scrubs = s.die.scrubs.erase r ∧
     (∀ a, tget 0 t.die.stack a = if r.2.1 ≤ a ∧ a ≤ r.2.2.1 then 0 else tget 0 s.die.stack a) ∧ t.die.sram = s.die.sram))

/-! DMA engines (12). -/

/-- R311 to R317, R442: START of an idle engine that is bound and that no committed slot table names takes a ticket of block
24 and begins the first descriptor, which runs at once where it waits on nothing and else queues at its tally, or, a GATE,
arrives at its gate and waits there; while the die's clock stands still it waits with the descriptor fetched (the model's
reading of R426, log entry 51); of an unbound one it is ignored (log entry 31); PREEMPT marks a running engine, which
stops at a 4 KiB boundary of bytes done and stops a waiting one at once; RESTART of a stopped host chain goes on where
words 12 and 13 left it. -/
def Obligations.DmaChains : Prop :=
  (∀ die k tk d s, 5 ≤ die → die < 7 → diePresent s die = true → k < 16 → let dx := die - 5; (dmaOf s dx k).state = .idle →
     dmaScheduled s dx k = false → engPart s dx (0x58 + k) ≠ 0xFF → nextTicket s = some tk → descBad s dx k false d = false →
     refIdx (dWaitRef d) = 63 → dOp d ≠ 4 → coreOn s dx = true → Gives (.dmaStart die k d) s (fun t =>
     dmaOf t dx k = { state := .running, host := true, cur := rn64 s (A.DMA_CHAIN dx k), desc := some ⟨d⟩, waitDone := true, ticket := some tk, sigGen := (dmaOf t dx k).sigGen, regGen := (dmaOf t dx k).regGen } ∧
     engOf t dx (0x58 + k) = { engOf s dx (0x58 + k) with state := .busy } ∧
     opstat t tk = { state := .running, serial := s.host.serial, block := 24 })) ∧
  (∀ die k tk d s, 5 ≤ die → die < 7 → diePresent s die = true → k < 16 → let dx := die - 5; (dmaOf s dx k).state = .idle →
     dmaScheduled s dx k = false → engPart s dx (0x58 + k) ≠ 0xFF → nextTicket s = some tk → descBad s dx k false d = false →
     refIdx (dWaitRef d) ≠ 63 → let key := tallyKey (dWaitRef d); (tallyOf s key).err = false → (tallyOf s key).waiters = [] →
     (tallyOf s key).value < dWaitVal d → coreOn s dx = true → Gives (.dmaStart die k d) s (fun t =>
     (dmaOf t dx k).state = .waiting ∧ tallyOf t key = { tallyOf s key with waiters := [⟨0x58 + k, dTake d, dWaitVal d⟩] } ∧
     opstat t tk = { state := .running, serial := s.host.serial, block := 24 })) ∧
  (∀ die k tk d s, 5 ≤ die → die < 7 → diePresent s die = true → k < 16 → let dx := die - 5; (dmaOf s dx k).state = .idle →
     dmaScheduled s dx k = false → engPart s dx (0x58 + k) ≠ 0xFF → nextTicket s = some tk → descBad s dx k false d = false →
     refIdx (dWaitRef d) = 63 → dOp d = 4 → let g := bits (dw d 7) 0 4;
     let a := (gateOf s dx g).arrived ||| BitVec.ofNat 128 (2 ^ (0x58 + k)); gateEnabled s dx g = true →
     (gateMask s dx g).getLsbD (0x58 + k) = true → a ≠ gateMask s dx g → (engOf s dx (0x58 + k)).gate = none →
     coreOn s dx = true → Gives (.dmaStart die k d) s (fun t => (dmaOf t dx k).state = .waiting ∧
     (dmaOf t dx k).desc = some ⟨d⟩ ∧ gateOf t dx g = { gateOf s dx g with arrived := a } ∧
     (engOf t dx (0x58 + k)).gate = some g ∧ opstat t tk = { state := .running, serial := s.host.serial, block := 24 })) ∧
  (∀ die k tk d s, 5 ≤ die → die < 7 → diePresent s die = true → k < 16 → let dx := die - 5; (dmaOf s dx k).state = .idle →
     dmaScheduled s dx k = false → engPart s dx (0x58 + k) ≠ 0xFF → nextTicket s = some tk → coreOn s dx = false →
     Gives (.dmaStart die k d) s (fun t =>
     dmaOf t dx k = { state := .waiting, host := true, cur := rn64 s (A.DMA_CHAIN dx k), ticket := some tk, fetched := some d } ∧
     opstat t tk = { state := .running, serial := s.host.serial, block := 24 })) ∧
  (∀ die k d s, 5 ≤ die → die < 7 → diePresent s die = true → k < 16 → engPart s (die - 5) (0x58 + k) = 0xFF →
     Gives (.dmaStart die k d) s (fun t => t.die = s.die ∧ flag t (A.DMA_STAT (die - 5) k) 6 = true)) ∧
  (∀ die k s, 5 ≤ die → die < 7 → diePresent s die = true → k < 16 → (dmaOf s (die - 5) k).state = .running →
     Gives (.dmaPreempt die k) s (fun t => dmaOf t (die - 5) k = { dmaOf s (die - 5) k with preempt := true } ∧
     t.regs = s.regs)) ∧
  (∀ die k key tk v s, 5 ≤ die → die < 7 → diePresent s die = true → k < 16 → let dx := die - 5;
     (dmaOf s dx k).state = .waiting → s.die.gates = [] → key / 5184 = dx →
     s.die.tallies = [(key, { waiters := [⟨0x58 + k, tk, v⟩] })] → Gives (.dmaPreempt die k) s (fun t =>
     dmaOf t dx k = { dmaOf s dx k with state := .stopped, fault := 7, preempt := false, fetched := none } ∧
     (engOf t dx (0x58 + k)).state = .idle ∧ (tallyOf t key).waiters = [])) ∧
  (∀ die k d tk s, 5 ≤ die → die < 7 → diePresent s die = true → k < 16 → let dx := die - 5; let x := dmaOf s dx k;
     x.state = .running → x.desc = some ⟨d⟩ → x.preempt = true → x.bytes % 4096 = 0 → descComplete d x = false →
     x.ticket = some tk → (opstat s tk).state ≠ .ended → s.die.gates = [] → s.die.tallies = [] → coreOn s (die - 5) = true →
     Gives (.dmaPreemptStop die k) s (fun t =>
     dmaOf t dx k = { x with state := .stopped, fault := 7, preempt := false, fetched := none } ∧
     (engOf t dx (0x58 + k)).state = .idle ∧ opstat t tk = { opstat s tk with state := .ended, fault := 7 })) ∧
  (∀ die k tk d s, 5 ≤ die → die < 7 → diePresent s die = true → k < 16 → let dx := die - 5; let x := dmaOf s dx k;
     x.state = .stopped → x.host = true → engPart s dx (0x58 + k) ≠ 0xFF → x.sched = false → nextTicket s = some tk →
     descBad s dx k false d = false → bit (dw d 13) 15 = true → x.desc.isSome = true → dOp d ≠ 4 → coreOn s dx = true →
     Gives (.dmaRestart die k d) s (fun t =>
     dmaOf t dx k = { x with state := .running, bytes := (dw d 12).toNat, waitDone := true, sigDone := bit (dw d 13) 14, gateDone := false, desc := some ⟨d⟩, sigGen := (dmaOf t dx k).sigGen, regGen := (dmaOf t dx k).regGen, ticket := some tk, preempt := false, fault := 0, done := 0 } ∧
     opstat t tk = { state := .running, serial := s.host.serial, block := 24 }))

/-- R312, R313, R317: a burst of a FILL or a COPY moves at most 256 bytes, never across a 4 KiB boundary of bytes done, and
leaves what the read of its source and the write of its destination leave, for each kind of either: shown for a FILL of a
bank, a COPY from a bank to the host, one from the host to a stack, a source bank that refuses, which stops the chain with
OWNER, and one whose line has an uncorrectable error, which stops it with MEM; the last descriptor of a host chain, its
data moved, is written back to the host as DONE and ends the chain's ticket without a fault; after any other the next one
begins 64 bytes on; a write-back to the stack that its segment refuses stops the chain with SEG; while the die's clock
stands still, nothing moves (the model's reading of R426, log entry 51). -/
def Obligations.DmaDescriptors : Prop :=
  (∀ die k data e s, 5 ≤ die → die < 7 → diePresent s die = true → coreOn s (die - 5) = false →
     Gives (.dmaBurst die k data e) s (fun t => t = s)) ∧
  (∀ die k d data b u s, 5 ≤ die → die < 7 → diePresent s die = true → k < 16 → let dx := die - 5; let x := dmaOf s dx k;
     let n := burstLen x (dLen d); x.state = .running → x.preempt = false → x.desc = some ⟨d⟩ → dOp d ≤ 1 → x.bytes < dLen d →
     (match burstRead s dx k x.host d x.bytes n data with | .ok y => y == b | .error _ => false) = true →
     (match burstWrite s dx k x.host d x.bytes b with | .ok y => decide (y = u) | .error _ => false) = true →
     coreOn s (die - 5) = true → Gives (.dmaBurst die k data ⟨0, 0, 0⟩) s (fun t =>
     t = modDma dx k (fun y => { y with bytes := y.bytes + n }) u ∧ n ≤ 256 ∧ (x.bytes + n - 1) / 4096 = x.bytes / 4096)) ∧
  (∀ die k d data c s, 5 ≤ die → die < 7 → diePresent s die = true → k < 16 → let dx := die - 5; let x := dmaOf s dx k;
     x.state = .running → x.preempt = false → x.desc = some ⟨d⟩ → dOp d = 0 → dSrcKind d = 1 → x.bytes < dLen d →
     let b := (dSrc d + x.bytes) / 2 ^ 19; bankAccess s dx b (0x58 + k) = some c → coreOn s (die - 5) = true →
     Gives (.dmaBurst die k data ⟨0, 0, 0⟩) s (fun t =>
     dmaOf t dx k = { x with state := .stopped, fault := 4, preempt := false, fetched := none, faultInfo := BitVec.ofNat 32 (c * 2 ^ 24 + b) } ∧
     (engOf t dx (0x58 + k)).state = .fault ∧ t.die.sram = s.die.sram ∧ flag t (A.BANK_STAT dx) 2 = true)) ∧
  (∀ die k d data line s, 5 ≤ die → die < 7 → diePresent s die = true → k < 16 → let dx := die - 5; let x := dmaOf s dx k;
     x.state = .running → x.preempt = false → x.desc = some ⟨d⟩ → dOp d = 0 → dSrcKind d = 1 → x.bytes < dLen d →
     let a := dSrc d + x.bytes; bankAccess s dx (a / 2 ^ 19) (0x58 + k) = none → a / 2 ^ 19 < 256 →
     (a + burstLen x (dLen d) - 1) / 2 ^ 19 = a / 2 ^ 19 → coreOn s (die - 5) = true →
     Gives (.dmaBurst die k data ⟨5, 0, line⟩) s (fun t => (dmaOf t dx k).state = .stopped ∧ (dmaOf t dx k).fault = 5 ∧
     (engOf t dx (0x58 + k)).state = .fault ∧ rd t (A.SRAM_UE dx) = rd s (A.SRAM_UE dx) + 1 ∧
     (bankOf t dx (a / 2 ^ 19)).ueLine = some (min (a / 64 + line) ((a + burstLen x (dLen d) - 1) / 64) % 8192) ∧
     t.die.sram = s.die.sram)) ∧
  (∀ die k d data s, 5 ≤ die → die < 7 → diePresent s die = true → k < 16 → let dx := die - 5; let x := dmaOf s dx k;
     x.state = .running → x.preempt = false → x.desc = some ⟨d⟩ → dOp d = 1 → dDstKind d = 1 → x.bytes < dLen d →
     let a := dDst d + x.bytes; let n := burstLen x (dLen d); bankAccess s dx (a / 2 ^ 19) (0x58 + k) = none →
     coreOn s (die - 5) = true → Gives (.dmaBurst die k data ⟨0, 0, 0⟩) s (fun t =>
     t.die.sram = putBytes (dx * 2 ^ 27 + a) (fillBytes (dw d 7) x.bytes n) s.die.sram ∧
     dmaOf t dx k = { x with bytes := x.bytes + n } ∧ t.regs = s.regs)) ∧
  (∀ die k d data s, 5 ≤ die → die < 7 → diePresent s die = true → k < 16 → let dx := die - 5; let x := dmaOf s dx k;
     x.state = .running → x.preempt = false → x.desc = some ⟨d⟩ → dOp d = 0 → dSrcKind d = 1 → dDstKind d = 0 →
     x.bytes < dLen d → let a := dSrc d + x.bytes; let n := burstLen x (dLen d);
     bankAccess s dx (a / 2 ^ 19) (0x58 + k) = none → coreOn s (die - 5) = true →
     Gives (.dmaBurst die k data ⟨0, 0, 0⟩) s (fun t =>
     t.out = .hostWrite (BitVec.ofNat 64 (dDst d + x.bytes)) (getBytes s.die.sram (dx * 2 ^ 27 + a) n) :: s.out ∧
     dmaOf t dx k = { x with bytes := x.bytes + n } ∧ t.die.sram = s.die.sram)) ∧
  (∀ die k d data s, 5 ≤ die → die < 7 → diePresent s die = true → k < 16 → let dx := die - 5; let x := dmaOf s dx k;
     x.state = .running → x.preempt = false → x.desc = some ⟨d⟩ → dOp d = 0 → dSrcKind d = 0 → dDstKind d = 2 →
     x.bytes < dLen d → let a := dDst d + x.bytes; let n := burstLen x (dLen d); let b := (data ++ List.replicate n 0).take n;
     segCheck s dx (dDstSeg d) x.host (engPart s dx (0x58 + k)) true a b.length = none → coreOn s (die - 5) = true →
     Gives (.dmaBurst die k data ⟨0, 0, 0⟩) s (fun t => t.die.stack = putBytes a b s.die.stack ∧
     dmaOf t dx k = { x with bytes := x.bytes + n } ∧ t.die.sram = s.die.sram)) ∧
  (∀ die k d tk next s, 5 ≤ die → die < 7 → diePresent s die = true → k < 16 → let dx := die - 5; let x := dmaOf s dx k;
     x.state = .running → x.desc = some ⟨d⟩ → x.host = true → dOp d ≤ 1 → x.waitDone = true → dLen d ≤ x.bytes →
     refIdx (dSigRef d) = 63 → dLast d = true → x.preempt = false → x.ticket = some tk → (opstat s tk).state ≠ .ended →
     coreOn s (die - 5) = true → Gives (.dmaDescDone die k next) s (fun t => (dmaOf t dx k).state = .idle ∧
     t.out = .hostWrite (BitVec.ofNat 64 (x.cur + 48)) (toLE 4 x.bytes ++ toLE 4 (dmaWord13 { x with sigDone := true } 1)) :: s.out ∧
     (opstat t tk).state = .ended ∧ (opstat t tk).fault = 0 ∧
     engOf t dx (0x58 + k) = { engOf s dx (0x58 + k) with state := .idle } ∧
     rd t (A.DMA_DESC_DONE dx k) = rd s (A.DMA_DESC_DONE dx k) + 1)) ∧
  (∀ die k d e s, 5 ≤ die → die < 7 → diePresent s die = true → k < 16 → let dx := die - 5; let x := dmaOf s dx k;
     x.state = .running → x.desc = some ⟨d⟩ → x.host = true → x.sched = false → x.preempt = false → x.ticket = none →
     dOp d ≤ 1 → x.waitDone = true → dLen d ≤ x.bytes → refIdx (dSigRef d) = 63 → dLast d = false →
     descBad s dx k false e = false → refIdx (dWaitRef e) = 63 → dOp e ≠ 4 → coreOn s (die - 5) = true →
     Gives (.dmaDescDone die k { words := some e }) s (fun t =>
     dmaOf t dx k = { x with cur := x.cur + 64, idx := x.idx + 1, bytes := 0, waitDone := true, sigDone := false, gateDone := false, desc := some ⟨e⟩, done := x.done + 1, sigGen := (dmaOf t dx k).sigGen, regGen := (dmaOf t dx k).regGen })) ∧
  (∀ die k d c next s, 5 ≤ die → die < 7 → diePresent s die = true → k < 16 → let dx := die - 5; let x := dmaOf s dx k;
     x.state = .running → x.desc = some ⟨d⟩ → x.host = false → dOp d ≤ 1 → x.waitDone = true → dLen d ≤ x.bytes →
     refIdx (dSigRef d) = 63 → x.preempt = false → writeBackFails s dx k = some c → coreOn s (die - 5) = true →
     Gives (.dmaDescDone die k next) s (fun t => (dmaOf t dx k).state = .stopped ∧ (dmaOf t dx k).fault = 3 ∧
     (engOf t dx (0x58 + k)).state = .fault ∧ t.die.stack = s.die.stack))

/-! The almanac (14). -/

/-- R339 to R342, R349, R442: a request with GO takes a ticket of block 14 and joins the queue behind those of its priority
and above; LOADER_DEQUEUE begins the next one: a LOAD asks the host for its bytes, at most 4,096 a read, a DISCARD empties
the stage, a CACHE_DROP empties the entries of its partition, and the last two end at once without a fault. R340: what the
host read is checked in the order of the spec; the first check that fails ends the ticket with its code and leaves the
stage as it was (empty), and an almanac that passes them all is staged; a failed read ends the ticket with code 10, and
one whose partition was reset while it ran ends with code 13 RESET. That progress is set at the end, and that the
partition is known by the header read, is the model's reading (log entry 37). -/
def Obligations.LoaderRequests : Prop :=
  (∀ c op v k s, (c, op) ∈ [(Instr.load v, 1), (.cacheLoad v, 2), (.discard v, 3), (.teardown v, 4), (.cacheDrop v, 5)] →
     bit v 31 = true → s.alm.queue.length < 8 → nextTicket s = some k → Gives (c) s (fun t =>
     t.alm = { s.alm with queue := enqueueReq { op := op, prio := bits v 16 3, part := bits v 0 6, ticket := k, src := BitVec.ofNat 64 (rn64 s A.ALM_SRC), len := rn s A.ALM_LEN, shape := BitVec.ofNat 256 (wordsBE s A.ALM_SHAPE_IN 8) } s.alm.queue } ∧
     opstat t k = { state := .queued, serial := s.host.serial, block := 14 } ∧
     rd t A.ALM_TICKET = BitVec.ofNat 32 (s.host.serial * 65536 + k))) ∧
  (∀ r s, s.alm.working = none → nextReq s = some r → r.op = 1 → rsvBusy s = false → (opstat s r.ticket).state ≠ .ended →
     Gives (.loaderDequeue) s (fun t => t.alm = { s.alm with queue := s.alm.queue.erase r, working := some r } ∧
     t.out = (hostReads r.src r.len).reverse ++ s.out ∧ (∀ x, x ∈ hostReads r.src r.len → ∃ b n, x = .hostRead b n ∧
     n ≤ 4096) ∧ opstat t r.ticket = { opstat s r.ticket with state := .running })) ∧
  (∀ r s, s.alm.working = none → nextReq s = some r → r.op = 3 → (opstat s r.ticket).state ≠ .ended →
     Gives (.loaderDequeue) s (fun t => t.alm = { s.alm with queue := s.alm.queue.erase r, stage := none } ∧
     opstat t r.ticket = { opstat s r.ticket with state := .ended, fault := 0 })) ∧
  (∀ r s, s.alm.working = none → nextReq s = some r → r.op = 5 → (opstat s r.ticket).state ≠ .ended →
     Gives (.loaderDequeue) s (fun t =>
     t.alm.cache = s.alm.cache.map (fun e => if e.any (fun y => y.hdr.part == r.part) then none else e) ∧
     t.alm.queue = s.alm.queue.erase r ∧ t.alm.stage = s.alm.stage ∧
     opstat t r.ticket = { opstat s r.ticket with state := .ended, fault := 0 })) ∧
  (∀ a r s, s.alm.working = some r → r.op = 1 → s.clks.stage = 9 → (opstat s r.ticket).state ≠ .ended →
     r.resets.contains (hdrOf a.bytes).part = false → Gives (.almLoadDone (some a)) s (fun t => t.alm.working = none ∧
     t.alm.stage = (if loadChecks s r.len a = none then some ⟨hdrOf a.bytes, a.items⟩ else s.alm.stage) ∧
     opstat t r.ticket = { opstat s r.ticket with progress := min (a.bytes.length / 1024) 0xFFFFFF, state := .ended, fault := (loadChecks s r.len a).getD 0 } ∧
     t.cfg = s.cfg)) ∧
  (∀ a r s, s.alm.working = some r → r.op = 1 → s.clks.stage = 9 → (opstat s r.ticket).state ≠ .ended →
     r.resets.contains (hdrOf a.bytes).part = true → Gives (.almLoadDone (some a)) s (fun t => t.alm.working = none ∧
     t.alm.stage = s.alm.stage ∧
     opstat t r.ticket = { opstat s r.ticket with progress := min (a.bytes.length / 1024) 0xFFFFFF, state := .ended, fault := 13 } ∧
     t.cfg = s.cfg)) ∧
  (∀ r s, s.alm.working = some r → r.op = 1 → (opstat s r.ticket).state ≠ .ended → Gives (.almLoadDone none) s (fun t =>
     t.alm = { s.alm with working := none } ∧ opstat t r.ticket = { opstat s r.ticket with state := .ended, fault := 10 }))

/-- R343 to R346, R442: ALM_COMMIT with GO takes a ticket and prepares what is staged for PART; when every die has voted READY
it activates, or waits for its step; a refusal ends it with its fault; at activation the configuration and the registers
that the host has staged change (a TEARDOWN takes all that the partition holds), and the COMMIT ends when every die has
acknowledged, at once or in turn; a missing acknowledgement after 100 µs restores the configuration and the registers (the
model's reading of ROLLBACK, log entry 37) and holds the partition; CANCEL ends one that waits. R338, R441: on the
unlocked page, a slot from 1 to 3 takes ALM_KEY_HASH once; a slot is revoked while another one stays usable, and else
REVOKE_LAST is set; with the page locked nothing is programmed or revoked. -/
def Obligations.Commits : Prop :=
  (∀ v k s, let part := bits v 0 7; bit v 31 = true → (part < 64 ∨ part = 0x7F) → commitOf s part = none →
     nextTicket s = some k → Gives (.almCommit v) s (fun t =>
     (commitOf t part).map (fun c => (c.phase, c.ticket, c.teardown, c.items)) = some (.preparing, some k, false, stagedItems s part) ∧
     t.alm.phase = .preparing ∧ t.alm.fault = 0 ∧ opstat t k = { state := .running, serial := s.host.serial, block := 14 } ∧
     t.cfg = s.cfg)) ∧
  (∀ part c s, commitOf s part = some c → c.phase = .preparing → s.clks.stage = 9 → c.items ≠ [] → (refusals s c).2 = 0 →
     c.at_ = 0 → Gives (.prepareVotesDone part) s (fun t => t.alm.phase = .activating ∧
     (commitOf t part).map (fun x => (x.phase, x.refuse)) = some (.activating, BitVec.ofNat 8 (refusals s c).1) ∧
     t.cfg = s.cfg ∧ t.regs = s.regs)) ∧
  (∀ part c s, commitOf s part = some c → c.phase = .preparing → s.clks.stage = 9 → c.items ≠ [] → (refusals s c).2 = 0 →
     (grp s .keel c.group).step < c.at_ → Gives (.prepareVotesDone part) s (fun t => t.alm.phase = .waiting ∧
     (commitOf t part).map (fun x => x.phase) = some .waiting ∧ t.cfg = s.cfg)) ∧
  (∀ part c k s, part < 128 → commitOf s part = some c → c.phase = .preparing → s.clks.stage = 9 → c.items ≠ [] →
     (refusals s c).2 ≠ 0 → c.ticket = some k → (opstat s k).state ≠ .ended → Gives (.prepareVotesDone part) s (fun t =>
     t.alm.phase = .idle ∧ t.alm.fault = (refusals s c).2 ∧ commitOf t part = none ∧
     opstat t k = { opstat s k with state := .ended, fault := (refusals s c).2 } ∧ t.cfg = s.cfg)) ∧
  (∀ part acks c s, commitOf s part = some c → c.phase = .activating → c.before = none →
     (c.at_ = 0 ∨ (partSeqs s part).all (fun q => (seqOf s q).state != .running) = true) →
     (c.acks ||| acks) &&& BitVec.ofNat 8 (dieMask s) ≠ BitVec.ofNat 8 (dieMask s) →
     Gives (.commitActivate part acks) s (fun t => t.cfg.owners = ownersAfter s.cfg (changeOf c) ∧
     (commitOf t part).map (fun x => (x.phase, x.acks, x.before.isSome)) = some (.activating, c.acks ||| acks, true))) ∧
  (∀ part acks c a v s, commitOf s part = some c → c.phase = .activating → c.before = none → c.teardown = false →
     c.items = [] → c.hdr = none → c.regs = [(a, v)] → rwcMask a ≠ 0 → part < 0x80 →
     (partSeqs s part).all (fun q => (seqOf s q).state != .running) = true →
     (c.acks ||| acks) &&& BitVec.ofNat 8 (dieMask s) ≠ BitVec.ofNat 8 (dieMask s) →
     Gives (.commitActivate part acks) s (fun t => rd t a &&& rwcMask a = v &&& rwcMask a ∧ t.cfg.owners = s.cfg.owners ∧
     (commitOf t part).map (fun x => (x.phase, x.acks)) = some (.activating, c.acks ||| acks))) ∧
  (∀ part acks c s, commitOf s part = some c → c.phase = .activating → c.before = none → c.at_ = 0 → c.teardown = true →
     c.items = [] → c.part = part → part < 64 →
     (c.acks ||| acks) &&& BitVec.ofNat 8 (dieMask s) ≠ BitVec.ofNat 8 (dieMask s) →
     Gives (.commitActivate part acks) s (fun t => t.cfg.owners = s.cfg.owners.filter (fun y => y.2 != part) ∧
     (∀ r, ownerIn t.cfg.owners r ≠ part) ∧
     (commitOf t part).map (fun x => (x.phase, x.acks)) = some (.activating, c.acks ||| acks))) ∧
  (∀ part acks c k s, part < 64 → commitOf s part = some c → c.ticket = some k → c.phase = .activating → c.before = none →
     c.at_ = 0 → c.teardown = true → c.items = [] → c.part = part →
     (c.acks ||| acks) &&& BitVec.ofNat 8 (dieMask s) = BitVec.ofNat 8 (dieMask s) →
     Gives (.commitActivate part acks) s (fun t => (tget {} t.alm.parts part).serial = 0 ∧
     (tget {} t.alm.parts part).active = false ∧ (∀ r, ownerIn t.cfg.owners r ≠ part) ∧ commitOf t part = none ∧
     (opstat t k).state = .ended)) ∧
  (∀ part acks c b k s, part < 128 → commitOf s part = some c → c.ticket = some k → c.phase = .activating →
     c.before = some b → (c.acks ||| acks) &&& BitVec.ofNat 8 (dieMask s) = BitVec.ofNat 8 (dieMask s) →
     Gives (.commitActivate part acks) s (fun t => commitOf t part = none ∧ t.alm.phase = .idle ∧ t.alm.fault = 0 ∧
     (opstat t k).state = .ended)) ∧
  (∀ part acks c k s, part < 128 → commitOf s part = some c → c.ticket = some k → c.phase = .activating → c.before = none →
     (c.at_ = 0 ∨ (partSeqs s part).all (fun q => (seqOf s q).state != .running) = true) →
     (c.acks ||| acks) &&& BitVec.ofNat 8 (dieMask s) = BitVec.ofNat 8 (dieMask s) →
     Gives (.commitActivate part acks) s (fun t => commitOf t part = none ∧ t.alm.phase = .idle ∧ t.alm.fault = 0 ∧
     (opstat t k).state = .ended)) ∧
  (∀ part c k cfg0 keep s, part < 128 → c.ticket = some k → commitOf s part = some c → c.before = some (cfg0, keep) →
     c.since + usCyc 100 ≤ pe s .keel → (opstat s k).state ≠ .ended → Gives (.activateTimeout part) s (fun t => t.cfg = cfg0 ∧
     t.alm.held.contains part = true ∧ t.alm.fault = 5 ∧ commitOf t part = none ∧
     opstat t k = { opstat s k with state := .ended, fault := 5 } ∧ flag t A.ALM_STAT 3 = true)) ∧
  (∀ part c cfg0 a v s, part < 128 → commitOf s part = some c → c.before = some (cfg0, [(a, v)]) → rwcMask a ≠ 0 →
     c.since + usCyc 100 ≤ pe s .keel → Gives (.activateTimeout part) s (fun t => rd t a &&& rwcMask a = v &&& rwcMask a ∧
     t.cfg = cfg0 ∧ t.alm.held.contains part = true)) ∧
  (∀ v c k s, commitOf s (bits v 0 7) = some c → bit v 30 = true → c.ticket = some k → c.phase = .waiting →
     (opstat s k).state ≠ .ended → Gives (.commitCancel v) s (fun t => commitOf t (bits v 0 7) = none ∧ t.alm.fault = 7 ∧
     opstat t k = { opstat s k with state := .ended, fault := 7 } ∧ t.staged = s.staged ∧ t.cfg = s.cfg)) ∧
  (∀ v s, let i := bits v 0 2; s.host.unlocked.contains 0x300000 = true → bit v 31 = true → i ≠ 0 →
     s.alm.keys.getD i none = none → Gives (.almKeyProg v) s (fun t =>
     t.alm = { s.alm with keys := s.alm.keys.set i (some (BitVec.ofNat 384 (wordsBE s A.ALM_KEY_HASH 12))) } ∧
     t.regs = s.regs)) ∧
  (∀ v s, s.host.unlocked.contains 0x300000 = true → bit v 31 = true →
     (List.range 4).any (fun j => j != bits v 0 2 && keyUsable s j) = true → Gives (.almRevoke v) s (fun t =>
     t.alm = { s.alm with revoked := s.alm.revoked.set (bits v 0 2) true } ∧ t.regs = s.regs)) ∧
  (∀ v s, s.host.unlocked.contains 0x300000 = true → bit v 31 = true →
     (List.range 4).any (fun j => j != bits v 0 2 && keyUsable s j) = false → Gives (.almRevoke v) s (fun t => t.alm = s.alm ∧
     flag t A.ALM_STAT 8 = true)) ∧
  (∀ v s, s.host.unlocked.contains 0x300000 = false → Gives (.almKeyProg v) s (fun t => t.alm = s.alm)) ∧
  (∀ v s, s.host.unlocked.contains 0x300000 = false → Gives (.almRevoke v) s (fun t => t.alm = s.alm))

/-! The route dies (15). -/

/-- R354 to R356: a HELLO goes out on a trained port, a period after the last, with the next sequence number of its type; a
first HELLO heard makes the neighbour record what it says (the other end of a tap is known by its node, log entry 63);
another neighbour where one was heard makes the port MISWIRE; three periods without a HELLO lose the neighbour. -/
def Obligations.Hellos : Prop :=
  (∀ n p s, nodeRuns s n = true → portWorks s n p = true → linkStands s n p = true → (port s n p).linkUp = true →
     helloTime s n p = true → Gives (.helloSend n p) s (fun t =>
     t.out = .msg n p (mkMsg tHello ((port s n p).seqs.getD 7 0).toNat (senderOf s n p) (helloBody s n p)) :: s.out ∧
     nbrOf t n p = { nbrOf s n p with lastTx := some (pe s n) } ∧ t.regs = s.regs)) ∧
  (∀ n p m s, nodeRuns s n = true → (port s n p).linkUp = true → portWorks s n p = true → linkStands s n p = true →
     mCrcOk m = true → mType m = 8 → expectOf s n p = none → (nbrOf s n p).heard = false →
     Gives (.helloReceive n p m) s (fun t => nbrOf t n p = helloOf s n p m ∧ t.keel = s.keel ∧ t.evx = s.evx)) ∧
  (∀ p m s, let new := helloOf s .keel p m; nodeRuns s .keel = true → (port s .keel p).linkUp = true →
     portWorks s .keel p = true → linkStands s .keel p = true → mCrcOk m = true → mType m = 8 → expectOf s .keel p = none →
     (nbrOf s .keel p).heard = true → (nbrOf s .keel p).miswire = false → otherNbr (nbrOf s .keel p) new = true →
     pe s .keel - (nbrOf s .keel p).lastRx ≤ helloPeriod s .keel p → Gives (.helloReceive .keel p m) s (fun t =>
     nbrOf t .keel p = { new with miswire := true } ∧ flag t (A.RTE_STAT (portDie p - 1)) 2 = true ∧
     (port t .keel p).exch = none)) ∧
  (∀ n p s, (nbrOf s n p).heard = true → (nbrOf s n p).lastRx + 3 * helloPeriod s n p ≤ pe s n →
     Gives (.neighbourLost n p) s (fun t => nbrOf t n p = { nbrOf s n p with heard := false, twoWay := false } ∧
     ((∀ d l, recOf s n p = some (d, l) → flag t (A.NEIGH_STAT d l) 3 = true))))

/-- R362, R363, R442: a lock gives a segment a working copy equal to its live one; an unlock swaps the copies of the segments
that pass, and one that fails stays locked with its fault in SWAP_ERR; ABANDON discards working copies; a loader request
takes a ticket of block 17, and at its end what was read stands in the working copies, while no live entry has changed. -/
def Obligations.Tcam : Prop :=
  (∀ die v g s, 1 ≤ die → die ≤ 4 → diePresent s die = true → g < 64 → v.getLsbD g = true →
     segLocked s (die - 1) g = false → Gives (.tcamLock die v) s (fun t =>
     tfind g (rdie t (die - 1)).work = some (segEntries g (rdie s (die - 1)).live) ∧
     (rdie t (die - 1)).live = (rdie s (die - 1)).live ∧ t.regs = s.regs)) ∧
  (∀ die v g w s, 1 ≤ die → die ≤ 4 → diePresent s die = true → let x := rdie s (die - 1);
     (segNames v).filter (segLocked s (die - 1)) = [g] → tfind g x.work = some w →
     let all := w.foldl (fun t e => tset 0 t e.1 e.2) (x.live.filter (fun e => e.1 / 1024 != g));
     segFault s (die - 1) g all = none → Gives (.tcamUnlock die v) s (fun t =>
     rdie t (die - 1) = { x with live := all, work := tdel g x.work } ∧ t.regs = s.regs)) ∧
  (∀ die v g w c i s, 1 ≤ die → die ≤ 4 → diePresent s die = true → let x := rdie s (die - 1);
     (segNames v).filter (segLocked s (die - 1)) = [g] → tfind g x.work = some w →
     let all := w.foldl (fun t e => tset 0 t e.1 e.2) (x.live.filter (fun e => e.1 / 1024 != g));
     segFault s (die - 1) g all = some (c, i) → Gives (.tcamUnlock die v) s (fun t => t.rt = s.rt ∧
     rd t (A.SWAP_ERR (die - 1)) = BitVec.ofNat 32 (c * 2 ^ 24 + g * 65536 + i) ∧ flag t (A.TCAM_STAT (die - 1)) 1 = true)) ∧
  (∀ die v g s, 1 ≤ die → die ≤ 4 → diePresent s die = true → g < 64 → v.getLsbD g = true →
     Gives (.tcamAbandon die v) s (fun t => segLocked t (die - 1) g = false ∧
     (rdie t (die - 1)).live = (rdie s (die - 1)).live ∧ t.regs = s.regs)) ∧
  (∀ die v k s, 1 ≤ die → die ≤ 4 → diePresent s die = true → bit v 31 = true → (rdie s (die - 1)).req = none →
     nextTicket s = some k → let i := rf s (A.TCAM_IDX (die - 1)) 0 16; let c := rf s (A.TCAM_CNT (die - 1)) 0 17;
     i + c ≤ 65536 →
     (c = 0 ∨ (List.range 64).all (fun g => segLocked s (die - 1) g || decide (g < i / 1024) || decide ((i + c - 1) / 1024 < g)) = true) →
     let src := BitVec.ofNat 64 (rn64 s (A.TCAM_SRC (die - 1))); Gives (.tcamReq die v) s (fun t =>
     rdie t (die - 1) = { rdie s (die - 1) with req := some ⟨k, src, i, c⟩ } ∧
     t.out = (hostReads src (16 * c)).reverse ++ s.out ∧
     opstat t k = { state := .running, serial := s.host.serial, block := 17 })) ∧
  (∀ die r w e s, 1 ≤ die → die ≤ 4 → diePresent s die = true → let x := rdie s (die - 1); x.req = some r → 1 ≤ r.cnt →
     tfind (r.idx / 1024) x.work = some w → (opstat s r.ticket).state ≠ .ended →
     Gives (.tcamLoadDone die ⟨toBE 16 e.toNat, false⟩) s (fun t =>
     rdie t (die - 1) = { x with req := none, work := tput (r.idx / 1024) (tset 0 w r.idx e) x.work } ∧
     opstat t r.ticket = { opstat s r.ticket with progress := 1, state := .ended, fault := 0 })) ∧
  (∀ die r w e s, 1 ≤ die → die ≤ 4 → diePresent s die = true → let x := rdie s (die - 1); x.req = some r → 1 ≤ r.cnt →
     tfind (r.idx / 1024) x.work = some w → (opstat s r.ticket).state ≠ .ended →
     Gives (.tcamLoadDone die ⟨toBE 16 e.toNat, true⟩) s (fun t =>
     rdie t (die - 1) = { x with req := none, work := tput (r.idx / 1024) (tset 0 w r.idx e) x.work } ∧
     opstat t r.ticket = { opstat s r.ticket with progress := 1, state := .ended, fault := 1 }))

/-- R357 to R361, R365, R370: a frame with a bad header (HCRC, a reserved CLASS, a LENGTH that is not its own; the last two
are the model's reading, log entry 63) is counted and goes nowhere; a lookup that finds FORWARD queues the frame, its TTL
one less, at the port named; one that finds nothing, or a TTL of 0, drops it and counts it; TRAP puts it in the MGMT
queue; LEARN_POP takes the oldest learn event. A route die that its supply holds in reset, or whose core clocks a trip has
stopped, takes no frame (R428, R429). -/
def Obligations.Frames : Prop :=
  (∀ p nb m e s, let d := portDie p - 1; let f := frameOf m; let q := tcTarget e; portMoves s p = true →
     (tget {} s.rt.nbrs p).miswire = false → frameHeadOk m = true → f.cls ≠ 0 → frameStomped m = false →
     frameTrailOk m = true → f.ttl ≠ 0 → f.dst / 4096 ≠ nodeId s .keel → tcLookup s d f.dst f.part f.cls = some e →
     tcAction e = 1 → (tget {} s.rt.nbrs q).miswire = false → portMoves s q = true →
     (isFenced f.cls = false ∨ (portOwned s f q = true ∧ s.hl.expelled = false ∧ portSplit s q = false ∧ (f.cls = 2 →
     nb = false))) → let out := frameOut false m; Gives (.frameIngress p nb m) s (fun t =>
     tget {} t.rt.egress q = { tget {} s.rt.egress q with queue := (tget {} s.rt.egress q).queue ++ [⟨f.cls, out.length, out, p⟩] } ∧
     t.die = s.die)) ∧
  (∀ p nb m s, let d := portDie p - 1; let f := frameOf m; portMoves s p = true → (tget {} s.rt.nbrs p).miswire = false →
     frameHeadOk m = true → f.cls ≠ 0 → frameStomped m = false → frameTrailOk m = true → f.ttl ≠ 0 →
     f.dst / 4096 ≠ nodeId s .keel → tcLookup s d f.dst f.part f.cls = none → Gives (.frameIngress p nb m) s (fun t =>
     rd t (A.MISS_DROP d) = rd s (A.MISS_DROP d) + 1 ∧ t.rt.egress = s.rt.egress ∧ t.rt.mgmt = s.rt.mgmt)) ∧
  (∀ p nb m s, let d := portDie p - 1; let f := frameOf m; portMoves s p = true → (tget {} s.rt.nbrs p).miswire = false →
     frameHeadOk m = true → f.cls ≠ 0 → frameStomped m = false → frameTrailOk m = true → f.ttl = 0 →
     Gives (.frameIngress p nb m) s (fun t => rd t (A.TTL_DROP d) = rd s (A.TTL_DROP d) + 1 ∧ t.rt.egress = s.rt.egress ∧
     t.rt.mgmt = s.rt.mgmt)) ∧
  (∀ p nb m s, portMoves s p = true → (tget {} s.rt.nbrs p).miswire = false → frameHeadOk m = false →
     Gives (.frameIngress p nb m) s (fun t => rd t (A.HDR_ERR (portDie p - 1)) = rd s (A.HDR_ERR (portDie p - 1)) + 1 ∧
     t.rt = s.rt ∧ t.die = s.die)) ∧
  (∀ p nb m e s, let d := portDie p - 1; let f := frameOf m; portMoves s p = true → (tget {} s.rt.nbrs p).miswire = false →
     frameHeadOk m = true → f.cls ≠ 0 → frameStomped m = false → frameTrailOk m = true → f.ttl ≠ 0 →
     f.dst / 4096 ≠ nodeId s .keel → tcLookup s d f.dst f.part f.cls = some e → tcAction e = 4 →
     Gives (.frameIngress p nb m) s (fun t => t.rt.mgmt = s.rt.mgmt ++ [m] ∧ t.rt.egress = s.rt.egress)) ∧
  (∀ p nb m s, portMoves s p = false → Gives (.frameIngress p nb m) s (fun t => t = s)) ∧
  (∀ die s, 1 ≤ die → die ≤ 4 → diePresent s die = true → snapView s = false → latched s (A.LEARN_POP (die - 1)) = none →
     Gives (.learnPop die) s (fun t =>
     rdie t (die - 1) = { rdie s (die - 1) with popped := (rdie s (die - 1)).learn.head?, learn := (rdie s (die - 1)).learn.drop 1 } ∧
     t.host.rdata = (learnPopView t (die - 1) 0).setWidth 64 ∧ t.regs = s.regs))

/-- R219 to R222, R225: a bale whose header does not hold is counted at die 5 and changes no waystation; one that goes up and
passes its checks is kept in the landing of its waystation and counted; one that has landed already is counted and
dropped; by a package that serves a result is queued, in its frame, at the ports of its tree, an unreduced bale of
ALLGATHER or BROADCAST goes up and turns DOWN at the top, and one of ALLTOALL goes to its one peer. Which reduce die
counts a bale that no waystation receives, that landings are held as whole bales beside their lines, and the header of the
frame are the model's choices (log entries 32, 56 and 63). -/
def Obligations.Bales : Prop :=
  (∀ p die m s, portMoves s p = true → (nbrOf s .keel p).miswire = false → headOk m = false → 5 ≤ die → die < 7 →
     reduceDie s (die - 5) = true → Gives (.baleIngress p ⟨die, m⟩) s (fun t =>
     rd t (A.HDR_ERR_R238 (die - 5)) = rd s (A.HDR_ERR_R238 (die - 5)) + 1 ∧ t.die = s.die ∧ t.out = s.out)) ∧
  (∀ p m dx w k s, let b := baleOf m; let c := wsCfg s dx w; let x := wsOf s dx w; headOk m = true →
     wsOfTree s b.tree.toNat = [(dx, w)] → portMoves s p = true → (nbrOf s .keel p).miswire = false → dx < 2 →
     b.down = false → (c.op ≠ 3 ∧ c.op ≠ 4 ∧ c.op ≠ 5) → b.format.toNat = c.format → b.variant = c.variant →
     (b.step.toNat = wsStepNow s dx w ∨ b.step.toNat = wsStepNow s dx w + 1) →
     c.children.find? (fun k => k.node == b.source) = some k → childOut x b.step.toNat k = false →
     x.seen.contains (b.bale.toNat, b.source, b.step.toNat) = false →
     (b.step.toNat ≠ x.step ∨ x.consumed.contains b.bale.toNat = false) → bankAccess s dx c.bank c.engine = none →
     logMode s dx ≠ 2 → s.tw.mode ≠ .shadow → Gives (.baleIngress p ⟨dx + 5, m⟩) s (fun t =>
     (wsOf t dx w).landed = x.landed ++ [b] ∧ (wsOf t dx w).seen = x.seen ++ [(b.bale.toNat, b.source, b.step.toNat)] ∧
     (wsOf t dx w).consumed = x.consumed ∧ rd t (A.BALE_IN dx w) = rd s (A.BALE_IN dx w) + 1 ∧ t.out = s.out)) ∧
  (∀ p m dx w k s, let b := baleOf m; let c := wsCfg s dx w; let x := wsOf s dx w; headOk m = true →
     wsOfTree s b.tree.toNat = [(dx, w)] → portMoves s p = true → (nbrOf s .keel p).miswire = false → dx < 2 →
     b.down = false → (c.op ≠ 3 ∧ c.op ≠ 4 ∧ c.op ≠ 5) → b.format.toNat = c.format → b.variant = c.variant →
     (b.step.toNat = wsStepNow s dx w ∨ b.step.toNat = wsStepNow s dx w + 1) →
     c.children.find? (fun k => k.node == b.source) = some k → childOut x b.step.toNat k = false →
     x.seen.contains (b.bale.toNat, b.source, b.step.toNat) = true → Gives (.baleIngress p ⟨dx + 5, m⟩) s (fun t =>
     t.die = s.die ∧ rd t (A.DUP_BALE dx w) = rd s (A.DUP_BALE dx w) + 1)) ∧
  (∀ p die m dx w s, let b := baleOf m; portMoves s p = true → (nbrOf s .keel p).miswire = false → headOk m = true →
     treeStation s b.tree.toNat die = some (dx, w) → b.down = true → serving s = true → let c := wsCfg s dx w;
     let qs := downPorts c b.bale.toNat; baleGoes s c dx qs m = true → Gives (.baleIngress p ⟨die, m⟩) s (fun t =>
     t.rt.egress = baleQueued s c dx qs m ∧ t.die = s.die)) ∧
  (∀ p die m dx w s, let b := baleOf m; let c := wsCfg s dx w; portMoves s p = true → (nbrOf s .keel p).miswire = false →
     headOk m = true → treeStation s b.tree.toNat die = some (dx, w) → b.down = false → (c.op = 3 ∨ c.op = 4) →
     c.top = false → serving s = true → baleGoes s c dx c.uplink.toList m = true → Gives (.baleIngress p ⟨die, m⟩) s (fun t =>
     t.rt.egress = baleQueued s c dx c.uplink.toList m ∧ t.die = s.die)) ∧
  (∀ p die m dx w s, let b := baleOf m; let c := wsCfg s dx w; portMoves s p = true → (nbrOf s .keel p).miswire = false →
     headOk m = true → treeStation s b.tree.toNat die = some (dx, w) → b.down = false → (c.op = 3 ∨ c.op = 4) → c.top = true →
     serving s = true → let m1 := baleBytes { b with down := true }; baleGoes s c dx c.dest m1 = true →
     Gives (.baleIngress p ⟨die, m⟩) s (fun t => t.rt.egress = baleQueued s c dx c.dest m1 ∧ t.die = s.die)) ∧
  (∀ p die m dx w s, let b := baleOf m; let c := wsCfg s dx w; portMoves s p = true → (nbrOf s .keel p).miswire = false →
     headOk m = true → treeStation s b.tree.toNat die = some (dx, w) → b.down = false → c.op = 5 → serving s = true →
     let qs := (c.owners.filter (fun o => o.1 == b.bale.toNat)).map (fun o => o.2); baleGoes s c dx qs m = true →
     Gives (.baleIngress p ⟨die, m⟩) s (fun t => t.rt.egress = baleQueued s c dx qs m ∧ t.die = s.die))

/-- R226, R367 to R369: at its T a group's circuits are asked for; a circuit asked for becomes SET or FAILED at both ends;
with every sequencer of the group IDLE its circuits are released; SPILL goes on and off for a class of the leaf at a port,
in a CTRL frame behind the port's queue; a report adds its bytes. The leaf Q that DEST names, BYTES of an ON or OFF, and
DST, TTL and FLOW of the frame are the model's choices (log entries 11, 43 and 63). -/
def Obligations.Circuits : Prop :=
  (∀ k tr a b s, s.straps.variant = 0 → (grp s .keel k).step ≠ 0 →
     fullAtOrAfter (now s .keel) (grp s .keel k).lastAt = true → groupCircuits s k = [(tr, a, b)] → a ≠ b →
     (bypOf s a).owner ≠ some (k, tr) → Gives (.circuitSet k) s (fun t =>
     bypOf t a = { state := .setting, peer := some b, owner := some (k, tr), spill := false, since := pe s .keel } ∧
     bypOf t b = { state := .setting, peer := some a, owner := some (k, tr), spill := false, since := pe s .keel } ∧
     t.out = .circuit a b true :: s.out)) ∧
  (∀ g h s, (bypOf s g).state = .setting → (bypOf s g).peer = some h → Gives (.circuitSetComplete g) s (fun t =>
     (bypOf t g).state = .set ∧ (bypOf t h).state = .set ∧ t.regs = s.regs)) ∧
  (∀ g h s, (bypOf s g).state = .setting → (bypOf s g).peer = some h → (bypOf s g).since + usCyc 20 ≤ pe s .keel →
     Gives (.circuitFail g) s (fun t => (bypOf t g).state = .failed ∧ (bypOf t h).state = .failed ∧
     flag t (A.BYP_STAT (g / 16) (g % 16)) 9 = true ∧ flag t (A.BYP_STAT (h / 16) (h % 16)) 9 = true)) ∧
  (∀ k a b ya yb s, (List.range 8).all (fun q => !flag s (A.SEQ_CFG q) 31 || rf s (A.SEQ_CFG q) 0 6 != k || (seqOf s q).state == .idle) = true →
     s.rt.byps.filter (fun e => e.2.owner.any (fun o => o.1 == k)) = [(a, ya), (b, yb)] → a ≠ b →
     (bypOf s a).owner.isSome = true → ya.peer = some b → Gives (.circuitRelease k) s (fun t => bypOf t a = {} ∧
     bypOf t b = {} ∧ t.out = .circuit a b false :: s.out)) ∧
  (∀ p cls a b s, 3 ≤ cls → cls ≤ 6 → (tget {} s.rt.egress p).spillOn.length = 4 → spilling s p cls = false →
     s.straps.variant = 0 → spillAt s p = some (a, b) → spillHeld s p cls b = true → portMoves s p = true →
     (nbrOf s .keel p).miswire = false →
     let leaf := ((groupPorts s b).head?.map (fun q => (nbrOf s .keel q).node * 4096)).getD 0;
     let f := frameMake (ctrlFrame s p (toBE 2 ctrlSpill ++ toBE 1 1 ++ toBE 1 cls ++ toBE 2 a ++ toBE 4 leaf ++ toBE 8 0));
     Gives (.spillOn p cls) s (fun t => spilling t p cls = true ∧
     (tget {} t.rt.egress p).queue = (tget {} s.rt.egress p).queue ++ [⟨1, f.length, f, fromHere⟩] ∧ t.out = s.out)) ∧
  (∀ p cls a b s, 3 ≤ cls → cls ≤ 6 → (tget {} s.rt.egress p).spillOn.length = 4 → spilling s p cls = true →
     spillAt s p = some (a, b) → spillEased s cls b = true → portMoves s p = true → (nbrOf s .keel p).miswire = false →
     let leaf := ((groupPorts s b).head?.map (fun q => (nbrOf s .keel q).node * 4096)).getD 0;
     let f := frameMake (ctrlFrame s p (toBE 2 ctrlSpill ++ toBE 1 2 ++ toBE 1 cls ++ toBE 2 a ++ toBE 4 leaf ++ toBE 8 0));
     Gives (.spillOff p cls) s (fun t => spilling t p cls = false ∧
     (tget {} t.rt.egress p).queue = (tget {} s.rt.egress p).queue ++ [⟨1, f.length, f, fromHere⟩] ∧ t.out = s.out)) ∧
  (∀ p m s, 18 ≤ m.length → getBE m 0 2 = ctrlSpill → getBE m 2 1 = 3 → s.straps.variant = 0 →
     let a := A.SPILL_BYTES (portDie p - 1) (portLevel s p); Gives (.spillReport p m) s (fun t =>
     rn64 t a = (rn64 s a + getBE m 10 8) % 2 ^ 64 ∧ t.rt = s.rt))

/-! Musters (07). -/

/-- R176 to R180, R20, R175: a single ARRIVE of a member for the step in hand is counted once, with its own stamp or, where
that has no assured bound, the receive stamp, and a copy of it changes no muster; one for the step after it is held; one
of an earlier step is counted as stale, one further ahead as ahead, and one that is not the member's by its path as
foreign, and none of these changes a muster; the aggregate goes up again after AGG_PERIOD; the package itself arrives when
its sets are done. That every set of the group counts for it, one whose ENABLE is clear too, is the model's choice (log
entry 66). In which plane an arrival counts is the model's reading (log entry 27). -/
def Obligations.Arrivals : Prop :=
  (∀ n p b m s, let k := getBE m 12 1 % 64; let q := arrivePlane s n p 0 m; let g := grp s n k;
     let ts := substStamp (countedOf m).latest (rxStamp s n p b); nodeRuns s n = true → (port s n p).linkUp = true →
     portWorks s n p = true → linkStands s n p = true → mCrcOk m = true → mType m = 5 → aggregates s n = true →
     getBE m 13 1 = 0 → arriveOk s n k p m = true → frozenFor s n k (getBE m 16 8) = false → g.planes.length = 2 →
     getBE m 16 8 = g.step + 1 →
     (planeOf g q).counted.any (fun y => y.node == (countedOf m).node && y.aggregate == (countedOf m).aggregate) = false →
     Completes (.arriveReceive n p b m) s (fun t =>
     (planeOf (grp t n k) q).counted = (planeOf g q).counted ++ [countedFull n k q { countedOf m with latest := ts.1, earliest := if ts.2 then (rxStamp s n p b).ft else (countedOf m).earliest, subst := ts.2 } s] ∧
     (grp t n k).state = (if g.state = .idle then .mustering else g.state) ∧ (grp t n k).step = g.step)) ∧
  (∀ n p b m s, let k := getBE m 12 1 % 64; let q := arrivePlane s n p 0 m; let g := grp s n k;
     let ts := substStamp (countedOf m).latest (rxStamp s n p b); nodeRuns s n = true → (port s n p).linkUp = true →
     portWorks s n p = true → linkStands s n p = true → mCrcOk m = true → mType m = 5 → aggregates s n = true →
     getBE m 13 1 = 0 → arriveOk s n k p m = true → frozenFor s n k (getBE m 16 8) = false → g.planes.length = 2 →
     getBE m 16 8 = g.step + 2 →
     (planeOf g q).held.any (fun y => y.node == (countedOf m).node && y.aggregate == (countedOf m).aggregate) = false →
     Completes (.arriveReceive n p b m) s (fun t =>
     (planeOf (grp t n k) q).held = (planeOf g q).held ++ [countedFull n k q { countedOf m with latest := ts.1, earliest := if ts.2 then (rxStamp s n p b).ft else (countedOf m).earliest, subst := ts.2 } s] ∧
     (planeOf (grp t n k) q).counted = (planeOf g q).counted)) ∧
  (∀ p b m s, let k := getBE m 12 1 % 64; let g := grp s .keel k; nodeRuns s .keel = true → (port s .keel p).linkUp = true →
     portWorks s .keel p = true → linkStands s .keel p = true → mCrcOk m = true → mType m = 5 → getBE m 13 1 = 0 →
     arriveOk s .keel k p m = true → frozenFor s .keel k (getBE m 16 8) = false → getBE m 16 8 = g.step + 1 →
     (planeOf g (arrivePlane s .keel p 0 m)).counted.any (fun y => y.node == (countedOf m).node && !y.aggregate) = true →
     Gives (.arriveReceive .keel p b m) s (fun t => t.mus = s.mus)) ∧
  (∀ p b m s, let k := getBE m 12 1 % 64; nodeRuns s .keel = true → (port s .keel p).linkUp = true →
     portWorks s .keel p = true → linkStands s .keel p = true → mCrcOk m = true → mType m = 5 → getBE m 13 1 = 0 →
     arriveOk s .keel k p m = true → frozenFor s .keel k (getBE m 16 8) = false → (grp s .keel k).step + 2 < getBE m 16 8 →
     Gives (.arriveReceive .keel p b m) s (fun t => t.mus = s.mus ∧ rd t (A.AHEAD_ARR k) = rd s (A.AHEAD_ARR k) + 1)) ∧
  (∀ p b m s, let k := getBE m 12 1 % 64; nodeRuns s .keel = true → (port s .keel p).linkUp = true →
     portWorks s .keel p = true → linkStands s .keel p = true → mCrcOk m = true → mType m = 5 → getBE m 13 1 = 0 →
     arriveOk s .keel k p m = true → frozenFor s .keel k (getBE m 16 8) = false → getBE m 16 8 < (grp s .keel k).step + 1 →
     Gives (.arriveReceive .keel p b m) s (fun t => t.mus = s.mus ∧ rd t (A.STALE_ARR k) = rd s (A.STALE_ARR k) + 1)) ∧
  (∀ p b m s, let k := getBE m 12 1 % 64; nodeRuns s .keel = true → (port s .keel p).linkUp = true →
     portWorks s .keel p = true → linkStands s .keel p = true → mCrcOk m = true → mType m = 5 →
     arriveOk s .keel k p m = false → Gives (.arriveReceive .keel p b m) s (fun t => t.mus = s.mus ∧
     rd t (A.FOREIGN_ARR k) = rd s (A.FOREIGN_ARR k) + 1)) ∧
  (∀ k p s, let q := ownPlane s; let g := grp s .keel k;
     let body := aggBody s .keel k q (g.step + 1) (planeOf g q).counted (planeArrived g q) (planeExpected s .keel k q) false;
     g.planes.length = 2 → (planeOf g q).counted ≠ [] → planeComplete s .keel k q = false →
     (planeOf g q).lastSent + usCyc (rn s A.AGG_PERIOD) ≤ pe s .keel → uplinkOf s .keel k q = some p →
     (port s .keel p).linkUp = true → linkStands s .keel p = true → ((p = 512 ∧ s.tw.link = .linkLost) = False) →
     nodeServes s .keel = true → Gives (.aggPeriod .keel k) s (fun t =>
     t.out = .msg .keel p (mkMsg tArrive ((port s .keel p).seqs.getD 4 0).toNat (senderOf s .keel p) body) :: s.out ∧
     planeOf (grp t .keel k) q = { planeOf g q with lastSent := pe s .keel })) ∧
  (∀ k s, let g := grp s .keel k; groupOn s .keel k = true → g.cfg.adjContrib = true → nodeServes s .keel = true →
     adjReady s k = true → g.adjArrived ≠ g.step + 1 → g.planes.length = 2 →
     (planeOf g (ownPlane s)).counted.any (fun y => y.node == BitVec.ofNat 20 (nodeId s .keel) && !y.aggregate) = false →
     Completes (.adjArrive k) s (fun t => (grp t .keel k).adjArrived = g.step + 1 ∧
     (∃ x, x.node = BitVec.ofNat 20 (nodeId s .keel) ∧
     (planeOf (grp t .keel k) (ownPlane s)).counted = (planeOf g (ownPlane s)).counted ++ [x])))

/-- R181, R183, R187, R190: with a plane COMPLETE, at the timeout under DEGRADE with every contributor in, and on
FORCE_DEGRADE, the launch goes to the twin of a SPLIT pair first, and a SOLO root takes it itself; at the timeout under
WAIT the group is a straggler, and under DEGRADE, or on FORCE_DEGRADE, with a contributing package out the launch is
blocked; a FORCE_DEGRADE without a muster is ignored. That STRAGGLE and DEGRADE_BLOCKED are raised once for a muster is
the model's reading (log entry 28). -/
def Obligations.LaunchDecisions : Prop :=
  (∀ k s, decides s k = true → musterOn s .keel k = true → (List.range 2).any (planeComplete s .keel k) = true →
     s.tw.mode = .split → twinUp s = true → s.tw.link ≠ .linkLost → let x := launchFor s k none false;
     Gives (.launchDecide k) s (fun t =>
     grp t .keel k = { grp s .keel k with state := .launching, lastT := x.t, lastAt := widen s .keel x.t, toTwin := (grp s .keel k).toTwin ++ [(x, pe s .keel, false)] } ∧
     t.out = .msg .keel 512 (mkMsg tLaunch ((port s .keel 512).seqs.getD 3 0).toNat (senderOf s .keel 512) (launchBody x false)) :: s.out)) ∧
  (∀ k s, decides s k = true → musterOn s .keel k = true → (List.range 2).any (planeComplete s .keel k) = true →
     s.tw.mode = .solo → let x := launchFor s k none false; Gives (.launchDecide k) s (fun t =>
     (grp t .keel k).step = (grp s .keel k).step + 1 ∧ (grp t .keel k).lastT = x.t ∧ (grp t .keel k).latest = some x ∧
     (grp t .keel k).toTwin = (grp s .keel k).toTwin)) ∧
  (∀ k e s, decides s k = true → musterOn s .keel k = true → musterEarliest s k = some e →
     (List.range 2).any (planeComplete s .keel k) = false →
     fullAtOrAfter (now s .keel) (fabAdd e (usU (grp s .keel k).params.2.1 * 65536 : Nat)) = true →
     (grp s .keel k).params.1 = 1 → adjsIn s k = true → s.tw.mode = .split →
     let x := launchFor s k (some (now64 s .keel)) false; Gives (.musterTimeout k) s (fun t =>
     grp t .keel k = { grp s .keel k with state := .launching, lastT := x.t, lastAt := widen s .keel x.t, toTwin := (grp s .keel k).toTwin ++ [(x, pe s .keel, false)] })) ∧
  (∀ k e s, decides s k = true → musterOn s .keel k = true → musterEarliest s k = some e →
     (List.range 2).any (planeComplete s .keel k) = false →
     fullAtOrAfter (now s .keel) (fabAdd e (usU (grp s .keel k).params.2.1 * 65536 : Nat)) = true →
     (grp s .keel k).params.1 ≠ 1 → (grp s .keel k).straggled = false → Gives (.musterTimeout k) s (fun t =>
     grp t .keel k = { grp s .keel k with straggled := true } ∧ flag t (A.GRP_STAT k) 8 = true)) ∧
  (∀ k e s, decides s k = true → musterOn s .keel k = true → musterEarliest s k = some e →
     (List.range 2).any (planeComplete s .keel k) = false →
     fullAtOrAfter (now s .keel) (fabAdd e (usU (grp s .keel k).params.2.1 * 65536 : Nat)) = true →
     (grp s .keel k).params.1 = 1 → adjsIn s k = false → (grp s .keel k).blocked = false →
     Gives (.musterTimeout k) s (fun t => grp t .keel k = { grp s .keel k with blocked := true } ∧
     flag t (A.GRP_STAT k) 10 = true)) ∧
  (∀ k s, decides s k = true → musterOn s .keel k = true → adjsIn s k = true → s.tw.mode = .split →
     let x := launchFor s k (some (now64 s .keel)) true; Gives (.forceDegrade k) s (fun t =>
     grp t .keel k = { grp s .keel k with state := .launching, lastT := x.t, lastAt := widen s .keel x.t, toTwin := (grp s .keel k).toTwin ++ [(x, pe s .keel, false)] })) ∧
  (∀ k s, decides s k = true → musterOn s .keel k = true → adjsIn s k = false → (grp s .keel k).blocked = false →
     Gives (.forceDegrade k) s (fun t => grp t .keel k = { grp s .keel k with blocked := true } ∧
     flag t (A.GRP_STAT k) 10 = true)) ∧
  (∀ k s, decides s k = true → musterOn s .keel k = true → adjsIn s k = true → s.tw.mode = .solo →
     let x := launchFor s k (some (now64 s .keel)) true; Gives (.forceDegrade k) s (fun t =>
     (grp t .keel k).step = (grp s .keel k).step + 1 ∧ (grp t .keel k).latest = some x ∧ x.degraded = true ∧ x.forced = true)) ∧
  (∀ k s, s.tw.primary = true → (groupOn s .keel k = false ∨ musterOn s .keel k = false) →
     Gives (.forceDegrade k) s (fun t => t.mus = s.mus ∧ flag t (A.GRP_STAT k) 14 = true))

/-- R183 to R185, R188, R194: the twin's acknowledgement lets the root broadcast, and so do 5 µs without one; a LAUNCH of a
new step that comes by its proper path is taken; both go out on every launch port while no drill is due; a copy of the
last one changes no muster, and one by another path is foreign; a FINAL goes up at T at the latest, behind the records of
those who are excluded; the latest LAUNCH is repeated each ms to a port whose child owes an arrival; LAUNCHING ends at T.
On which ports a LAUNCH goes out is the model's reading (log entry 28). -/
def Obligations.LaunchPaths : Prop :=
  (∀ k step x t0 s, (grp s .keel k).toTwin.find? (fun y => y.1.step == step) = some (x, t0, true) →
     Completes (.twinLaunchAck k step) s (fun t =>
     grp t .keel k = { grp s .keel k with toTwin := (grp s .keel k).toTwin.filter (fun y => y.1.step != step) })) ∧
  (∀ k step x t0 s, (grp s .keel k).toTwin.find? (fun y => y.1.step == step) = some (x, t0, false) → x.group = k →
     Gives (.twinLaunchAck k step) s (fun t => (grp t .keel k).step = step ∧ (grp t .keel k).lastT = x.t ∧
     (grp t .keel k).latest = some x ∧ (grp t .keel k).toTwin = (grp s .keel k).toTwin.filter (fun y => y.1.step != step))) ∧
  (∀ k x t0 s, (grp s .keel k).toTwin = [(x, t0, false)] → x.group = k → t0 + usCyc 5 ≤ pe s .keel → s.tw.mode = .split →
     s.tw.link ≠ .partnerLost → Gives (.launchUnackTimeout k) s (fun t => (grp t .keel k).step = x.step ∧
     (grp t .keel k).toTwin = [(x, pe s .keel, true)] ∧ flag t (A.GRP_STAT k) 16 = true)) ∧
  (∀ k step x t0 s, (grp s .keel k).toTwin.find? (fun y => y.1.step == step) = some (x, t0, false) → x.group = k →
     nodeServes s .keel = true → s.tw.drill = none → s.tw.rehNow = none → s.tw.rehDue = none →
     Gives (.twinLaunchAck k step) s (fun t =>
     (∀ p ∈ launchPorts s .keel, Out.msg .keel p (mkMsg tLaunch ((port s .keel p).seqs.getD 3 0).toNat (senderOf s .keel p) (launchBody x false)) ∈ t.out))) ∧
  (∀ k x t0 s, (grp s .keel k).toTwin = [(x, t0, false)] → x.group = k → t0 + usCyc 5 ≤ pe s .keel →
     nodeServes s .keel = true → s.tw.drill = none → s.tw.rehNow = none → s.tw.rehDue = none →
     Gives (.launchUnackTimeout k) s (fun t =>
     (∀ p ∈ launchPorts s .keel, Out.msg .keel p (mkMsg tLaunch ((port s .keel p).seqs.getD 3 0).toNat (senderOf s .keel p) (launchBody x false)) ∈ t.out))) ∧
  (∀ n p m s, let x := launchOf m; nodeRuns s n = true → (port s n p).linkUp = true → portWorks s n p = true →
     linkStands s n p = true → mCrcOk m = true → mType m = 4 → aggregates s n = true → launchPath s n x.group p = true →
     (grp s n x.group).step < x.step → nodeServes s n = true → s.tw.drill = none → s.tw.rehNow = none → s.tw.rehDue = none →
     Gives (.aggLaunchReceive n p m) s (fun t =>
     (∀ q ∈ launchPorts s n, Out.msg n q (mkMsg tLaunch ((port s n q).seqs.getD 3 0).toNat (senderOf s n q) (launchBody x false)) ∈ t.out))) ∧
  (∀ n p m s, let x := launchOf m; nodeRuns s n = true → (port s n p).linkUp = true → portWorks s n p = true →
     linkStands s n p = true → mCrcOk m = true → mType m = 4 → aggregates s n = true → launchPath s n x.group p = true →
     (grp s n x.group).step < x.step → Gives (.aggLaunchReceive n p m) s (fun t => (grp t n x.group).step = x.step ∧
     (grp t n x.group).lastT = x.t ∧ (grp t n x.group).latest = some x)) ∧
  (∀ n p m s, let x := launchOf m; nodeRuns s n = true → (port s n p).linkUp = true → portWorks s n p = true →
     linkStands s n p = true → mCrcOk m = true → mType m = 4 → aggregates s n = true → launchPath s n x.group p = true →
     (grp s n x.group).step = x.step → ((grp s n x.group).latest.map (fun y => y.t)) = some x.t →
     Gives (.aggLaunchReceive n p m) s (fun t => t.mus = s.mus ∧ t.evMus = s.evMus ∧ t.die = s.die)) ∧
  (∀ p m s, let x := launchOf m; nodeRuns s .keel = true → (port s .keel p).linkUp = true → portWorks s .keel p = true →
     linkStands s .keel p = true → mCrcOk m = true → mType m = 4 → launchPath s .keel x.group p = false →
     Gives (.aggLaunchReceive .keel p m) s (fun t => t.mus = s.mus ∧
     rd t (A.FOREIGN_ARR x.group) = rd s (A.FOREIGN_ARR x.group) + 1)) ∧
  (∀ n k c s, let q := frozenPlane s n; let x := planeOf (grp s n k) q; (grp s n k).planes.length = 2 → x.frozen = some c →
     x.finalSent = false → fullAtOrAfter (now s n) (grp s n k).lastAt = true → Gives (.finalWaitEnd n k) s (fun t =>
     (planeOf (grp t n k) q).finalSent = true ∧ (planeOf (grp t n k) q).frozen = x.frozen ∧
     (grp t n k).step = (grp s n k).step)) ∧
  (∀ n k c u p s, let q := frozenPlane s n; let g := grp s n k; let x := planeOf g q; let kids := planeKids s n c q;
     let outs := (x.excluded ++ (kids.filter (fun y => !x.finals.any (fun f => f.node == y.node))).flatMap (fun y => y.below)).eraseDups;
     let all := c.members.length + b2n c.adjContrib + kids.foldl (fun a y => a + y.below.length) 0;
     let i := (port s n p).seqs.getD 4 0; g.planes.length = 2 → x.frozen = some c → x.finalSent = false →
     fullAtOrAfter (now s n) g.lastAt = true → u ∈ frozenUps s n → uplinkOf s n k u = some p → (∀ v ∈ frozenUps s n, v ≠ u →
     uplinkOf s n k v ≠ some p) → nodeServes s n = true → (port s n p).linkUp = true → linkStands s n p = true →
     (n = .evxus ∨ p ≠ 512 ∨ s.tw.link ≠ .linkLost) → 4 < (port s n p).seqs.length → Gives (.finalWaitEnd n k) s (fun t =>
     Out.msg n p (mkMsg tArrive (i + BitVec.ofNat 16 (eights outs.length outs).length).toNat (senderOf s n p) (aggBody s n k u g.step (x.frozenSingles ++ x.finals) (x.frozenSingles.length + x.finals.foldl (fun a f => a + f.arrived) 0) all true)) ∈ t.out ∧
     (outs ≠ [] → Out.msg n p (mkMsg tArrive i.toNat (senderOf s n p) (exclBody k u g.step (outs.take 8))) ∈ t.out))) ∧
  (∀ n k p x s, let g := grp s n k; g.latest = some x → g.lastRepeat + usCyc 1000 ≤ pe s n →
     (launchPorts s n).filter (childOwes s n k) = [p] → nodeServes s n = true → Gives (.launchRepeat n k) s (fun t =>
     grp t n k = { g with lastRepeat := pe s n } ∧
     t.out = .msg n p (mkMsg tLaunch ((port s n p).seqs.getD 3 0).toNat (senderOf s n p) (launchBody x true)) :: s.out)) ∧
  (∀ n k s, let g := grp s n k; g.state = .launching → fullAtOrAfter (now s n) g.lastAt = true →
     g.toTwin.all (fun x => x.2.2) = true → Completes (.launchTReached n k) s (fun t =>
     grp t n k = { g with state := if g.planes.any (fun x => !x.counted.isEmpty) then .mustering else .idle }))

/-- R193, R442, R445: STRAG_REQ with GO takes a ticket of block 12, which ends at once with fault 1 where the group musters
nothing; the list goes to host memory at STRAG_ADDR, 8 bytes an entry, at most STRAG_MAX of them, and its ticket ends with
fault 3 if a launch has been decided meanwhile, else 2 if entries were left out, else 0 (that a launch decided meanwhile
comes first is the model's choice, log entry 29). Where the write fails the ticket ends too, and PCIE_UERR counts it; its
fault code is free (log entry 4). -/
def Obligations.StragglerLists : Prop :=
  (∀ v k s, bit v 31 = true → s.mus.strag = none → nextTicket s = some k → musterOn s .keel (bits v 0 6) = true →
     Gives (.stragReq v) s (fun t =>
     t.mus = { s.mus with strag := some ⟨bits v 0 6, k, (grp s .keel (bits v 0 6)).step, stragOwn s (bits v 0 6)⟩ } ∧
     opstat t k = { state := .running, serial := s.host.serial, block := 12 })) ∧
  (∀ v k s, bit v 31 = true → s.mus.strag = none → nextTicket s = some k → musterOn s .keel (bits v 0 6) = false →
     Gives (.stragReq v) s (fun t => t.mus = s.mus ∧
     opstat t k = { state := .ended, fault := 1, serial := s.host.serial, block := 12 })) ∧
  (∀ reports k tk step own s, s.mus.strag = some ⟨k, tk, step, own⟩ → (opstat s tk).state ≠ .ended →
     let reps := own ++ reports; let nodes := (reps.map (fun r => r.2.1)).eraseDups; let n := rn s A.STRAG_MAX;
     let out := nodes.take n; Gives (.stragListDone reports true) s (fun t => t.mus = { s.mus with strag := none } ∧
     t.out = ((List.range out.length).map (fun i => Out.hostWrite (BitVec.ofNat 64 (rn64 s A.STRAG_ADDR + 8 * i)) (stragEntry reps (out.getD i 0)))).reverse ++ s.out ∧
     (opstat t tk = { opstat s tk with progress := min out.length 0xFFFFFF, partial_ := !out.isEmpty || (opstat s tk).partial_, state := .ended, fault := if (grp s .keel k).step ≠ step ∨ launchDecided (grp s .keel k) = true then 3 else if n < nodes.length then 2 else 0 }))) ∧
  (∀ reports k tk step own s, s.mus.strag = some ⟨k, tk, step, own⟩ → (opstat s tk).state ≠ .ended →
     Gives (.stragListDone reports false) s (fun t => t.mus = { s.mus with strag := none } ∧ (opstat t tk).state = .ended ∧
     rd t A.PCIE_UERR = rd s A.PCIE_UERR + 1 ∧ t.out = s.out))

/-! Slot sequencers (08) and the update pass (10). -/

/-- R195, R201, R205, R209: an armed sequencer starts at T, the pulses already past counting as guard slots; a running one
with no entry outstanding goes to its next index, and after the last one to IDLE, where LAST_SHIFT shows the guard slots
used. -/
def Obligations.SlotPulses : Prop :=
  (∀ q s, let x := seqOf s q; q < 8 → (clkDie s (5 + q / 4)).tripped = false → (clkDie s (5 + q / 4)).heldReset = false →
     x.state = .armed → armedHeld s q = false → onGrid s x.t = true → seqPart s q ≠ 0xFF →
     let past := (ftDiff (now64 s .keel) x.t).toNat / slotU; Gives (.slotPulse q) s (fun t =>
     seqOf t q = { x with state := .running, started := true, g := past, idx := 0 } ∧
     rd t (A.GUARD_CNT q) = rd s (A.GUARD_CNT q) + BitVec.ofNat 32 past)) ∧
  (∀ q s, let x := seqOf s q; let es := slotEntries x.run.table; q < 8 → (clkDie s (5 + q / 4)).tripped = false →
     (clkDie s (5 + q / 4)).heldReset = false → x.state = .running → x.guarding = false → x.active = [] →
     (List.range es.length).all (fun i => (es[i]?.map (fun e => e.slot)) != some x.idx || x.issued.contains i) = true →
     onGrid s x.t = true → seqPart s q ≠ 0xFF → pulseDue s x (x.idx + x.g + 1) = true → x.idx + 1 < x.run.table.count →
     Gives (.slotPulse q) s (fun t => (seqOf t q).state = .running ∧ (seqOf t q).idx = x.idx + 1 ∧ (seqOf t q).g = x.g ∧
     (seqOf t q).issued = [])) ∧
  (∀ q s, let x := seqOf s q; let es := slotEntries x.run.table; q < 8 → (clkDie s (5 + q / 4)).tripped = false →
     (clkDie s (5 + q / 4)).heldReset = false → x.state = .running → x.guarding = false → x.active = [] → x.next = none →
     (List.range es.length).all (fun i => (es[i]?.map (fun e => e.slot)) != some x.idx || x.issued.contains i) = true →
     onGrid s x.t = true → seqPart s q ≠ 0xFF → pulseDue s x (x.idx + x.g + 1) = true → x.run.table.count ≤ x.idx + 1 →
     Gives (.slotPulse q) s (fun t => (seqOf t q).state = .idle ∧ (seqOf t q).lastShift = x.g ∧ (seqOf t q).step = x.step))

/-- R200 to R203, R205, R207: an entry whose tally holds and whose landing is in time issues; one that must wait, with guard
slots left, costs one; a completed entry is active no more, and its cycle counts; a droop is counted by its die; it takes
from a crossing's buffer an entry that the die sends, or adds one that it receives; a bubble or a stall counts at the
other die, unless both sides stretch. That an entry which was late has no part in CYC_LAST is the model's reading (log
entry 31). -/
def Obligations.Entries : Prop :=
  (∀ q e ecc en s, let x := seqOf s q; (slotEntries x.run.table)[e]? = some en → x.state = .running → x.started = true →
     x.guarding = false → en.slot = x.idx → x.issued.contains e = false → seqPart s q ≠ 0xFF →
     engPart s (q / 4) en.engine ≠ 0xFF → entryWaits s q en = false → x.limitHit = false → coreOn s (q / 4) = true →
     Gives (.entryIssue q e ecc) s (fun t => (seqOf t q).issued = x.issued ++ [e] ∧ (seqOf t q).active = x.active ++ [e] ∧
     (seqOf t q).idx = x.idx ∧ (seqOf t q).g = x.g)) ∧
  (∀ q e ecc en s, let x := seqOf s q; (slotEntries x.run.table)[e]? = some en → x.state = .running → x.started = true →
     x.guarding = false → en.slot = x.idx → x.issued.contains e = false → seqPart s q ≠ 0xFF →
     engPart s (q / 4) en.engine ≠ 0xFF → entryWaits s q en = true → x.g < guardLimit s q → coreOn s (q / 4) = true →
     Gives (.entryIssue q e ecc) s (fun t => (seqOf t q).guarding = true ∧ (seqOf t q).g = x.g + 1 ∧
     (seqOf t q).issued = x.issued ∧ flag t (A.SEQ_STAT q) 5 = true)) ∧
  (∀ q e ecc s, coreOn s (q / 4) = false → Gives (.entryIssue q e ecc) s (fun t => t = s)) ∧
  (∀ q e en s, let x := seqOf s q; (slotEntries x.run.table)[e]? = some en → leftWith x e = none →
     x.active.contains e = true → engDown (actAgain (q / 4) x.run en s) (q / 4) en.engine = false →
     (engOf s (q / 4) en.engine).gate = none → coreOn s (q / 4) = true → Gives (.entryComplete q e) s (fun t =>
     (seqOf t q).active = x.active.erase e ∧
     (seqOf t q).slotCyc = (if x.late.contains e then x.slotCyc else some (max (x.slotCyc.getD 0) (en.endCyc + tget 0 x.stalls e))) ∧
     (seqOf t q).stalls = tdel e x.stalls ∧ (seqOf t q).state = x.state)) ∧
  (∀ die sent received both s, 1 ≤ die → die ≤ 6 → diePresent s die = true →
     Gives (.clockStretch die sent received both) s (fun t =>
     rd t (A.STRETCH_COUNT (die - 1)) = rd s (A.STRETCH_COUNT (die - 1)) + 1 ∧ ((∀ q, q < 8 → die = 5 + q / 4 →
     (seqOf s q).state = .running → (seqOf t q).stretched = true)))) ∧
  (∀ die x q e s, 1 ≤ die → die ≤ 6 → diePresent s die = true → crossThere s x = true → x.hits = [(q, e)] →
     (seqOf s q).active.contains e = true → let k := crossKey die x.other x.id; (tget {} s.die.crossings k).level = 0 →
     Gives (.clockStretch die [x] [] []) s (fun t =>
     rd t (A.BUBBLE_COUNT (x.other - 1)) = rd s (A.BUBBLE_COUNT (x.other - 1)) + 1 ∧
     (tget {} t.die.crossings k).owed = ((tget {} s.die.crossings k).owed ++ [(q, e)]).eraseDups ∧
     tget 0 (seqOf t q).stalls e = tget 0 (seqOf s q).stalls e + 1)) ∧
  (∀ die x s, 1 ≤ die → die ≤ 6 → diePresent s die = true → crossThere s x = true → let k := crossKey die x.other x.id;
     (tget {} s.die.crossings k).level ≠ 0 → Gives (.clockStretch die [x] [] []) s (fun t =>
     (tget {} t.die.crossings k).level = (tget {} s.die.crossings k).level - 1 ∧
     rd t (A.BUBBLE_COUNT (x.other - 1)) = rd s (A.BUBBLE_COUNT (x.other - 1)))) ∧
  (∀ die x s, 1 ≤ die → die ≤ 6 → diePresent s die = true → crossThere s x = true → let k := crossKey x.other die x.id;
     (tget {} s.die.crossings k).level < 8 → Gives (.clockStretch die [] [x] []) s (fun t =>
     (tget {} t.die.crossings k).level = (tget {} s.die.crossings k).level + 1 ∧
     rd t (A.CREDIT_STALL (x.other - 1)) = rd s (A.CREDIT_STALL (x.other - 1)))) ∧
  (∀ die x q e s, 1 ≤ die → die ≤ 6 → diePresent s die = true → crossThere s x = true → x.hits = [(q, e)] →
     (seqOf s q).active.contains e = true → let k := crossKey x.other die x.id; 8 ≤ (tget {} s.die.crossings k).level →
     Gives (.clockStretch die [] [x] []) s (fun t =>
     rd t (A.CREDIT_STALL (x.other - 1)) = rd s (A.CREDIT_STALL (x.other - 1)) + 1 ∧
     tget 0 (seqOf t q).stalls e = tget 0 (seqOf s q).stalls e + 1)) ∧
  (∀ die both d s, 1 ≤ die → die ≤ 6 → diePresent s die = true → 1 ≤ d → d ≤ 6 →
     Gives (.clockStretch die [] [] both) s (fun t => rd t (A.BUBBLE_COUNT (d - 1)) = rd s (A.BUBBLE_COUNT (d - 1)) ∧
     rd t (A.CREDIT_STALL (d - 1)) = rd s (A.CREDIT_STALL (d - 1))))

/-- R230 to R232, R237: the next bale of a set, its gradient written, passes through the optimiser: the new p, m and v stand
in the stack and DONE_BALES counts; a bale of an INVALID gradient changes no parameter and counts in UPD_SKIP_BALE too; an
uncorrectable line stops the pass with fault 1; a write that its segment refuses after a part of the bale is written stops
it with fault 2 and leaves the bale torn; RESUME clears the fault. That the writes of a bale go out in the order p, m, v
is the model's reading (log entry 34). -/
def Obligations.Updates : Prop :=
  (∀ u bale s, let dx := u / 32; let v := u % 32; let y := psetOf (passBegin dx v s) dx v;
     let a := baleArea s dx v (bale - (psetCfg s dx v).baleBase);
     let b := updBytes s dx v a (passOf (psetCfg s dx v).opt y.hyper y.b1t y.b2t); u < 64 → updDue s dx v bale = true →
     (psetOf s dx v).grads.any (fun g => g.1 == bale && g.2.1) = false → updReadFail s dx v a = none →
     burstFails s dx (psetCfg s dx v).segP (updEngine v) true a.p b.1.length = none →
     burstFails s dx (psetCfg s dx v).segM (updEngine v) true a.m b.2.1.length = none →
     ((psetCfg s dx v).opt ≠ 1 ∨ burstFails s dx (psetCfg s dx v).segV (updEngine v) true a.v b.2.2.1.length = none) →
     Gives (.updBaleApply u bale {}) s (fun t =>
     t.die.stack = putBytes a.v b.2.2.1 (putBytes a.m b.2.1 (putBytes a.p b.1 s.die.stack)) ∧
     (psetOf t dx v).doneBales = (psetOf s dx v).doneBales + 1 ∧ (psetOf t dx v).b1t = y.b1t)) ∧
  (∀ u bale c z0 s, let dx := u / 32; let v := u % 32; let y := psetOf (passBegin dx v s) dx v;
     let a := baleArea s dx v (bale - (psetCfg s dx v).baleBase);
     let b := updBytes s dx v a (passOf (psetCfg s dx v).opt y.hyper y.b1t y.b2t); u < 64 → updDue s dx v bale = true →
     (psetOf s dx v).grads.any (fun g => g.1 == bale && g.2.1) = false → updReadFail s dx v a = none →
     burstFails s dx (psetCfg s dx v).segP (updEngine v) true a.p b.1.length = none →
     burstFails s dx (psetCfg s dx v).segM (updEngine v) true a.m b.2.1.length = some (c, z0) →
     Gives (.updBaleApply u bale {}) s (fun t =>
     t.die.stack = putBytes a.m (b.2.1.take (z0 - a.m)) (putBytes a.p b.1 s.die.stack) ∧ (psetOf t dx v).fault = 2 ∧
     (psetOf t dx v).torn = some bale ∧ (psetOf t dx v).doneBales = (psetOf s dx v).doneBales)) ∧
  (∀ u bale s, let dx := u / 32; let v := u % 32; u < 64 → updDue s dx v bale = true →
     (psetOf s dx v).grads.any (fun g => g.1 == bale && g.2.1) = true → Gives (.updBaleApply u bale {}) s (fun t =>
     t.die.stack = s.die.stack ∧ (psetOf t dx v).doneBales = (psetOf s dx v).doneBales + 1 ∧
     rd t (A.UPD_SKIP_BALE dx) = rd s (A.UPD_SKIP_BALE dx) + 1 ∧ flag t (A.PSET_STAT dx v) 5 = true)) ∧
  (∀ u bale st s, let dx := u / 32; let v := u % 32; u < 64 → updDue s dx v bale = true →
     (psetOf s dx v).grads.any (fun g => g.1 == bale && g.2.1) = false →
     updReadFail s dx v (baleArea s dx v (bale - (psetCfg s dx v).baleBase)) = none →
     Gives (.updBaleApply u bale { ue := some st }) s (fun t =>
     rd t (A.STK_UE dx (st % 2)) = rd s (A.STK_UE dx (st % 2)) + 1 ∧ t.die.stack = s.die.stack ∧
     psetOf t dx v = { psetOf s dx v with state := .applying, fault := 1 } ∧ flag t (A.PSET_STAT dx v) 7 = true)) ∧
  (∀ u s, u < 64 → diePresent s (5 + u / 32) = true → Gives (.updResume u) s (fun t =>
     psetOf t (u / 32) (u % 32) = { psetOf s (u / 32) (u % 32) with fault := 0, torn := none } ∧ t.die.stack = s.die.stack ∧
     t.regs = s.regs))

/-! The pair, the convoy and the rehearsals (16). -/

/-- R374 to R377, R379, R380, R407: a heartbeat goes out on a link that is up, and one that is taken shows the partner
present; the lower epoch of two primaries demotes itself; the mark of an expelled partner makes a SPLIT package SOLO; a
missing heartbeat starts probing, an answer shows LINK_LOST, and PROBE_WAIT without one PARTNER_LOST; a mirrored item
replaces the one it concerns, the twin of the primary root takes a group's values from it, and a LAUNCH that is mirrored;
a warm survivor takes the root role. The codes of probes and mirrored items (log entry 6), the marks of a heartbeat (log
entry 30) and the digest of a bale that is re-formed (free, log entry 67) are the model's. -/
def Obligations.TwinLinkCommands : Prop :=
  (∀ s, twinTrained s = true → s.hl.expelled = false →
     s.tw.lastTx.all (fun x => decide (usCyc 10 ≤ pe s .keel - x)) = true → Gives (.heartbeatSend) s (fun t =>
     t.out = .heartbeat (modeCode s.tw.mode) s.tw.primary s.tw.roleEpoch s.straps.chip (if s.hl.held then 3 else 0) :: s.out ∧
     t.tw = { s.tw with lastTx := some (pe s .keel) })) ∧
  (∀ s, s.hl.expelled = true → Gives (.heartbeatSend) s (fun t => t = s)) ∧
  (∀ mode primary epoch chip is700 mark s, twinTrained s = true → chipExpected s chip = true →
     Gives (.heartbeatReceive mode primary epoch chip is700 mark) s (fun t => t.tw.lastHb = some (pe s .keel) ∧
     t.tw.link = .up ∧ t.tw.probing = none)) ∧
  (∀ mode primary epoch chip is700 mark s, twinTrained s = true → chipExpected s chip = false →
     Gives (.heartbeatReceive mode primary epoch chip is700 mark) s (fun t => t.tw = { s.tw with badChip := true } ∧
     twinUp t = false)) ∧
  (∀ mode epoch chip is700 mark s, twinTrained s = true → chipExpected s chip = true → s.tw.primary = true →
     s.tw.roleEpoch.toNat < epoch.toNat → Gives (.heartbeatReceive mode true epoch chip is700 mark) s (fun t =>
     t.tw.primary = false ∧ flag t A.TWIN_HIST 7 = true ∧ flag t A.TWIN_HIST 6 = true)) ∧
  (∀ epoch chip is700 s, twinTrained s = true → chipExpected s chip = true → s.tw.mode = .split →
     s.hl.partnerExpelled = false → Gives (.heartbeatReceive 0 false epoch chip is700 1) s (fun t => t.tw.mode = .solo ∧
     t.hl.partnerExpelled = true ∧ flag t A.HLTH_HIST 8 = true)) ∧
  (∀ epoch chip is700 s, twinTrained s = true → chipExpected s chip = true → s.tw.mode = .solo →
     Gives (.heartbeatReceive 2 false epoch chip is700 0) s (fun t => t.tw.mode = .shadow ∧ t.tw.newcomer = true ∧
     t.tw.primary = false ∧ t.tw.adm = (if is700 then .bist else .almanac))) ∧
  (∀ p s, s.cfg.hall.partner = some p → s.tw.probing = none → s.tw.link ≠ .partnerLost → hbPresent s = false →
     Gives (.hbTimeout) s (fun t => t.tw.probing = some (pe s .keel) ∧
     t.out = .ctrl p.1 ctrlProbe [1, s.cfg.hall.probeVia.getD 1 0] :: .ctrl p.1 ctrlProbe [0, s.cfg.hall.probeVia.getD 0 0] :: s.out ∧
     t.tw.link = s.tw.link)) ∧
  (∀ p s, s.cfg.hall.partner = some p → s.tw.probing.isSome = true → s.tw.lastProbe + usCyc 100 ≤ pe s .keel →
     Gives (.probeSend) s (fun t => t.tw = { s.tw with lastProbe := pe s .keel } ∧
     t.out = .ctrl p.1 ctrlProbe [1, s.cfg.hall.probeVia.getD 1 0] :: .ctrl p.1 ctrlProbe [0, s.cfg.hall.probeVia.getD 0 0] :: s.out)) ∧
  (∀ path s, s.tw.probing.isSome = true → Gives (.probeAnswer path) s (fun t =>
     t.tw = { s.tw with link := .linkLost, lastAnswer := some (pe s .keel), drill := s.tw.drill.map (fun d => { d with lost := true }) } ∧
     (s.tw.link = .linkLost ∨ flag t A.TWIN_HIST 3 = true))) ∧
  (∀ x s, s.tw.probing = some x →
     (match s.tw.lastAnswer with | some a => max a x | none => x) + usCyc (rn s A.PROBE_WAIT) ≤ pe s .keel →
     (s.tw.mode = .split ∨ s.tw.mode = .solo) → Gives (.probeWait) s (fun t => t.tw.link = .partnerLost ∧
     t.tw.probing = none ∧ t.tw.mode = .solo ∧ flag t A.TWIN_HIST 4 = true)) ∧
  (∀ i s, (match i with | .launch k _ _ _ _ _ _ _ => launchPath s .keel k 512 | .landing _ _ _ => true | .capture _ _ _ _ _ _ => true | _ => false) = false →
     Gives (.mirrorUpdate i) s (fun t => t.tw.mirror = s.tw.mirror.filter (fun x => !sameItem x i) ++ [i])) ∧
  (∀ die tree bale step src l s, s.tw.link ≠ .linkLost → twinUp s = true →
     Gives (.mirrorUpdate (.capture die tree bale step src l)) s (fun t =>
     t.out = .mirror 12 [die, tree, bale, step, (Config.reform tree bale step l).toNat] :: s.out ∧ t.tw = s.tw)) ∧
  (∀ dx v b s, (s.tw.mode ≠ .shadow ∨ s.tw.newcomer = false ∨ s.tw.adm ≠ .compare) →
     Gives (.mirrorUpdate (.landing dx v b)) s (fun t => t = s)) ∧
  (∀ k st x cut d fl fo ep s, s.cfg.hall.rootPair = true → s.tw.primary = false → groupOn s .keel k = true →
     (grp s .keel k).step < st → Gives (.mirrorUpdate (.launch k st x cut d fl fo ep)) s (fun t => (grp t .keel k).step = st ∧
     (grp t .keel k).lastT = x ∧ (grp t .keel k).latest = some ⟨k, st, x, cut, d, fl, fo, ep⟩)) ∧
  (∀ k st pol tmo lead bc a b e x began s, k < 64 → s.tw.primary = false → s.cfg.hall.rootPair = true →
     Gives (.mirrorUpdate (.group k st pol tmo lead bc a b e x began)) s (fun t => (((grp s .keel k).step = st →
     (grp t .keel k).params = began)) ∧ rn t (A.MUSTER_TIMEOUT k) = tmo % 2 ^ 32 ∧ rn t (A.LAUNCH_LEAD k) = lead % 2 ^ 32 ∧
     rn t (A.BCAST_MIN k) = bc % 2 ^ 32 ∧ rf t (A.GRP_CFG k) 8 2 = pol % 4)) ∧
  (∀ s, s.cfg.hall.rootPair = true → s.tw.primary = false → s.tw.mode = .solo → s.keel.ref.rootWarm = true →
     serving s = true → Gives (.rootTakeover) s (fun t => t.tw.primary = true ∧ t.tw.roleEpoch = s.tw.roleEpoch + 1 ∧
     flag t A.TWIN_HIST 5 = true))

/-- R382, R386 to R388, R391: a notice is stored with the step of each group, a retiring one beside the others; the loss of a
member marks its position ERASED; the deltas of a bale are applied once all its frames are in, at the holder of P by xor,
and acknowledged; an acknowledgement leaves the bales that wait for others; a rebuild makes every erased position REBUILT.
Which descriptor and engine an access to the parity names is the model's choice (log entry 55). The code of the
acknowledgement is the model's (log entry 6). -/
def Obligations.ConvoyCommands : Prop :=
  (∀ lost alts s, Gives (.soloNoticeReceive lost alts false) s (fun t =>
     t.tw.alts = s.tw.alts.filter (fun x => x.2.2 != lost) ++ alts.map (fun a => (a.1, a.2, lost)) ∧
     ((alts.any (fun a => decide (a.2 ≤ (grp s .keel a.1).step)) = true → flag t A.TWIN_HIST 12 = true)))) ∧
  (∀ lost alts s, Gives (.soloNoticeReceive lost alts true) s (fun t =>
     t.tw.retires = s.tw.retires ++ alts.map (fun a => (lost, a.1, a.2)) ∧ ((s.tw.member = true →
     t.tw.positions = ((List.range 8).zip s.tw.positions).map (fun x => if (s.cfg.hall.convoy.getD x.1 (2 ^ 32, false, 0, 0)).1 == lost then .current else x.2))))) ∧
  (∀ pos total s, s.tw.member = true → pos < 8 → s.tw.positions.getD pos .absent ≠ .absent →
     let again := s.cfg.hall.rebuild.filter (fun a => a.host == pos && s.tw.positions.getD a.lost .absent == .rebuilt);
     Gives (.convoyLossReceive pos total) s (fun t =>
     t.tw.positions = again.foldl (fun l a => l.set a.lost .erased) (s.tw.positions.set pos .erased) ∧
     t.tw.deltaPend = (s.tw.deltaPend.map (fun d => (d.1, d.2.1, d.2.2.filter (fun h => h != pos)))).filter (fun d => !d.2.2.isEmpty) ∧
     flag t A.TWIN_HIST 9 = true)) ∧
  (∀ src set bale frame frames delta s, s.tw.member = true →
     s.tw.deltas.any (fun d => d.src == src && d.set == set && d.bale == bale) = false →
     s.tw.deltas.all (fun d => decide (d.frames.length < d.total) || !d.rows.all (fun r => coreOn s (r.1 / rowsPerStack / 2))) = true →
     (2 ≤ frames ∨ delta.rows.all (fun r => coreOn s (r.1 / rowsPerStack / 2)) = false) →
     Gives (.parityDelta src set bale frame frames delta) s (fun t =>
     t.tw = { s.tw with deltas := s.tw.deltas ++ [⟨src, set, bale, [frame], delta.rows, frames, delta.ecc⟩] } ∧
     t.die = s.die ∧ t.out = s.out)) ∧
  (∀ src set bale frame row d s, s.tw.member = true →
     s.tw.deltas.any (fun d => d.src == src && d.set == set && d.bale == bale) = false →
     (holders row)[0]? = some s.cfg.hall.pos →
     s.tw.deltas.all (fun d => decide (d.frames.length < d.total) || !d.rows.all (fun r => coreOn s (r.1 / rowsPerStack / 2))) = true →
     let dx := row / rowsPerStack / 2; coreOn s dx = true → let a := parityAddr row; let k := segNamed s dx a d.length 0x54 4;
     burstFails s dx k.1 k.2 false a d.length = none → burstFails s dx k.1 k.2 true a d.length = none →
     Gives (.parityDelta src set bale frame 1 { rows := [(row, d)] }) s (fun t =>
     t.die.stack = putBytes (parityAddr row) ((List.range d.length).map (fun i => tget 0 s.die.stack (parityAddr row + i) ^^^ d.getD i 0)) s.die.stack ∧
     t.out = .ctrl ((s.cfg.hall.convoy.getD src (0, false, 0, 0)).1) ctrlAck [set, bale] :: s.out ∧ t.tw.deltas = s.tw.deltas)) ∧
  (∀ src set bale frame row d s, s.tw.member = true →
     s.tw.deltas.any (fun d => d.src == src && d.set == set && d.bale == bale) = false →
     (holders row)[0]? ≠ some s.cfg.hall.pos → (holders row)[1]? = some s.cfg.hall.pos →
     s.tw.deltas.all (fun d => decide (d.frames.length < d.total) || !d.rows.all (fun r => coreOn s (r.1 / rowsPerStack / 2))) = true →
     let dx := row / rowsPerStack / 2; coreOn s dx = true → let a := parityAddr row; let k := segNamed s dx a d.length 0x54 4;
     burstFails s dx k.1 k.2 false a d.length = none → burstFails s dx k.1 k.2 true a d.length = none →
     Gives (.parityDelta src set bale frame 1 { rows := [(row, d)] }) s (fun t =>
     t.die.stack = putBytes (parityAddr row) ((List.range d.length).map (fun i => tget 0 s.die.stack (parityAddr row + i) ^^^ BitVec.ofNat 8 (gfMulG (dataIndex row (dataPos s src set)) (d.getD i 0).toNat))) s.die.stack ∧
     t.out = .ctrl ((s.cfg.hall.convoy.getD src (0, false, 0, 0)).1) ctrlAck [set, bale] :: s.out)) ∧
  (∀ holder set bale s, Gives (.parityAck holder set bale) s (fun t =>
     t.tw.deltaPend = (s.tw.deltaPend.map (fun d => if d.1 = set ∧
     d.2.1 = bale then (d.1, d.2.1, d.2.2.filter (fun h => h != holder)) else d)).filter (fun d => !d.2.2.isEmpty) ∧
     t.die = s.die)) ∧
  (∀ bytes data s, s.tw.member = true → s.tw.mode ≠ .shadow →
     data.all (fun e => (burstFails s (e.1 / 2 ^ 38) (segNamed s (e.1 / 2 ^ 38) e.1 e.2.length 0x54 4).1 (segNamed s (e.1 / 2 ^ 38) e.1 e.2.length 0x54 4).2 true e.1 e.2.length).isNone) = true →
     Gives (.rebuildDone bytes data) s (fun t =>
     t.tw.positions = s.tw.positions.map (fun p => if p = .erased then .rebuilt else p) ∧ t.tw.rebuilt = bytes ∧
     t.die.stack = data.foldl (fun t e => putBytes e.1 e.2 t) s.die.stack))

/-- R374, R390 to R392, R442: ADMIT and ADMIT_COMPAT at a SOLO survivor take a ticket of block 4 and make it the working twin
of a SHADOW pair, or end the ticket with the fault met (an ADMIT_COMPAT for a newcomer of another series is ignored: the
model's choice, log entry 62); DEMOTE_PARTNER makes a SPLIT package the working twin; the stages follow one another, and a
failed test or CANCEL makes the pair SOLO with the ticket's fault. R393, R394: REH_NOW names a drill for the next launch;
at the end of an interval the next drill falls due; the end of a drill stands in REH_LAST, and REH_FAIL shows one that
failed; a CONVOY_VERIFY compares what it rebuilt into the reserve (the place: log entry 62); a drill put off for 24 h sets
REH_STARVED. -/
def Obligations.Admissions : Prop :=
  (∀ c compat key k s, (c, compat) ∈ [(Instr.admitStart key, false), (.admitCompat key, true)] → s.tw.mode = .solo →
     (compat = false ∨ s.tw.partner700 = true) → nextTicket s = some k → admitRefusal key s = none → Gives (c) s (fun t =>
     t.tw.mode = .shadow ∧ t.tw.newcomer = false ∧ t.tw.adm = (if compat then .bist else .almanac) ∧
     t.tw.admitTicket = some k ∧ opstat t k = { state := .running, serial := s.host.serial, block := 4 })) ∧
  (∀ c key f k s, c ∈ [Instr.admitStart key, .admitCompat key] → s.tw.mode = .solo →
     (c = .admitStart key ∨ s.tw.partner700 = true) → nextTicket s = some k → admitRefusal key s = some f →
     Gives (c) s (fun t => t.tw = s.tw ∧ opstat t k = { state := .ended, fault := f, serial := s.host.serial, block := 4 } ∧
     flag t A.TWIN_HIST 8 = true)) ∧
  (∀ c key s, c ∈ [Instr.admitStart key, .admitCompat key] → (s.tw.mode ≠ .solo ∨ (c = .admitCompat key ∧
     s.tw.partner700 = false)) → Gives (c) s (fun t => t = s)) ∧
  (∀ s, s.tw.mode = .split → Gives (.demotePartner) s (fun t => t.tw.mode = .shadow ∧ t.tw.newcomer = false ∧
     t.tw.adm = .almanac ∧ flag t A.TWIN_HIST 1 = true)) ∧
  (∀ k s, s.tw.mode = .shadow → s.tw.newcomer = false → s.tw.admitTicket = some k → (opstat s k).state ≠ .ended →
     Gives (.cancelAdmit) s (fun t => t.tw.mode = .solo ∧ t.tw.adm = .none ∧
     opstat t k = { opstat s k with state := .ended, fault := 5 } ∧ flag t A.TWIN_HIST 8 = true)) ∧
  (∀ s, s.tw.mode = .shadow → s.tw.adm = .almanac → (s.tw.newcomer = true → s.keel.svo.stage = .track) → s.tw.drill = none →
     Gives (.admitTrackReached) s (fun t => t.tw = { s.tw with adm := .restore })) ∧
  (∀ bytes data s, s.tw.mode = .shadow → s.tw.adm = .restore → s.tw.compat = false →
     (s.tw.newcomer = false ∨ data.all (fun e => (burstFails s (e.1 / 2 ^ 38) (segNamed s (e.1 / 2 ^ 38) e.1 e.2.length 0x54 4).1 (segNamed s (e.1 / 2 ^ 38) e.1 e.2.length 0x54 4).2 true e.1 e.2.length).isNone) = true) →
     Gives (.restoreDone bytes data) s (fun t => t.tw.restoreDone = true ∧ t.tw.restored = bytes ∧
     t.die.stack = (if s.tw.newcomer then data.foldl (fun t e => putBytes e.1 e.2 t) s.die.stack else s.die.stack))) ∧
  (∀ s, s.tw.mode = .shadow → s.tw.adm = .bist → Gives (.compatBistDone true) s (fun t =>
     t.tw = { s.tw with adm := .restore })) ∧
  (∀ k s, s.tw.mode = .shadow → s.tw.newcomer = false → s.tw.adm = .bist → s.tw.admitTicket = some k →
     (opstat s k).state ≠ .ended → Gives (.compatBistDone false) s (fun t => t.tw.mode = .solo ∧
     opstat t k = { opstat s k with state := .ended, fault := 3 })) ∧
  (∀ data s, s.tw.mode = .shadow → s.tw.compat = true → s.tw.adm = .restore →
     (s.tw.newcomer = false ∨ data.all (fun e => (burstFails s (e.1 / 2 ^ 38) (segNamed s (e.1 / 2 ^ 38) e.1 e.2.length 0x54 4).1 (segNamed s (e.1 / 2 ^ 38) e.1 e.2.length 0x54 4).2 true e.1 e.2.length).isNone) = true) →
     Gives (.compatStreamDone data) s (fun t => t.tw.restoreDone = true ∧
     t.tw.adm = (if (if s.tw.newcomer then t.tw.convState else s.tw.partnerConv) = .rebuilding then .restore else .promoting) ∧
     t.die.stack = (if s.tw.newcomer then data.foldl (fun t e => putBytes e.1 e.2 t) s.die.stack else s.die.stack))) ∧
  (∀ d s, 1 ≤ d → d ≤ 4 → (d ≠ 3 ∨ s.cfg.hall.rootPair = true) → Gives (.rehNow d) s (fun t =>
     t.tw = { s.tw with rehNow := some d })) ∧
  (∀ s, rehInterval s ≠ 0 → s.cfg.hallActive = true → fullAtOrAfter (now s .keel) s.tw.rehNext = true →
     Gives (.rehDue) s (fun t => t.tw.rehNext = fabAdd s.tw.rehNext (minutesU (rehInterval s) : Nat) ∧ ((s.tw.rehDue = none →
     t.tw.rehDue = ((rehMenu s).find? (fun c => decide (s.tw.lastCode < c))).or (rehMenu s).head?)))) ∧
  (∀ d ok s, s.tw.drill = some d → d.code ≠ 4 → drillShown d s = true → Gives (.drillEnd ok) s (fun t =>
     t.tw = { s.tw with drill := none } ∧
     rd t A.REH_LAST = BitVec.ofNat 32 (d.number * 65536 + d.code * 256 + (if ok.passed then 0 else 1)) ∧
     ((ok.passed = false → flag t A.TWIN_HIST 14 = true)))) ∧
  (∀ d ok s, s.tw.drill = some d → drillShown d s = false → Gives (.drillEnd ok) s (fun t =>
     t.tw = { s.tw with drill := none } ∧ rd t A.REH_LAST = BitVec.ofNat 32 (d.number * 65536 + d.code * 256 + 1) ∧
     flag t A.TWIN_HIST 14 = true)) ∧
  (∀ d r s, s.tw.drill = some d → d.code = 4 → let u := copyIn (r.rebuilt.map (fun e => (verifyPlace e.1, e.2))) s;
     let same := r.rebuilt.all (fun e => getBytes u.die.stack (verifyPlace e.1) e.2.length == getBytes s.die.stack e.1 e.2.length);
     Gives (.drillEnd r) s (fun t => t.tw = { s.tw with drill := none } ∧
     rd t A.REH_LAST = BitVec.ofNat 32 (d.number * 65536 + 4 * 256 + (if same && r.passed then 0 else 1)) ∧
     t.die.stack = u.die.stack)) ∧
  (∀ x s, s.tw.deferSince = some x → x + secC 86400 ≤ pe s .keel → Gives (.rehStarved) s (fun t =>
     flag t A.TWIN_HIST 15 = true ∧ t.tw = s.tw))

/-! Health (17). -/

/-- R396 to R408, R419, R442: a window closes at its end; SCORE falls by DECAY every 600 s; a record lapses, and a package
held for want of budget is then expelled; EXPEL_NOW expels at once, and the sequencers abort, but does nothing while the
partner is expelled or held; CLEAR_EXPELLED and SCORE_CLEAR clear what they name; a host event counts in its class; an
export takes a ticket of block 2 and ends with it; CLEAR empties the logs. That EXPEL_NOW is not deferred, and when an
export's partial bit is set, are the model's readings (log entries 44 and 48). -/
def Obligations.HealthCommands : Prop :=
  (∀ die block inst cls data0 w s, let e : Event := { die := die, block := block, inst := inst, cls := cls, sub := 0, data0 := BitVec.ofNat 32 data0 };
     s.hl.wins.find? (winMatch e) = some w → w.until_ ≤ pe s .keel →
     Gives (.classWindowClose die block inst cls data0) s (fun t => t.hl.wins = s.hl.wins.filter (fun x => !winMatch e x) ∧
     t.hl.score = s.hl.score ∧ t.regs = s.regs)) ∧
  (∀ s, s.hl.lastDecay + secC 600 ≤ pe s .keel → Gives (.scoreDecay) s (fun t =>
     t.hl = { s.hl with score := s.hl.score - rf s A.DECAY 0 8, lastDecay := s.hl.lastDecay + secC 600 })) ∧
  (∀ s, s.hl.records.any (recordLapsed s) = true → (s.hl.held = false ∨ s.hl.score < expelLevel s) →
     Gives (.budgetLapse) s (fun t => t.hl = { s.hl with records := s.hl.records.filter (fun r => !recordLapsed s r) } ∧
     t.tw = s.tw)) ∧
  (∀ s, s.hl.records.any (recordLapsed s) = true → s.hl.held = true → expelLevel s ≤ s.hl.score →
     Gives (.budgetLapse) s (fun t => t.hl.expelled = true ∧ t.hl.held = false ∧
     t.hl.records = s.hl.records.filter (fun r => !recordLapsed s r) ++ [now s .keel])) ∧
  (∀ s, s.hl.expelled = false → s.hl.partnerExpelled = false → s.tw.partnerHeld = false → Gives (.expelNow) s (fun t =>
     t.hl.expelled = true ∧ t.hl.records = s.hl.records ++ [now s .keel] ∧ t.tw.primary = false ∧
     flag t A.HLTH_HIST 1 = true ∧ ((∀ q, q < 8 → (seqOf t q).state = .idle)))) ∧
  (∀ s, (s.hl.expelled = true ∨ s.hl.partnerExpelled = true ∨ s.tw.partnerHeld = true) → Gives (.expelNow) s (fun t =>
     t = s)) ∧
  (∀ s, Gives (.clearExpelled) s (fun t => t.hl = { s.hl with expelled := false, score := 0 } ∧ t.regs = s.regs)) ∧
  (∀ s, Gives (.scoreClear) s (fun t => t.hl = { s.hl with score := 0, hard := false } ∧ t.regs = s.regs)) ∧
  (∀ v s, bits v 28 4 < 14 → diePresent s (bits v 25 3) = true → Gives (.swEvent v) s (fun t =>
     rd t (A.CLS_EVENTS (bits v 28 4)) = rd s (A.CLS_EVENTS (bits v 28 4)) + 1 ∧ t.die = s.die ∧ t.keel = s.keel)) ∧
  (∀ k s, s.hl.exporting = none → nextTicket s = some k → Gives (.logExport) s (fun t =>
     t.hl = { s.hl with exporting := some k } ∧ opstat t k = { state := .running, serial := s.host.serial, block := 2 } ∧
     rd t A.LOG_TICKET = BitVec.ofNat 32 (s.host.serial * 65536 + k))) ∧
  (∀ k s, s.hl.exporting = some k → (opstat s k).state ≠ .ended → let ds := dies s; Gives (.logExportDone none) s (fun t =>
     t.hl = { s.hl with exporting := none } ∧ t.out = (exportWrites s (131072 * ds.length)).reverse ++ s.out ∧
     opstat t k = { opstat s k with progress := 128 * ds.length, partial_ := true, state := .ended, fault := 0 })) ∧
  (∀ k n s, s.hl.exporting = some k → (opstat s k).state ≠ .ended → n < 131072 * (dies s).length →
     Gives (.logExportDone (some n)) s (fun t => t.hl.exporting = none ∧ rd t A.PCIE_UERR = rd s A.PCIE_UERR + 1 ∧
     t.out = (exportWrites s n).reverse ++ s.out ∧
     opstat t k = { opstat s k with progress := n / 1024, partial_ := (opstat s k).partial_ || decide (131072 ≤ n), state := .ended, fault := 1 })) ∧
  (∀ d s, d < 8 → Gives (.logClear) s (fun t => t.hl = { s.hl with logs := [] } ∧ rd t (A.LOG_FILL d + 4) = 0 ∧
     rd t (A.LOG_FILL d + 8) = 0 ∧ rd t (A.LOG_FILL d + 12) = 0))

/-- R413 to R416: a dip below the warning opens a window and the node is UNSURE; the end of the last one closes it, and no
bale of the die still waits for a limit; an equal result clears a bale, an unequal one is a mismatch, none in time leaves
it unverified; HEALTH goes out on a trained port, of a package once its almanac is active, and the last one received
stands for the neighbour. -/
def Obligations.DipCommands : Prop :=
  (∀ die mv s, diePresent s die = true → s.hl.dipWin.contains die = false → 690 < mv → mv < 720 →
     Gives (.supplyDipDetect die mv) s (fun t => t.hl.dipWin = die :: s.hl.dipWin ∧
     t.keel.clk = { s.keel.clk with dipOpen := true } ∧ rd t (A.VCORE_MV die) = BitVec.ofNat 32 mv ∧
     flag t A.HLTH_HIST 6 = true)) ∧
  (∀ die s, s.hl.dipWin.contains die = true → Gives (.dipEnd die) s (fun t =>
     t.hl.dipWin = s.hl.dipWin.filter (fun d => d != die) ∧
     t.hl.dipBales.all (fun x => !(x.die == die && x.limit.isNone)) = true ∧ ((s.hl.dipWin.filter (fun d => d != die) = [] →
     t.keel.clk = { s.keel.clk with dipOpen := false, dipUntil := some (s.keel.clk.pe.toNat + 12500000) })))) ∧
  (∀ die tree bale step d x s, s.hl.dipBales.find? (fun x => dipMatch die tree bale step x && x.limit.isSome) = some x →
     x.digest = d → Gives (.dipVerifyResult die tree bale step d) s (fun t =>
     t.hl = { s.hl with dipBales := s.hl.dipBales.erase x } ∧ rd t A.DIP_CLEARED = rd s A.DIP_CLEARED + 1)) ∧
  (∀ die tree bale step d x s, s.hl.dipBales.find? (fun x => dipMatch die tree bale step x && x.limit.isSome) = some x →
     x.digest ≠ d → Gives (.dipVerifyResult die tree bale step d) s (fun t => t.hl.dipBales = s.hl.dipBales.erase x ∧
     rd t A.DIP_MISMATCH = rd s A.DIP_MISMATCH + 1 ∧ flag t A.HLTH_HIST 7 = true)) ∧
  (∀ die tree bale step x n s, s.hl.dipBales.find? (dipMatch die tree bale step) = some x → x.limit = some n →
     n ≤ pe s .keel → Gives (.dipVerifyTimeout die tree bale step) s (fun t => t.hl.dipBales = s.hl.dipBales.erase x ∧
     rd t A.DIP_UNVER = rd s A.DIP_UNVER + 1)) ∧
  (∀ n p s, nodeRuns s n = true → portWorks s n p = true → linkStands s n p = true → healthOn s n = true →
     (port s n p).linkUp = true → healthTime s n p = true → Gives (.healthSend n p) s (fun t =>
     t.out = .msg n p (mkMsg tHealth ((port s n p).seqs.getD 6 0).toNat (senderOf s n p) (healthBody s n)) :: s.out ∧
     (port t n p).seqs = (port s n p).seqs.set 6 ((port s n p).seqs.getD 6 0 + 1) ∧
     (nbrOf t n p).healthTx = some (pe s n, healthShown s n))) ∧
  (∀ p s, s.cfg.hallActive = false → Gives (.healthSend .keel p) s (fun t => t = s)) ∧
  (∀ n p m s, nodeRuns s n = true → (port s n p).linkUp = true → portWorks s n p = true → linkStands s n p = true →
     mCrcOk m = true → mType m = 7 → Gives (.healthReceive n p m) s (fun t =>
     tget {} (match n with | .keel => t.hl.nbr | .evxus => t.ev.health) p = { state := getBE m 12 1 % 4, score := getBE m 14 2 % 1024, flags := BitVec.ofNat 8 (getBE m 13 1), unc := BitVec.ofNat 32 (getBE m 16 4) } ∧
     t.regs = s.regs))

/-! Clocks, supplies, temperature and resets (18). -/

/-- R412, R421 to R428, R435: a die that loses KREF counts it and its time copy is lost until it relocks; the loss of the
oscillator clears VALID, and its return starts acquisition; a change of step begins where it may and ends at the step
asked for; PWR_CAP and COND_FENCE take their values; a measurement stands in its registers, and 115 °C trips the die. That
the oscillator's loss and return act as those of the PLL's reference is the model's reading (log entry 19). -/
def Obligations.ClockCommands : Prop :=
  (∀ die s, 1 ≤ die → diePresent s die = true → (clkDie s die).lor = false → Gives (.krefLoss die) s (fun t =>
     clkDie t die = { clkDie s die with lor := true, pllLocked := false } ∧ rd t (A.LOR_CNT die) = rd s (A.LOR_CNT die) + 1 ∧
     flag t (A.DIE_CLK_STAT die) 14 = true ∧ ((die < 7 → t.keel.clk.copyLost.getLsbD die = true)))) ∧
  (∀ die s, (clkDie s die).lor = true → Gives (.krefRelock die) s (fun t =>
     clkDie t die = { clkDie s die with lor := false, pllLocked := !(clkDie s die).heldReset } ∧
     t.keel.clk = { s.keel.clk with copyLost := s.keel.clk.copyLost &&& ~~~ BitVec.ofNat 8 (2 ^ die) })) ∧
  (∀ s, s.keel.clk.oscOk = true → Gives (.oscLoss) s (fun t => t.keel.clk.oscOk = false ∧ t.keel.clk.valid = false ∧
     t.keel.ref.ovenWarm = false ∧ t.keel.clk.now = s.keel.clk.now ∧ flag t A.CLK_STAT 1 = true)) ∧
  (∀ s, s.keel.clk.oscOk = false → Completes (.oscReturn) s (fun t => t.keel.clk.oscOk = true ∧
     t.keel.svo.acquired = false ∧ t.keel.clk.now = s.keel.clk.now)) ∧
  (∀ v s, s.host.unlocked.contains 0x400000 = true → Gives (.sscOff v) s (fun t => flag t A.SSC_CTRL 0 = bit v 0 ∧
     t.keel = s.keel)) ∧
  (∀ die idle s, 5 ≤ die → die < 7 → let s1 := fstepInputs (die - 5) s; let n := stepWanted s1 (die - 5) idle;
     reduceDie s (die - 5) = true → stepMay s1 (die - 5) n = true → Gives (.fstepChangeStart die idle) s (fun t =>
     (clkDie t die).changing = true ∧ (clkDie t die).nextStep = n ∧ (clkDie t die).fstep = (clkDie s die).fstep)) ∧
  (∀ die s, 5 ≤ die → die < 7 → (clkDie s die).changing = true → Gives (.fstepChangeDone die) s (fun t =>
     clkDie t die = { clkDie s die with changing := false, fstep := (clkDie s die).nextStep } ∧
     rd t (A.FSTEP_CHG die) = rd s (A.FSTEP_CHG die) + 1)) ∧
  (∀ v s, bits v 0 3 ≠ 0 → Gives (.pwrCap v) s (fun t => rd t A.PWR_CAP = BitVec.ofNat 32 (bits v 0 3) ∧ t.hl = s.hl)) ∧
  (∀ b v s, b < 32 → Gives (.condFence b v) s (fun t => rd t (A.COND_FENCE b) = BitVec.ofNat 32 (bits v 0 3) ∧ t.hl = s.hl)) ∧
  (∀ x s, packageBudget s.straps.variant (capStep s) * 10 < x → Gives (.overCap x) s (fun t => flag t A.CLK_STAT 2 = true ∧
     t.clks = s.clks)) ∧
  (∀ die tj mv dw pw ld s, s.clks.vauxLow = false → diePresent s die = true → tj < 1050 →
     Gives (.tjMeasure die tj mv dw pw ld) s (fun t => rd t (A.TJ die) = BitVec.ofInt 32 tj ∧
     rd t (A.VCORE_MV die) = BitVec.ofNat 32 mv ∧ rd t (A.DIE_POWER die) = BitVec.ofNat 32 dw ∧
     rd t A.PKG_POWER = BitVec.ofNat 32 pw ∧ (clkDie t die).tripped = (clkDie s die).tripped)) ∧
  (∀ die tj mv dw pw ld s, s.clks.vauxLow = false → diePresent s die = true → 1150 ≤ tj → (clkDie s die).tripped = false →
     Gives (.tjMeasure die tj mv dw pw ld) s (fun t => (clkDie t die).tripped = true ∧ t.clks.thermtrip = true ∧
     flag t (A.DIE_CLK_STAT die) 13 = true))

/-- R430 to R432, R441: COLD puts every register outside the Evxus window at its reset value, zeroes the SRAM and every byte
of the stacks outside region 3, and keeps the keys, POWER_ELAPSED and the Evxus block; WARM keeps the time, the hall and
the keys, and no sequencer runs; PARTITION stops the sequencers of its partition; ENGINE holds its engine in reset;
RESET_DONE ends the reset in progress, and one asked for at its level or below is ignored. What a level keeps of the
fields that R431 does not name is the model's reading (log entry 36). -/
def Obligations.Resets : Prop :=
  (∀ c k v s, (c, k) ∈ [(Instr.pkgRstN, 1), (.coldReset v, 2), (.supplyResetExcursion 0, 3)] →
     s.host.unlocked.contains 0x400000 = true → bit v 31 = true → bit v 0 = true → diePresent s 0 = true →
     s.clks.busy ≠ some .cold → Gives (c) s (fun t => t.clks.busy = some .cold ∧ t.clks.coldCause = k ∧
     t.keel.clk.pe = s.keel.clk.pe ∧ t.evx = s.evx ∧ t.ev = s.ev ∧ t.alm.keys = s.alm.keys ∧ t.die.sram = [] ∧
     (∀ a, tget 0 t.die.stack a = if stackRegion (a % 2 ^ 37) = some 3 then tget 0 s.die.stack a else 0) ∧ t.mus = {} ∧
     t.cfg = {})) ∧
  (∀ a s, s.clks.busy ≠ some .cold → (a < evLo ∨ evHi ≤ a) → Gives (.pkgRstN) s (fun t => rd t a = resetOf a)) ∧
  (∀ v s, s.host.unlocked.contains 0x400000 = true → bit v 31 = true → bit v 0 = false → s.clks.busy ≠ some .cold →
     s.clks.busy ≠ some .warm → Gives (.warmReset v) s (fun t => t.clks.busy = some .warm ∧ t.clks.warmCause = 1 ∧
     t.keel.clk = s.keel.clk ∧ t.evx = s.evx ∧ t.ev = s.ev ∧ t.alm.keys = s.alm.keys ∧ t.mus = {} ∧ t.cfg.hall = s.cfg.hall ∧
     t.tw.mode = .solo ∧ (∀ q, (seqOf t q).state = .idle))) ∧
  (∀ part s, (s.clks.busy = none ∨ s.clks.busy = some .engine) → Gives (.partitionReset part) s (fun t =>
     t.clks.busy = some .partition ∧ t.alm.held = s.alm.held.filter (fun q => q != part % 64) ∧ ((∀ q, q < 8 →
     seqPart s q = part % 64 → (seqOf t q).state = .idle)) ∧ t.cfg = s.cfg)) ∧
  (∀ die e s, 5 ≤ die → die < 7 → reduceDie s (die - 5) = true → e ≤ 0x6B → s.clks.busy = none →
     Gives (.engineReset die e) s (fun t => engOf t (die - 5) e = { state := .inReset } ∧ t.clks.busy = some .engine ∧
     t.cfg = s.cfg)) ∧
  (∀ c l b v s, (c, l) ∈ [(Instr.pkgRstN, ResetLevel.cold), (.coldReset v, .cold), (.warmReset v, .warm),
     (.partitionReset 3, .partition), (.engineReset 5 3, .engine)] → s.host.unlocked.contains 0x400000 = true →
     bit v 31 = true → bit v 0 = (l == .cold) → reduceDie s 0 = true → s.clks.busy = some b → levelRank b ≤ levelRank l →
     Gives (c) s (fun t => t.clks = s.clks ∧ t.die = s.die ∧ flag t A.RST_STAT 1 = true)) ∧
  (∀ s, s.clks.busy.isSome = true → s.clks.vauxLow = false → Gives (.resetDone) s (fun t =>
     t.clks = { s.clks with busy := none } ∧ t.regs = s.regs))

/-- R429, R433, R434, R457: a supply at its reset level on a die other than the keel resets the package WARM and holds the
die, whose release relocks it; low VAUX holds the package in COLD, whatever comes to it; power good ends stage 1; each
stage goes to the next once what it waits for is there. That RESET_DONE ends the wait at stage 2, and what a stage brings,
are the model's readings (log entry 19). -/
def Obligations.SuppliesAndStartUp : Prop :=
  (∀ die s, 1 ≤ die → diePresent s die = true → s.clks.busy ≠ some .cold → s.clks.busy ≠ some .warm →
     Gives (.supplyResetExcursion die) s (fun t => t.clks.busy = some .warm ∧ t.clks.warmCause = 2 ∧
     (clkDie t die).heldReset = true ∧ flag t (A.DIE_CLK_STAT die) 15 = true)) ∧
  (∀ die s, (clkDie s die).heldReset = true → Gives (.brownoutRelease die) s (fun t =>
     clkDie t die = { clkDie s die with heldReset := false, pllLocked := !(clkDie s die).lor } ∧ ((die = 5 →
     s.die.ready.length = 2 → t.die.ready.getD 0 false = true)))) ∧
  (∀ s, s.clks.vauxLow = false → Gives (.vauxLow true) s (fun t => t.clks.vauxLow = true ∧ t.clks.busy = some .cold ∧
     t.clks.thermtrip = false)) ∧
  (∀ s, s.clks.vauxLow = true → Gives (.vauxLow false) s (fun t => t.clks = { s.clks with vauxLow := false })) ∧
  (∀ c s, s.clks.vauxLow = true → c ≠ .vauxLow false → ∃ t, exec c s = .next t ∧ t.clks.vauxLow = true ∧
     t.clks.busy = some .cold ∧ (∀ a, a < evLo ∨ evHi ≤ a → rd t a = resetOf a) ∧ t.die.sram = [] ∧ t.cfg = {} ∧ t.mus = {} ∧
     t.evx.clk.pe = s.evx.clk.pe) ∧
  (∀ s, s.clks.powered = false → s.clks.vauxLow = false → s.keel.clk.oscOk = true → Gives (.powerGood) s (fun t =>
     t.clks = { s.clks with powered := true, stage := 2, coldCause := 0 } ∧ t.keel.clk = { s.keel.clk with pe := 0 })) ∧
  (∀ f bad s, s.clks.vauxLow = false → s.clks.busy ≠ some .cold → s.clks.stage = 2 → s.clks.startFault = 0 →
     (dies s).any (fun d => (clkDie s d).heldReset) = false → f ≠ 1 → f ≠ 2 → Gives (.startupStageEnd f bad) s (fun t =>
     t.clks.stage = 3 ∧ ((∀ d, d ∈ dies s →
     (clkDie t d).pllLocked = (if d = 0 then s.keel.clk.oscOk else !(clkDie s d).lor))))) ∧
  (∀ n f bad s, n ∈ [3, 4, 5, 6] → s.clks.vauxLow = false → s.clks.busy ≠ some .cold → s.clks.stage = n →
     Gives (.startupStageEnd f bad) s (fun t => t.clks.stage = n + 1 ∧ ((n = 5 →
     t.die.trained = (List.range 4).map (fun k => reduceDie s (k / 2) && bitsN bad.untrained k 1 == 0))) ∧ ((n = 4 →
     t.clks.fw = bad.fw.getD s.clks.fw ∧ t.host.link = bad.link)))) ∧
  (∀ f bad s, s.clks.vauxLow = false → s.clks.busy ≠ some .cold → s.clks.stage = 7 → s.cfg.hallActive = true →
     Gives (.startupStageEnd f bad) s (fun t => t.clks = { s.clks with stage := 8 })) ∧
  (∀ f bad s, s.clks.vauxLow = false → s.clks.busy ≠ some .cold → s.clks.stage = 8 → timeAcquired s = true →
     Gives (.startupStageEnd f bad) s (fun t => t.clks = { s.clks with stage := 9 }))

/-! The whole machine. -/

/-- A step takes the command at the front of the queue and answers what exec answers with the rest of the queue; with nothing
waiting it is one cycle of the timing clock (the model's own choice: log entry 1); and every step answers a next state: no
command ends the run (the spec gives each an effect). -/
def Obligations.StepRuns : Prop :=
  (∀ s c r, s.pending = c :: r → step s = exec c { s with pending := r }) ∧
  (∀ s, s.pending = [] → step s = .next (tick s)) ∧
  (∀ s, SafeStep s)

/-- R10, R40, R41, R95, R154, R279, R374, R444: after reset no command waits, every register reads its reset value, no time is
valid, no source is selected, the servos hold, no ticket is open, the package stands in SOLO mode with no almanac active,
no byte of SRAM or stack is listed (each reads zero), and the four invariants of the model hold. -/
def Obligations.ResetState : Prop :=
  State.reset.pending = [] ∧ (∀ a, rd State.reset a = resetOf a) ∧ State.reset.keel.clk.valid = false ∧
  State.reset.evx.clk.valid = false ∧ State.reset.keel.svo.stage = .hold ∧ State.reset.keel.ref.selected = none ∧
  State.reset.host.opstat = [] ∧ State.reset.tw.mode = .solo ∧ State.reset.cfg.hallActive = false ∧
  (∀ a, tget 0 State.reset.die.sram a = 0) ∧ (∀ a, tget 0 State.reset.die.stack a = 0) ∧
  TablesOk State.reset ∧ ShapesOk State.reset ∧ CapacitiesOk State.reset ∧ ClocksOk State.reset

/-- Of every command: exec leaves the queue of waiting commands as it is, and what is fixed in the part or by its place (R1,
R17, R137, R452) does not change. -/
def Obligations.QueueKept : Prop :=
  ∀ c s t, exec c s = .next t → t.pending = s.pending ∧ t.straps = s.straps

/-- For every well-formed command: its own effect changes only the parts that touches lists for it: registers by block (R437),
memories, tables and engines, each by itself. What stands at the end is that effect, settled. A block of the reduce dies
that a command reaches through a number held in the state is not told apart: all blocks are listed for such a command. -/
def Obligations.CommandFrames : Prop :=
  ∀ c s, c.wf = true → ∃ u, exec c s = .next (settle u) ∧ ∀ p, p ∉ touches c → Part.same s u p

/-- What a command leaves to be settled (R211, R305, R308, R405 to R410, R448) changes nothing but stored registers, the
reduce dies, the pair, the health side, the host side and what is sent; and with no fault of an engine and no expulsion
left, settling only moves interrupt levels (R448). While VAUX is low it puts the package back into COLD reset, the Evxus
block apart, which keeps its state (R457). -/
def Obligations.SettlingBounds : Prop :=
  (∀ u, u.clks.vauxLow = false → let t := settle u
    t.pending = u.pending ∧ t.straps = u.straps ∧ t.staged = u.staged ∧ t.keel = u.keel ∧ t.evx = u.evx ∧ t.ptp = u.ptp ∧ t.outs = u.outs ∧
    t.tics = u.tics ∧ t.ev = u.ev ∧ t.mus = u.mus ∧ t.evMus = u.evMus ∧ t.cfg = u.cfg ∧ t.alm = u.alm ∧ t.rt = u.rt ∧
    t.clks = u.clks ∧ t.free = u.free ∧ t.die.sram = u.die.sram) ∧
  (∀ u, u.clks.vauxLow = false → quiet u = true → ∃ h, settle u = { u with host := h } ∧ h.level = irqLevels u ∧ h.opstat = u.host.opstat ∧ h.snap = u.host.snap) ∧
  (∀ u, u.clks.vauxLow = true → let t := settle u
    t.clks.vauxLow = true ∧ t.clks.busy = some .cold ∧ (∀ a, a < evLo ∨ evHi ≤ a → rd t a = resetOf a) ∧ t.die.sram = [] ∧
    t.pending = u.pending ∧ t.straps = u.straps ∧ t.evx = u.evx ∧ t.ev = u.ev ∧ t.evMus = u.evMus ∧ t.alm.keys = u.alm.keys ∧
    t.keel.clk.pe = u.keel.clk.pe)

/-- R26, R41, R62, R92: the keel and the Evxus block keep time each for itself. A command of the time side or of the musters
that is sent to one node leaves the counter, the servo, the intercalations, the ports and the sources of the other as they
are; while VAUX is low the package stands in COLD reset whatever comes (R457). -/
def Obligations.NodesApart : Prop :=
  ∀ c n s t, commandNode c = some n → exec c s = .next t →
    (n = .keel → t.evx = s.evx) ∧ (n = .evxus → s.clks.vauxLow = false → t.keel = s.keel)

/-- In every state whose register store and memories are in canonical form, each step leaves them so: equal contents are equal
data. -/
def Obligations.TablesKept : Prop :=
  ∀ s t, TablesOk s → step s = .next t → TablesOk t

/-- R90, R144, R167, R175, R358: six sources and two virtual references of a node, eight lines and bindings, two planes of a
group, four BULK classes of an egress port: each step keeps the numbers. Statements about those lists have them as a
premise. -/
def Obligations.ShapesKept : Prop :=
  ∀ s t, ShapesOk s → step s = .next t → ShapesOk t

/-- R72, R79, R85, R145, R165, R299, R365, R401: each step keeps pending intercalations at 8, measurement FIFOs at 256 and 16,
transmit stamp queues at 16, the event FIFO at 64, LEARN queues at 1,024, each log at 1,024 and 3,072 entries, and every
tally at 65,535. -/
def Obligations.CapacitiesKept : Prop :=
  ∀ s t, CapacitiesOk s → step s = .next t → CapacitiesOk t

/-- R338: each step leaves a programmed slot's hash as it is and a revoked slot revoked, and where a slot is usable one stays
usable. -/
def Obligations.FusesKept : Prop :=
  ∀ s t, step s = .next t →
    (∀ (i : Nat) (h : BitVec 384), s.alm.keys[i]? = some (some h) → t.alm.keys[i]? = some (some h)) ∧
    (∀ i, s.alm.revoked.getD i true = true → t.alm.revoked.getD i true = true) ∧
    ((List.range 4).any (fun i => keyUsable s i) = true → (List.range 4).any (fun i => keyUsable t i) = true)

/-- R26, R28: a cycle adds TIME_ADDEND, and what a slew in progress gives (R72), to the counter, with the carry from
nanoseconds to seconds, so that the nanoseconds never read 1,000,000,000 or more, after any step. R41: no command changes
the keel's POWER_ELAPSED but the power good of a power cycle, which clears it; COLD reset does not. A cycle with nothing
waiting (log entry 1) is a cycle of the keel's counter while the package has power and its keel die runs. -/
def Obligations.PowerElapsed : Prop :=
  (∀ c : Clock, let t := clockCycle c
    t.now.ns.toNat < 1000000000 ∧ t.pe = c.pe + 1 ∧
    (fabUnits t.now : Int) = ((fabUnits c.now : Int) + c.addend.toNat + slewOf c) % (2 ^ 48 * 1000000000 * 2 ^ 32)) ∧
  (∀ s t, ClocksOk s → step s = .next t → ClocksOk t) ∧
  (∀ s, s.clks.powered = true → nodeRuns s .keel = true → s.clks.vauxLow = false → (tick s).keel.clk = clockCycle s.keel.clk) ∧
  (∀ c s t, exec c s = .next t → t.keel.clk.pe = s.keel.clk.pe ∨ (c = .powerGood ∧ t.keel.clk.pe = 0)) ∧
  (∀ s, (tick s).keel.clk.pe = if s.clks.powered && nodeRuns s .keel then s.keel.clk.pe + 1 else s.keel.clk.pe)

/-- R34: the difference of two FT64 values is the one number from -m/2 to m/2 - 1 that differs from the raw difference by a
multiple of m, one full cycle; it fits 64 signed bits; the same holds of full times with 2^48 for 2^18, where it is zero
just for equal times. -/
def Obligations.TimeDifference : Prop :=
  (∀ a b : BitVec 64, let m : Int := 2 ^ 18 * 1000000000 * 65536
    let raw : Int := ((ftSec b : Int) - ftSec a) * 1000000000 * 65536 + ((ftNs b : Int) - ftNs a) * 65536 + ((ftFrac b : Int) - ftFrac a)
    (∃ k : Int, ftDiff b a = raw + k * m) ∧ -(m / 2) ≤ ftDiff b a ∧ ftDiff b a ≤ m / 2 - 1 ∧
    -(2 ^ 63) ≤ ftDiff b a ∧ ftDiff b a < 2 ^ 63) ∧
  (∀ a b : FabTime, let m : Int := 2 ^ 48 * 1000000000 * 2 ^ 32
    (∃ k : Int, fullDiff b a = (fabUnits b : Int) - fabUnits a + k * m) ∧ -(m / 2) ≤ fullDiff b a ∧ fullDiff b a ≤ m / 2 - 1 ∧
    (a.ns.toNat < 1000000000 → b.ns.toNat < 1000000000 → (fullDiff b a = 0 ↔ a = b)))

/-- R46: the verdict is VOID just where a record is not valid, else INDISTINCT where one is unsure or unbounded, else BEFORE
or AFTER where the difference exceeds the summed uncertainties, compared as exact numbers (8,192 / 125 units of 2^-16 ns a
picosecond), and INDISTINCT otherwise, a gap equal to the sum included. -/
def Obligations.OrderVerdicts : Prop :=
  ∀ a b : Stamp, let d := ftDiff b.ft a.ft
    let u : Int := (a.unc.toNat : Int) + b.unc.toNat
    let open_ := a.valid = true ∧ b.valid = true ∧ a.unsure = false ∧ b.unsure = false ∧ a.unc ≠ 0xFFFFFF#24 ∧ b.unc ≠ 0xFFFFFF#24
    (orderVerdict a b = .void ↔ a.valid = false ∨ b.valid = false) ∧
    (orderVerdict a b = .before ↔ open_ ∧ 125 * d > 8192 * u) ∧
    (orderVerdict a b = .after ↔ open_ ∧ 125 * -d > 8192 * u) ∧
    (a.valid = true → b.valid = true → ¬ open_ → orderVerdict a b = .indistinct) ∧
    (open_ → 125 * d = 8192 * u → orderVerdict a b = .indistinct)
end

