-- ==== Sys2Proof/Laws/Settle.lean ====
section
/-! SUPPORT. What settling at the end of a command leaves alone: everything but the stored registers, the reduce dies, the
health side, the pair, the host side and the outbox; and what it keeps when nothing is left to be settled. -/

namespace Sys2Proof.Laws
open Sys2Proof.Machine

/-- The state with the parts that settling may change put at their reset values. -/
def still (s : State) : State :=
  { s with regs := [], die := {}, tw := {}, hl := {}, host := {}, out := [] }

theorem forAll_still {α : Type} (l : List α) (f : α → State → State) (h : ∀ x s, still (f x s) = still s) (s : State) :
    still (forAll l f s) = still s := by
  unfold forAll
  induction l generalizing s with
  | nil => rfl
  | cons x r ih => simp [ih, h]

theorem whenDo_still (c : Bool) (f : State → State) (h : ∀ s, still (f s) = still s) (s : State) :
    still (whenDo c f s) = still s := by
  unfold whenDo; split <;> simp [h]

@[simp] theorem still_wr (a : Nat) (v : Word) (s : State) : still (wr a v s) = still s := rfl
@[simp] theorem still_wn (a v : Nat) (s : State) : still (wn a v s) = still s := rfl
@[simp] theorem still_wn64 (a v : Nat) (s : State) : still (wn64 a v s) = still s := rfl
@[simp] theorem still_wf (a l n v : Nat) (s : State) : still (wf a l n v s) = still s := rfl
@[simp] theorem still_setFlag (a i : Nat) (s : State) : still (setFlag a i s) = still s := rfl
@[simp] theorem still_bump (a : Nat) (s : State) : still (bump a s) = still s := rfl
@[simp] theorem still_bumpBy (a k : Nat) (s : State) : still (bumpBy a k s) = still s := rfl
@[simp] theorem still_emit (o : Out) (s : State) : still (emit o s) = still s := rfl
@[simp] theorem still_modDie (f : DieSt → DieSt) (s : State) : still (modDie f s) = still s := rfl
@[simp] theorem still_modSeq (q f) (s : State) : still (modSeq q f s) = still s := rfl
@[simp] theorem still_modEng (d e f) (s : State) : still (modEng d e f s) = still s := rfl
@[simp] theorem still_modTally (k f) (s : State) : still (modTally k f s) = still s := rfl
@[simp] theorem still_modGate (d k f) (s : State) : still (modGate d k f s) = still s := rfl
@[simp] theorem still_modDma (d k f) (s : State) : still (modDma d k f s) = still s := rfl
@[simp] theorem still_modWs (d w f) (s : State) : still (modWs d w f s) = still s := rfl
@[simp] theorem still_modLog (d f) (s : State) : still (modLog d f s) = still s := rfl
@[simp] theorem still_wsDigestEnd (d w p) (s : State) : still (wsDigestEnd d w p s) = still s := rfl
@[simp] theorem still_wsStepEnd (d w p) (s : State) : still (wsStepEnd d w p s) = still s := by
  unfold wsStepEnd whenDo; rw [still_modWs]; repeat' split
  all_goals rfl
@[simp] theorem still_engFault (d e) (s : State) : still (engFault d e s) = still s := rfl
@[simp] theorem still_waitStart (d e t k) (s : State) : still (waitStart d e t k s) = still s := rfl
@[simp] theorem still_waitEnd (d e t) (s : State) : still (waitEnd d e t s) = still s := rfl

@[simp] theorem still_modOp (t f) (s : State) : still (modOp t f s) = still s := by
  unfold modOp; split <;> rfl

@[simp] theorem still_endTicket? (t f) (s : State) : still (endTicket? t f s) = still s := by
  unfold endTicket? endTicket; split <;> simp

@[simp] theorem still_classify (e : Event) (s : State) : still (classify e s).2.2 = still s := by
  unfold classify
  split
  · rfl
  · split <;> rfl

@[simp] theorem still_closeWindow (e : Event) (s : State) : still (closeWindow e s) = still s := by
  unfold closeWindow
  split
  · rfl
  · split <;> rfl

@[simp] theorem still_closeDue (s : State) : still (closeDue s) = still s := rfl

@[simp] theorem still_logLost (d) (s : State) : still (logLost d s) = still s := rfl

theorem still_logNew (e l h dl t) (s : State) : still (logWrite.logNew e l h dl t s) = still s := by
  unfold logWrite.logNew
  dsimp only
  split
  · simp
  · rw [whenDo_still _ _ (fun s => still_bump _ s)]; simp

@[simp] theorem still_logWrite (e l h) (s : State) : still (logWrite e l h s) = still s := by
  unfold logWrite
  dsimp only
  split
  · rfl
  · rfl
  · exact still_logNew ..

@[simp] theorem still_mirrorOut (k l) (s : State) : still (mirrorOut k l s) = still s := by
  unfold mirrorOut
  split
  · exact whenDo_still _ (emit (.mirror k l)) (fun _ => rfl) s
  · split <;> rfl

@[simp] theorem still_scoreOut (s : State) : still (scoreOut s) = still s := still_mirrorOut _ _ s

@[simp] theorem still_scoreMirror (s : State) : still (scoreMirror s) = still s := by
  unfold scoreMirror
  exact whenDo_still _ _ (fun s => still_scoreOut s) s

@[simp] theorem still_setScore (v) (s : State) : still (setScore v s) = still s := by
  unfold setScore
  dsimp only
  rw [whenDo_still _ _ (fun s => still_setFlag _ _ s), whenDo_still _ _ (fun s => still_scoreMirror s)]
  rfl

theorem still_hl (x : HealthSt) (s : State) : still { s with hl := x } = still s := rfl
theorem still_tw (x : TwinSt) (s : State) : still { s with tw := x } = still s := rfl
theorem still_host (x : HostSt) (s : State) : still { s with host := x } = still s := rfl

/-- One event changes only the stored registers, the health side and the outbox. -/
@[simp] theorem still_eventOne (e : Event) (s : State) : still (eventOne e s) = still s := by
  unfold eventOne
  dsimp only
  rw [still_hl, whenDo_still _ _ (fun s => by simp [still_hl]), whenDo_still _ _ (fun s => by simp [still_hl]),
    whenDo_still _ _ (fun s => by simp), still_logWrite, whenDo_still _ _ (fun s => by simp)]
  simp

@[simp] theorem still_seenEvents (n) (b s : State) : still (seenEvents n b s) = still s := by
  induction n generalizing b s with
  | zero => rfl
  | succ n ih =>
    unfold seenEvents; dsimp only
    split
    · rfl
    · rw [ih, forAll_still _ _ (fun _ s => still_eventOne _ s)]

/-- Handling an event changes no more. -/
@[simp] theorem still_event (e : Event) (s : State) : still (event e s) = still s := by
  unfold event; rw [still_seenEvents, still_eventOne]

@[simp] theorem still_raiseFlag (a i n c) (s : State) : still (raiseFlag a i n c s) = still s := by simp [raiseFlag]
@[simp] theorem still_countEvent (a n c) (s : State) : still (countEvent a n c s) = still s := by simp [countEvent]

/-- A segment violation is records and an event. -/
@[simp] theorem still_segViol (d i c e w a) (s : State) : still (segViol d i c e w a s) = still s := by
  unfold segViol; dsimp only
  rw [still_raiseFlag, still_setFlag, whenDo_still _ _ (fun s => by rw [still_wn64, still_wn]), still_bump, still_bump]

@[simp] theorem still_dmaWriteBack (d k t) (s : State) : still (dmaWriteBack d k t s) = still s := by
  unfold dmaWriteBack; dsimp only
  repeat' split
  all_goals first | rfl | simp

@[simp] theorem still_dmaHalt (d k t) (s : State) : still (dmaHalt d k t s) = still s := by
  unfold dmaHalt; dsimp only; split <;> simp

@[simp] theorem still_dmaStop (d k t) (s : State) : still (dmaStop d k t s) = still s := by
  rw [dmaStop, still_dmaHalt, still_dmaWriteBack]

@[simp] theorem still_releaseOk (d e) (s : State) : still (releaseOk d e s) = still s := by
  unfold releaseOk; dsimp only; split <;> rfl

@[simp] theorem still_gateOk (d e) (s : State) : still (gateOk d e s) = still s := by
  unfold gateOk; dsimp only; split <;> rfl

@[simp] theorem still_releaseBad (d e t) (s : State) : still (releaseBad d e t s) = still s := by
  unfold releaseBad; dsimp only; split <;> simp

@[simp] theorem still_gateBreak (d g t) (s : State) : still (gateBreak d g t s) = still s := by
  unfold gateBreak; dsimp only
  split
  · rfl
  · split <;> simp [forAll_still]

@[simp] theorem still_gateArrive (d g e) (s : State) : still (gateArrive d g e s) = still s := by
  unfold gateArrive; dsimp only
  repeat' split
  all_goals simp [forAll_still]

@[simp] theorem still_descArrive (d e) (s : State) : still (descArrive d e s) = still s := by
  unfold descArrive
  repeat' split
  all_goals simp

@[simp] theorem still_testWaiters (k) (s : State) : still (testWaiters k s) = still s := by
  unfold testWaiters; dsimp only
  rw [forAll_still _ _ (fun _ _ => by simp)]; simp

@[simp] theorem still_releaseAll (k t) (s : State) : still (releaseAll k t s) = still s := by
  unfold releaseAll; dsimp only
  rw [forAll_still _ _ (fun _ _ => by simp)]; simp

@[simp] theorem still_clearTally (k) (s : State) : still (clearTally k s) = still s := by
  unfold clearTally; dsimp only
  rw [still_modTally, still_releaseAll, whenDo_still _ _ (fun _ => by simp)]

@[simp] theorem still_clearEngTallies (d e) (s : State) : still (clearEngTallies d e s) = still s :=
  forAll_still _ _ (fun _ _ => by simp) s

@[simp] theorem still_seqAbort (q f) (s : State) : still (seqAbort q f s) = still s := by
  unfold seqAbort; dsimp only
  split
  · rfl
  · rw [still_raiseFlag, still_modDie, whenDo_still _ _ (fun _ => by
        rw [forAll_still _ _ (fun _ _ => still_wsDigestEnd ..), forAll_still _ _ (fun _ _ => still_wsStepEnd ..)]),
      whenDo_still _ _ (fun _ => by simp), whenDo_still _ _ (fun _ => forAll_still _ _ (fun _ _ => by simp) _), still_modSeq]
    rfl

@[simp] theorem still_abortAll (f) (s : State) : still (abortAll f s) = still s :=
  forAll_still _ _ (fun _ _ => by simp) s

@[simp] theorem still_entriesDie (d e) (s : State) : still (entriesDie d e s) = still s := by
  unfold entriesDie; exact forAll_still _ _ (fun _ _ => by simp) s

@[simp] theorem still_engFaultActs (k) (s : State) : still (engFaultActs k s) = still s := by
  unfold engFaultActs; dsimp only
  rw [still_entriesDie, forAll_still _ _ (fun _ _ => by simp), forAll_still _ _ (fun _ _ => by simp)]

@[simp] theorem still_settleFaults (n) (s : State) : still (settleFaults n s) = still s := by
  induction n generalizing s with
  | zero => rfl
  | succ n ih => unfold settleFaults; split <;> simp [ih]

@[simp] theorem still_sendHeartbeat (s : State) : still (sendHeartbeat s) = still s := rfl

@[simp] theorem still_expel (s : State) : still (expel s) = still s := by
  unfold expel; dsimp only
  rw [still_abortAll, still_tw, whenDo_still _ _ (fun _ => by simp), still_sendHeartbeat, still_raiseFlag, still_scoreOut, still_hl]

@[simp] theorem still_heldHist (b) (s : State) : still (heldHist b s) = still s := whenDo_still _ _ (fun _ => by simp) s

@[simp] theorem still_expelDefer (s : State) : still (expelDefer s) = still s := by
  unfold expelDefer; rw [still_heldHist, still_hl]

@[simp] theorem still_expelHold (s : State) : still (expelHold s) = still s := by
  unfold expelHold; dsimp only
  rw [still_sendHeartbeat, still_raiseFlag, still_tw, still_heldHist, still_hl]

@[simp] theorem still_expelAct (h) (s : State) : still (expelAct h s) = still s := by
  unfold expelAct
  repeat' split
  all_goals simp

@[simp] theorem still_settleHealth (s : State) : still (settleHealth s) = still s := by
  unfold settleHealth; split <;> simp [still_hl]

@[simp] theorem still_settleIrq (s : State) : still (settleIrq s) = still s := by
  unfold settleIrq; dsimp only; split <;> rfl

/-- While VAUX is there, settling is what follows of faults, an expulsion and interrupt levels. -/
theorem settle_on {s : State} (h : s.clks.vauxLow = false) :
    settle s = settleIrq (settleFaults 256 (settleHealth (settleFaults 256 s))) := by simp [settle, h]

/-- While VAUX is low, a command leaves the package in COLD reset. -/
theorem settle_low {s : State} (h : s.clks.vauxLow = true) : settle s = coldHold s := by simp [settle, h]

/-- While VAUX is there, settling changes only the parts that `still` erases. -/
theorem still_settle {s : State} (h : s.clks.vauxLow = false) : still (settle s) = still s := by simp [settle_on h]

/-- A part that `still` does not erase is as before, while VAUX is there. -/
theorem settle_part {β : Type} (f : State → β) (hf : ∀ s, f (still s) = f s) {s : State} (h : s.clks.vauxLow = false) :
    f (settle s) = f s := by
  rw [← hf, still_settle h, hf]

/-- A part that neither `still` nor a COLD reset changes is as before. -/
theorem settle_kept {β : Type} (f : State → β) (hf : ∀ s, f (still s) = f s) (hc : ∀ s, f (coldHold s) = f s) (s : State) :
    f (settle s) = f s := by
  cases h : s.clks.vauxLow
  · exact settle_part f hf h
  · rw [settle_low h, hc]

@[simp] theorem settle_pending (s : State) : (settle s).pending = s.pending :=
  settle_kept State.pending (fun _ => rfl) (fun _ => rfl) s
@[simp] theorem settle_straps (s : State) : (settle s).straps = s.straps :=
  settle_kept State.straps (fun _ => rfl) (fun _ => rfl) s
@[simp] theorem settle_evx (s : State) : (settle s).evx = s.evx :=
  settle_kept State.evx (fun _ => rfl) (fun _ => rfl) s
@[simp] theorem settle_ev (s : State) : (settle s).ev = s.ev :=
  settle_kept State.ev (fun _ => rfl) (fun _ => rfl) s
@[simp] theorem settle_evMus (s : State) : (settle s).evMus = s.evMus :=
  settle_kept State.evMus (fun _ => rfl) (fun _ => rfl) s
@[simp] theorem settle_free (s : State) : (settle s).free = s.free :=
  settle_kept State.free (fun _ => rfl) (fun _ => rfl) s
@[simp] theorem settle_vaux (s : State) : (settle s).clks.vauxLow = s.clks.vauxLow :=
  settle_kept (fun s => s.clks.vauxLow) (fun _ => rfl) (fun _ => rfl) s

@[simp] theorem settle_staged {s : State} (h : s.clks.vauxLow = false) : (settle s).staged = s.staged :=
  settle_part State.staged (fun _ => rfl) h
@[simp] theorem settle_keel {s : State} (h : s.clks.vauxLow = false) : (settle s).keel = s.keel :=
  settle_part State.keel (fun _ => rfl) h
@[simp] theorem settle_ptp {s : State} (h : s.clks.vauxLow = false) : (settle s).ptp = s.ptp :=
  settle_part State.ptp (fun _ => rfl) h
@[simp] theorem settle_outs {s : State} (h : s.clks.vauxLow = false) : (settle s).outs = s.outs :=
  settle_part State.outs (fun _ => rfl) h
@[simp] theorem settle_tics {s : State} (h : s.clks.vauxLow = false) : (settle s).tics = s.tics :=
  settle_part State.tics (fun _ => rfl) h
@[simp] theorem settle_mus {s : State} (h : s.clks.vauxLow = false) : (settle s).mus = s.mus :=
  settle_part State.mus (fun _ => rfl) h
@[simp] theorem settle_cfg {s : State} (h : s.clks.vauxLow = false) : (settle s).cfg = s.cfg :=
  settle_part State.cfg (fun _ => rfl) h
@[simp] theorem settle_alm {s : State} (h : s.clks.vauxLow = false) : (settle s).alm = s.alm :=
  settle_part State.alm (fun _ => rfl) h
@[simp] theorem settle_rt {s : State} (h : s.clks.vauxLow = false) : (settle s).rt = s.rt :=
  settle_part State.rt (fun _ => rfl) h
@[simp] theorem settle_clks {s : State} (h : s.clks.vauxLow = false) : (settle s).clks = s.clks :=
  settle_part State.clks (fun _ => rfl) h

@[simp] theorem settle_nd (n : Node) {s : State} (h : s.clks.vauxLow = false) : nd (settle s) n = nd s n := by cases n <;> simp [nd, h]
@[simp] theorem settle_muster (n : Node) {s : State} (h : s.clks.vauxLow = false) : mus (settle s) n = mus s n := by
  cases n <;> simp [mus, h]

end Sys2Proof.Laws
end

