-- ==== Sys2Proof/Laws/Table.lean ====
section
/-! SUPPORT. What the table operations do: read after write, other keys, the canonical form. -/

namespace Sys2Proof.Laws
open Sys2Proof.Machine
variable {α : Type}

@[simp] theorem tfind_tput_self (k : Nat) (v : α) (t : Table α) : tfind k (tput k v t) = some v := by
  induction t with
  | nil => simp [tput, tfind]
  | cons e r ih =>
    obtain ⟨k', v'⟩ := e
    simp only [tput]
    split
    · rename_i h; simp [tfind, Nat.ne_of_lt h, ih]
    · split <;> simp [tfind]

theorem tfind_tput_ne {k j : Nat} (v : α) (t : Table α) (h : j ≠ k) : tfind j (tput k v t) = tfind j t := by
  induction t with
  | nil => simp [tput, tfind, Ne.symm h]
  | cons e r ih =>
    obtain ⟨k', v'⟩ := e
    simp only [tput]
    split
    · simp only [tfind, ih]
    · split
      · rename_i hk; subst hk; simp [tfind, Ne.symm h]
      · simp [tfind, Ne.symm h]

@[simp] theorem tfind_tdel_self (k : Nat) (t : Table α) : tfind k (tdel k t) = none := by
  induction t with
  | nil => rfl
  | cons e r ih =>
    obtain ⟨k', v'⟩ := e
    by_cases hk : k' = k
    · subst hk; simpa [tdel] using ih
    · have hb : (k' != k) = true := by simp [hk]
      simp only [tdel, List.filter_cons, hb, if_true]
      simpa [tfind, hk, tdel] using ih

theorem tfind_tdel_ne {k j : Nat} (t : Table α) (h : j ≠ k) : tfind j (tdel k t) = tfind j t := by
  induction t with
  | nil => rfl
  | cons e r ih =>
    obtain ⟨k', v'⟩ := e
    by_cases hk : k' = k
    · subst hk
      simpa [tdel, tfind, Ne.symm h] using ih
    · have hb : (k' != k) = true := by simp [hk]
      simp only [tdel, List.filter_cons, hb, if_true, tfind]
      simp only [tdel] at ih
      rw [ih]

/-- A read after a write to the same key gives the value written. -/
@[simp] theorem tget_tset_self [DecidableEq α] (d : α) (t : Table α) (k : Nat) (v : α) :
    tget d (tset d t k v) k = v := by
  unfold tset tget
  split
  · rename_i h; simp [h]
  · simp

/-- A write leaves every other key alone. -/
theorem tget_tset_ne [DecidableEq α] (d : α) (t : Table α) {k j : Nat} (v : α) (h : j ≠ k) :
    tget d (tset d t k v) j = tget d t j := by
  unfold tset tget
  split
  · rw [tfind_tdel_ne t h]
  · rw [tfind_tput_ne v t h]

theorem tget_tset [DecidableEq α] (d : α) (t : Table α) (k j : Nat) (v : α) :
    tget d (tset d t k v) j = if j = k then v else tget d t j := by
  split
  · rename_i h; subst h; simp
  · rename_i h; exact tget_tset_ne d t v h

theorem tsorted_iff (t : Table α) : tsorted t = true ↔ t.Pairwise (fun a b => a.1 < b.1) := by
  induction t with
  | nil => simp [tsorted]
  | cons e r ih =>
    cases r with
    | nil => simp [tsorted]
    | cons e2 r2 =>
      obtain ⟨a, va⟩ := e
      obtain ⟨b, vb⟩ := e2
      simp only [tsorted, Bool.and_eq_true, decide_eq_true_eq, ih, List.pairwise_cons]
      constructor
      · rintro ⟨hab, h1, h2⟩
        refine ⟨?_, h1, h2⟩
        intro c hc
        rcases List.mem_cons.mp hc with rfl | hc
        · exact hab
        · exact Nat.lt_trans hab (h1 c hc)
      · rintro ⟨h0, h1, h2⟩
        exact ⟨h0 (b, vb) (by simp), h1, h2⟩

theorem mem_tput {k : Nat} {v : α} {t : Table α} {e : Nat × α} (h : e ∈ tput k v t) : e = (k, v) ∨ e ∈ t := by
  induction t with
  | nil => simp [tput] at h; exact .inl h
  | cons x r ih =>
    obtain ⟨k', v'⟩ := x
    simp only [tput] at h
    split at h
    · rcases List.mem_cons.mp h with rfl | h
      · simp
      · rcases ih h with h | h
        · exact .inl h
        · exact .inr (List.mem_cons_of_mem _ h)
    · split at h
      · rcases List.mem_cons.mp h with rfl | h
        · exact .inl rfl
        · exact .inr (List.mem_cons_of_mem _ h)
      · rcases List.mem_cons.mp h with rfl | h
        · exact .inl rfl
        · exact .inr h

theorem tput_pairwise {k : Nat} {v : α} {t : Table α} (h : t.Pairwise (fun a b => a.1 < b.1)) :
    (tput k v t).Pairwise (fun a b => a.1 < b.1) := by
  induction t with
  | nil => simp [tput]
  | cons x r ih =>
    obtain ⟨k', v'⟩ := x
    rw [List.pairwise_cons] at h
    simp only [tput]
    split
    · rename_i hlt
      rw [List.pairwise_cons]
      refine ⟨?_, ih h.2⟩
      intro e he
      rcases mem_tput he with rfl | he
      · exact hlt
      · exact h.1 e he
    · split
      · rename_i hk; subst hk
        rw [List.pairwise_cons]
        exact ⟨fun e he => h.1 e he, h.2⟩
      · rename_i h1 h2
        rw [List.pairwise_cons]
        refine ⟨?_, List.pairwise_cons.mpr h⟩
        intro e he
        rcases List.mem_cons.mp he with rfl | he
        · simp only; omega
        · have := h.1 e he; simp only at this ⊢; omega

/-- Every write keeps the canonical form. -/
theorem twf_tset [DecidableEq α] {d : α} {t : Table α} (h : twf d t = true) (k : Nat) (v : α) :
    twf d (tset d t k v) = true := by
  simp only [twf, Bool.and_eq_true, tsorted_iff, List.all_eq_true] at h ⊢
  unfold tset
  split
  · exact ⟨h.1.filter _, fun e he => h.2 e ((List.mem_filter.mp he).1)⟩
  · rename_i hv
    refine ⟨tput_pairwise h.1, fun e he => ?_⟩
    rcases mem_tput he with rfl | he
    · simpa using hv
    · exact h.2 e he

theorem twf_tmod [DecidableEq α] {d : α} {t : Table α} (h : twf d t = true) (k : Nat) (f : α → α) :
    twf d (tmod d t k f) = true := twf_tset h k _

theorem twf_tkeep [DecidableEq α] {d : α} {t : Table α} (h : twf d t = true) (p : Nat → Bool) :
    twf d (tkeep p t) = true := by
  simp only [twf, Bool.and_eq_true, tsorted_iff, List.all_eq_true] at h ⊢
  exact ⟨h.1.filter _, fun e he => h.2 e ((List.mem_filter.mp he).1)⟩

end Sys2Proof.Laws
end

