-- ==== Sys2Proof/Laws/State.lean ====
section
/-! SUPPORT. One lemma per field per update of the state, so that no later proof unfolds a record update; and what the
accessors of registers, nodes, ports and groups read after the updates. -/

namespace Sys2Proof.Laws
open Sys2Proof.Machine

@[simp] theorem wr_pending (a : Nat) (v : Word) (s : State) : (wr a v s).pending = s.pending := rfl
@[simp] theorem wr_straps (a : Nat) (v : Word) (s : State) : (wr a v s).straps = s.straps := rfl
@[simp] theorem wr_staged (a : Nat) (v : Word) (s : State) : (wr a v s).staged = s.staged := rfl
@[simp] theorem wr_keel (a : Nat) (v : Word) (s : State) : (wr a v s).keel = s.keel := rfl
@[simp] theorem wr_evx (a : Nat) (v : Word) (s : State) : (wr a v s).evx = s.evx := rfl
@[simp] theorem wr_ptp (a : Nat) (v : Word) (s : State) : (wr a v s).ptp = s.ptp := rfl
@[simp] theorem wr_outs (a : Nat) (v : Word) (s : State) : (wr a v s).outs = s.outs := rfl
@[simp] theorem wr_tics (a : Nat) (v : Word) (s : State) : (wr a v s).tics = s.tics := rfl
@[simp] theorem wr_ev (a : Nat) (v : Word) (s : State) : (wr a v s).ev = s.ev := rfl
@[simp] theorem wr_mus (a : Nat) (v : Word) (s : State) : (wr a v s).mus = s.mus := rfl
@[simp] theorem wr_evMus (a : Nat) (v : Word) (s : State) : (wr a v s).evMus = s.evMus := rfl
@[simp] theorem wr_die (a : Nat) (v : Word) (s : State) : (wr a v s).die = s.die := rfl
@[simp] theorem wr_cfg (a : Nat) (v : Word) (s : State) : (wr a v s).cfg = s.cfg := rfl
@[simp] theorem wr_alm (a : Nat) (v : Word) (s : State) : (wr a v s).alm = s.alm := rfl
@[simp] theorem wr_rt (a : Nat) (v : Word) (s : State) : (wr a v s).rt = s.rt := rfl
@[simp] theorem wr_tw (a : Nat) (v : Word) (s : State) : (wr a v s).tw = s.tw := rfl
@[simp] theorem wr_hl (a : Nat) (v : Word) (s : State) : (wr a v s).hl = s.hl := rfl
@[simp] theorem wr_host (a : Nat) (v : Word) (s : State) : (wr a v s).host = s.host := rfl
@[simp] theorem wr_clks (a : Nat) (v : Word) (s : State) : (wr a v s).clks = s.clks := rfl
@[simp] theorem wr_out (a : Nat) (v : Word) (s : State) : (wr a v s).out = s.out := rfl
@[simp] theorem wr_free (a : Nat) (v : Word) (s : State) : (wr a v s).free = s.free := rfl
@[simp] theorem emit_pending (o : Out) (s : State) : (emit o s).pending = s.pending := rfl
@[simp] theorem emit_straps (o : Out) (s : State) : (emit o s).straps = s.straps := rfl
@[simp] theorem emit_regs (o : Out) (s : State) : (emit o s).regs = s.regs := rfl
@[simp] theorem emit_staged (o : Out) (s : State) : (emit o s).staged = s.staged := rfl
@[simp] theorem emit_keel (o : Out) (s : State) : (emit o s).keel = s.keel := rfl
@[simp] theorem emit_evx (o : Out) (s : State) : (emit o s).evx = s.evx := rfl
@[simp] theorem emit_ptp (o : Out) (s : State) : (emit o s).ptp = s.ptp := rfl
@[simp] theorem emit_outs (o : Out) (s : State) : (emit o s).outs = s.outs := rfl
@[simp] theorem emit_tics (o : Out) (s : State) : (emit o s).tics = s.tics := rfl
@[simp] theorem emit_ev (o : Out) (s : State) : (emit o s).ev = s.ev := rfl
@[simp] theorem emit_mus (o : Out) (s : State) : (emit o s).mus = s.mus := rfl
@[simp] theorem emit_evMus (o : Out) (s : State) : (emit o s).evMus = s.evMus := rfl
@[simp] theorem emit_die (o : Out) (s : State) : (emit o s).die = s.die := rfl
@[simp] theorem emit_cfg (o : Out) (s : State) : (emit o s).cfg = s.cfg := rfl
@[simp] theorem emit_alm (o : Out) (s : State) : (emit o s).alm = s.alm := rfl
@[simp] theorem emit_rt (o : Out) (s : State) : (emit o s).rt = s.rt := rfl
@[simp] theorem emit_tw (o : Out) (s : State) : (emit o s).tw = s.tw := rfl
@[simp] theorem emit_hl (o : Out) (s : State) : (emit o s).hl = s.hl := rfl
@[simp] theorem emit_host (o : Out) (s : State) : (emit o s).host = s.host := rfl
@[simp] theorem emit_clks (o : Out) (s : State) : (emit o s).clks = s.clks := rfl
@[simp] theorem emit_out (o : Out) (s : State) : (emit o s).out = o :: s.out := rfl
@[simp] theorem emit_free (o : Out) (s : State) : (emit o s).free = s.free := rfl
@[simp] theorem modDie_pending (f : DieSt → DieSt) (s : State) : (modDie f s).pending = s.pending := rfl
@[simp] theorem modDie_straps (f : DieSt → DieSt) (s : State) : (modDie f s).straps = s.straps := rfl
@[simp] theorem modDie_regs (f : DieSt → DieSt) (s : State) : (modDie f s).regs = s.regs := rfl
@[simp] theorem modDie_staged (f : DieSt → DieSt) (s : State) : (modDie f s).staged = s.staged := rfl
@[simp] theorem modDie_keel (f : DieSt → DieSt) (s : State) : (modDie f s).keel = s.keel := rfl
@[simp] theorem modDie_evx (f : DieSt → DieSt) (s : State) : (modDie f s).evx = s.evx := rfl
@[simp] theorem modDie_ptp (f : DieSt → DieSt) (s : State) : (modDie f s).ptp = s.ptp := rfl
@[simp] theorem modDie_outs (f : DieSt → DieSt) (s : State) : (modDie f s).outs = s.outs := rfl
@[simp] theorem modDie_tics (f : DieSt → DieSt) (s : State) : (modDie f s).tics = s.tics := rfl
@[simp] theorem modDie_ev (f : DieSt → DieSt) (s : State) : (modDie f s).ev = s.ev := rfl
@[simp] theorem modDie_mus (f : DieSt → DieSt) (s : State) : (modDie f s).mus = s.mus := rfl
@[simp] theorem modDie_evMus (f : DieSt → DieSt) (s : State) : (modDie f s).evMus = s.evMus := rfl
@[simp] theorem modDie_die (f : DieSt → DieSt) (s : State) : (modDie f s).die = f s.die := rfl
@[simp] theorem modDie_cfg (f : DieSt → DieSt) (s : State) : (modDie f s).cfg = s.cfg := rfl
@[simp] theorem modDie_alm (f : DieSt → DieSt) (s : State) : (modDie f s).alm = s.alm := rfl
@[simp] theorem modDie_rt (f : DieSt → DieSt) (s : State) : (modDie f s).rt = s.rt := rfl
@[simp] theorem modDie_tw (f : DieSt → DieSt) (s : State) : (modDie f s).tw = s.tw := rfl
@[simp] theorem modDie_hl (f : DieSt → DieSt) (s : State) : (modDie f s).hl = s.hl := rfl
@[simp] theorem modDie_host (f : DieSt → DieSt) (s : State) : (modDie f s).host = s.host := rfl
@[simp] theorem modDie_clks (f : DieSt → DieSt) (s : State) : (modDie f s).clks = s.clks := rfl
@[simp] theorem modDie_out (f : DieSt → DieSt) (s : State) : (modDie f s).out = s.out := rfl
@[simp] theorem modDie_free (f : DieSt → DieSt) (s : State) : (modDie f s).free = s.free := rfl
@[simp] theorem modEv_pending (f : EvSt → EvSt) (s : State) : (modEv f s).pending = s.pending := rfl
@[simp] theorem modEv_straps (f : EvSt → EvSt) (s : State) : (modEv f s).straps = s.straps := rfl
@[simp] theorem modEv_regs (f : EvSt → EvSt) (s : State) : (modEv f s).regs = s.regs := rfl
@[simp] theorem modEv_staged (f : EvSt → EvSt) (s : State) : (modEv f s).staged = s.staged := rfl
@[simp] theorem modEv_keel (f : EvSt → EvSt) (s : State) : (modEv f s).keel = s.keel := rfl
@[simp] theorem modEv_evx (f : EvSt → EvSt) (s : State) : (modEv f s).evx = s.evx := rfl
@[simp] theorem modEv_ptp (f : EvSt → EvSt) (s : State) : (modEv f s).ptp = s.ptp := rfl
@[simp] theorem modEv_outs (f : EvSt → EvSt) (s : State) : (modEv f s).outs = s.outs := rfl
@[simp] theorem modEv_tics (f : EvSt → EvSt) (s : State) : (modEv f s).tics = s.tics := rfl
@[simp] theorem modEv_ev (f : EvSt → EvSt) (s : State) : (modEv f s).ev = f s.ev := rfl
@[simp] theorem modEv_mus (f : EvSt → EvSt) (s : State) : (modEv f s).mus = s.mus := rfl
@[simp] theorem modEv_evMus (f : EvSt → EvSt) (s : State) : (modEv f s).evMus = s.evMus := rfl
@[simp] theorem modEv_die (f : EvSt → EvSt) (s : State) : (modEv f s).die = s.die := rfl
@[simp] theorem modEv_cfg (f : EvSt → EvSt) (s : State) : (modEv f s).cfg = s.cfg := rfl
@[simp] theorem modEv_alm (f : EvSt → EvSt) (s : State) : (modEv f s).alm = s.alm := rfl
@[simp] theorem modEv_rt (f : EvSt → EvSt) (s : State) : (modEv f s).rt = s.rt := rfl
@[simp] theorem modEv_tw (f : EvSt → EvSt) (s : State) : (modEv f s).tw = s.tw := rfl
@[simp] theorem modEv_hl (f : EvSt → EvSt) (s : State) : (modEv f s).hl = s.hl := rfl
@[simp] theorem modEv_host (f : EvSt → EvSt) (s : State) : (modEv f s).host = s.host := rfl
@[simp] theorem modEv_clks (f : EvSt → EvSt) (s : State) : (modEv f s).clks = s.clks := rfl
@[simp] theorem modEv_out (f : EvSt → EvSt) (s : State) : (modEv f s).out = s.out := rfl
@[simp] theorem modEv_free (f : EvSt → EvSt) (s : State) : (modEv f s).free = s.free := rfl
@[simp] theorem modAlm_pending (f : AlmSt → AlmSt) (s : State) : (modAlm f s).pending = s.pending := rfl
@[simp] theorem modAlm_straps (f : AlmSt → AlmSt) (s : State) : (modAlm f s).straps = s.straps := rfl
@[simp] theorem modAlm_regs (f : AlmSt → AlmSt) (s : State) : (modAlm f s).regs = s.regs := rfl
@[simp] theorem modAlm_staged (f : AlmSt → AlmSt) (s : State) : (modAlm f s).staged = s.staged := rfl
@[simp] theorem modAlm_keel (f : AlmSt → AlmSt) (s : State) : (modAlm f s).keel = s.keel := rfl
@[simp] theorem modAlm_evx (f : AlmSt → AlmSt) (s : State) : (modAlm f s).evx = s.evx := rfl
@[simp] theorem modAlm_ptp (f : AlmSt → AlmSt) (s : State) : (modAlm f s).ptp = s.ptp := rfl
@[simp] theorem modAlm_outs (f : AlmSt → AlmSt) (s : State) : (modAlm f s).outs = s.outs := rfl
@[simp] theorem modAlm_tics (f : AlmSt → AlmSt) (s : State) : (modAlm f s).tics = s.tics := rfl
@[simp] theorem modAlm_ev (f : AlmSt → AlmSt) (s : State) : (modAlm f s).ev = s.ev := rfl
@[simp] theorem modAlm_mus (f : AlmSt → AlmSt) (s : State) : (modAlm f s).mus = s.mus := rfl
@[simp] theorem modAlm_evMus (f : AlmSt → AlmSt) (s : State) : (modAlm f s).evMus = s.evMus := rfl
@[simp] theorem modAlm_die (f : AlmSt → AlmSt) (s : State) : (modAlm f s).die = s.die := rfl
@[simp] theorem modAlm_cfg (f : AlmSt → AlmSt) (s : State) : (modAlm f s).cfg = s.cfg := rfl
@[simp] theorem modAlm_alm (f : AlmSt → AlmSt) (s : State) : (modAlm f s).alm = f s.alm := rfl
@[simp] theorem modAlm_rt (f : AlmSt → AlmSt) (s : State) : (modAlm f s).rt = s.rt := rfl
@[simp] theorem modAlm_tw (f : AlmSt → AlmSt) (s : State) : (modAlm f s).tw = s.tw := rfl
@[simp] theorem modAlm_hl (f : AlmSt → AlmSt) (s : State) : (modAlm f s).hl = s.hl := rfl
@[simp] theorem modAlm_host (f : AlmSt → AlmSt) (s : State) : (modAlm f s).host = s.host := rfl
@[simp] theorem modAlm_clks (f : AlmSt → AlmSt) (s : State) : (modAlm f s).clks = s.clks := rfl
@[simp] theorem modAlm_out (f : AlmSt → AlmSt) (s : State) : (modAlm f s).out = s.out := rfl
@[simp] theorem modAlm_free (f : AlmSt → AlmSt) (s : State) : (modAlm f s).free = s.free := rfl
@[simp] theorem modRt_pending (f : RouteSt → RouteSt) (s : State) : (modRt f s).pending = s.pending := rfl
@[simp] theorem modRt_straps (f : RouteSt → RouteSt) (s : State) : (modRt f s).straps = s.straps := rfl
@[simp] theorem modRt_regs (f : RouteSt → RouteSt) (s : State) : (modRt f s).regs = s.regs := rfl
@[simp] theorem modRt_staged (f : RouteSt → RouteSt) (s : State) : (modRt f s).staged = s.staged := rfl
@[simp] theorem modRt_keel (f : RouteSt → RouteSt) (s : State) : (modRt f s).keel = s.keel := rfl
@[simp] theorem modRt_evx (f : RouteSt → RouteSt) (s : State) : (modRt f s).evx = s.evx := rfl
@[simp] theorem modRt_ptp (f : RouteSt → RouteSt) (s : State) : (modRt f s).ptp = s.ptp := rfl
@[simp] theorem modRt_outs (f : RouteSt → RouteSt) (s : State) : (modRt f s).outs = s.outs := rfl
@[simp] theorem modRt_tics (f : RouteSt → RouteSt) (s : State) : (modRt f s).tics = s.tics := rfl
@[simp] theorem modRt_ev (f : RouteSt → RouteSt) (s : State) : (modRt f s).ev = s.ev := rfl
@[simp] theorem modRt_mus (f : RouteSt → RouteSt) (s : State) : (modRt f s).mus = s.mus := rfl
@[simp] theorem modRt_evMus (f : RouteSt → RouteSt) (s : State) : (modRt f s).evMus = s.evMus := rfl
@[simp] theorem modRt_die (f : RouteSt → RouteSt) (s : State) : (modRt f s).die = s.die := rfl
@[simp] theorem modRt_cfg (f : RouteSt → RouteSt) (s : State) : (modRt f s).cfg = s.cfg := rfl
@[simp] theorem modRt_alm (f : RouteSt → RouteSt) (s : State) : (modRt f s).alm = s.alm := rfl
@[simp] theorem modRt_rt (f : RouteSt → RouteSt) (s : State) : (modRt f s).rt = f s.rt := rfl
@[simp] theorem modRt_tw (f : RouteSt → RouteSt) (s : State) : (modRt f s).tw = s.tw := rfl
@[simp] theorem modRt_hl (f : RouteSt → RouteSt) (s : State) : (modRt f s).hl = s.hl := rfl
@[simp] theorem modRt_host (f : RouteSt → RouteSt) (s : State) : (modRt f s).host = s.host := rfl
@[simp] theorem modRt_clks (f : RouteSt → RouteSt) (s : State) : (modRt f s).clks = s.clks := rfl
@[simp] theorem modRt_out (f : RouteSt → RouteSt) (s : State) : (modRt f s).out = s.out := rfl
@[simp] theorem modRt_free (f : RouteSt → RouteSt) (s : State) : (modRt f s).free = s.free := rfl
@[simp] theorem modTw_pending (f : TwinSt → TwinSt) (s : State) : (modTw f s).pending = s.pending := rfl
@[simp] theorem modTw_straps (f : TwinSt → TwinSt) (s : State) : (modTw f s).straps = s.straps := rfl
@[simp] theorem modTw_regs (f : TwinSt → TwinSt) (s : State) : (modTw f s).regs = s.regs := rfl
@[simp] theorem modTw_staged (f : TwinSt → TwinSt) (s : State) : (modTw f s).staged = s.staged := rfl
@[simp] theorem modTw_keel (f : TwinSt → TwinSt) (s : State) : (modTw f s).keel = s.keel := rfl
@[simp] theorem modTw_evx (f : TwinSt → TwinSt) (s : State) : (modTw f s).evx = s.evx := rfl
@[simp] theorem modTw_ptp (f : TwinSt → TwinSt) (s : State) : (modTw f s).ptp = s.ptp := rfl
@[simp] theorem modTw_outs (f : TwinSt → TwinSt) (s : State) : (modTw f s).outs = s.outs := rfl
@[simp] theorem modTw_tics (f : TwinSt → TwinSt) (s : State) : (modTw f s).tics = s.tics := rfl
@[simp] theorem modTw_ev (f : TwinSt → TwinSt) (s : State) : (modTw f s).ev = s.ev := rfl
@[simp] theorem modTw_mus (f : TwinSt → TwinSt) (s : State) : (modTw f s).mus = s.mus := rfl
@[simp] theorem modTw_evMus (f : TwinSt → TwinSt) (s : State) : (modTw f s).evMus = s.evMus := rfl
@[simp] theorem modTw_die (f : TwinSt → TwinSt) (s : State) : (modTw f s).die = s.die := rfl
@[simp] theorem modTw_cfg (f : TwinSt → TwinSt) (s : State) : (modTw f s).cfg = s.cfg := rfl
@[simp] theorem modTw_alm (f : TwinSt → TwinSt) (s : State) : (modTw f s).alm = s.alm := rfl
@[simp] theorem modTw_rt (f : TwinSt → TwinSt) (s : State) : (modTw f s).rt = s.rt := rfl
@[simp] theorem modTw_tw (f : TwinSt → TwinSt) (s : State) : (modTw f s).tw = f s.tw := rfl
@[simp] theorem modTw_hl (f : TwinSt → TwinSt) (s : State) : (modTw f s).hl = s.hl := rfl
@[simp] theorem modTw_host (f : TwinSt → TwinSt) (s : State) : (modTw f s).host = s.host := rfl
@[simp] theorem modTw_clks (f : TwinSt → TwinSt) (s : State) : (modTw f s).clks = s.clks := rfl
@[simp] theorem modTw_out (f : TwinSt → TwinSt) (s : State) : (modTw f s).out = s.out := rfl
@[simp] theorem modTw_free (f : TwinSt → TwinSt) (s : State) : (modTw f s).free = s.free := rfl
@[simp] theorem modHost_pending (f : HostSt → HostSt) (s : State) : (modHost f s).pending = s.pending := rfl
@[simp] theorem modHost_straps (f : HostSt → HostSt) (s : State) : (modHost f s).straps = s.straps := rfl
@[simp] theorem modHost_regs (f : HostSt → HostSt) (s : State) : (modHost f s).regs = s.regs := rfl
@[simp] theorem modHost_staged (f : HostSt → HostSt) (s : State) : (modHost f s).staged = s.staged := rfl
@[simp] theorem modHost_keel (f : HostSt → HostSt) (s : State) : (modHost f s).keel = s.keel := rfl
@[simp] theorem modHost_evx (f : HostSt → HostSt) (s : State) : (modHost f s).evx = s.evx := rfl
@[simp] theorem modHost_ptp (f : HostSt → HostSt) (s : State) : (modHost f s).ptp = s.ptp := rfl
@[simp] theorem modHost_outs (f : HostSt → HostSt) (s : State) : (modHost f s).outs = s.outs := rfl
@[simp] theorem modHost_tics (f : HostSt → HostSt) (s : State) : (modHost f s).tics = s.tics := rfl
@[simp] theorem modHost_ev (f : HostSt → HostSt) (s : State) : (modHost f s).ev = s.ev := rfl
@[simp] theorem modHost_mus (f : HostSt → HostSt) (s : State) : (modHost f s).mus = s.mus := rfl
@[simp] theorem modHost_evMus (f : HostSt → HostSt) (s : State) : (modHost f s).evMus = s.evMus := rfl
@[simp] theorem modHost_die (f : HostSt → HostSt) (s : State) : (modHost f s).die = s.die := rfl
@[simp] theorem modHost_cfg (f : HostSt → HostSt) (s : State) : (modHost f s).cfg = s.cfg := rfl
@[simp] theorem modHost_alm (f : HostSt → HostSt) (s : State) : (modHost f s).alm = s.alm := rfl
@[simp] theorem modHost_rt (f : HostSt → HostSt) (s : State) : (modHost f s).rt = s.rt := rfl
@[simp] theorem modHost_tw (f : HostSt → HostSt) (s : State) : (modHost f s).tw = s.tw := rfl
@[simp] theorem modHost_hl (f : HostSt → HostSt) (s : State) : (modHost f s).hl = s.hl := rfl
@[simp] theorem modHost_host (f : HostSt → HostSt) (s : State) : (modHost f s).host = f s.host := rfl
@[simp] theorem modHost_clks (f : HostSt → HostSt) (s : State) : (modHost f s).clks = s.clks := rfl
@[simp] theorem modHost_out (f : HostSt → HostSt) (s : State) : (modHost f s).out = s.out := rfl
@[simp] theorem modHost_free (f : HostSt → HostSt) (s : State) : (modHost f s).free = s.free := rfl
@[simp] theorem modClks_pending (f : ClkSt → ClkSt) (s : State) : (modClks f s).pending = s.pending := rfl
@[simp] theorem modClks_straps (f : ClkSt → ClkSt) (s : State) : (modClks f s).straps = s.straps := rfl
@[simp] theorem modClks_regs (f : ClkSt → ClkSt) (s : State) : (modClks f s).regs = s.regs := rfl
@[simp] theorem modClks_staged (f : ClkSt → ClkSt) (s : State) : (modClks f s).staged = s.staged := rfl
@[simp] theorem modClks_keel (f : ClkSt → ClkSt) (s : State) : (modClks f s).keel = s.keel := rfl
@[simp] theorem modClks_evx (f : ClkSt → ClkSt) (s : State) : (modClks f s).evx = s.evx := rfl
@[simp] theorem modClks_ptp (f : ClkSt → ClkSt) (s : State) : (modClks f s).ptp = s.ptp := rfl
@[simp] theorem modClks_outs (f : ClkSt → ClkSt) (s : State) : (modClks f s).outs = s.outs := rfl
@[simp] theorem modClks_tics (f : ClkSt → ClkSt) (s : State) : (modClks f s).tics = s.tics := rfl
@[simp] theorem modClks_ev (f : ClkSt → ClkSt) (s : State) : (modClks f s).ev = s.ev := rfl
@[simp] theorem modClks_mus (f : ClkSt → ClkSt) (s : State) : (modClks f s).mus = s.mus := rfl
@[simp] theorem modClks_evMus (f : ClkSt → ClkSt) (s : State) : (modClks f s).evMus = s.evMus := rfl
@[simp] theorem modClks_die (f : ClkSt → ClkSt) (s : State) : (modClks f s).die = s.die := rfl
@[simp] theorem modClks_cfg (f : ClkSt → ClkSt) (s : State) : (modClks f s).cfg = s.cfg := rfl
@[simp] theorem modClks_alm (f : ClkSt → ClkSt) (s : State) : (modClks f s).alm = s.alm := rfl
@[simp] theorem modClks_rt (f : ClkSt → ClkSt) (s : State) : (modClks f s).rt = s.rt := rfl
@[simp] theorem modClks_tw (f : ClkSt → ClkSt) (s : State) : (modClks f s).tw = s.tw := rfl
@[simp] theorem modClks_hl (f : ClkSt → ClkSt) (s : State) : (modClks f s).hl = s.hl := rfl
@[simp] theorem modClks_host (f : ClkSt → ClkSt) (s : State) : (modClks f s).host = s.host := rfl
@[simp] theorem modClks_clks (f : ClkSt → ClkSt) (s : State) : (modClks f s).clks = f s.clks := rfl
@[simp] theorem modClks_out (f : ClkSt → ClkSt) (s : State) : (modClks f s).out = s.out := rfl
@[simp] theorem modClks_free (f : ClkSt → ClkSt) (s : State) : (modClks f s).free = s.free := rfl
@[simp] theorem modTic_pending (c : Nat) (f : Tic → Tic) (s : State) : (modTic c f s).pending = s.pending := rfl
@[simp] theorem modTic_straps (c : Nat) (f : Tic → Tic) (s : State) : (modTic c f s).straps = s.straps := rfl
@[simp] theorem modTic_regs (c : Nat) (f : Tic → Tic) (s : State) : (modTic c f s).regs = s.regs := rfl
@[simp] theorem modTic_staged (c : Nat) (f : Tic → Tic) (s : State) : (modTic c f s).staged = s.staged := rfl
@[simp] theorem modTic_keel (c : Nat) (f : Tic → Tic) (s : State) : (modTic c f s).keel = s.keel := rfl
@[simp] theorem modTic_evx (c : Nat) (f : Tic → Tic) (s : State) : (modTic c f s).evx = s.evx := rfl
@[simp] theorem modTic_ptp (c : Nat) (f : Tic → Tic) (s : State) : (modTic c f s).ptp = s.ptp := rfl
@[simp] theorem modTic_outs (c : Nat) (f : Tic → Tic) (s : State) : (modTic c f s).outs = s.outs := rfl
@[simp] theorem modTic_tics (c : Nat) (f : Tic → Tic) (s : State) : (modTic c f s).tics = tmod {} s.tics c f := rfl
@[simp] theorem modTic_ev (c : Nat) (f : Tic → Tic) (s : State) : (modTic c f s).ev = s.ev := rfl
@[simp] theorem modTic_mus (c : Nat) (f : Tic → Tic) (s : State) : (modTic c f s).mus = s.mus := rfl
@[simp] theorem modTic_evMus (c : Nat) (f : Tic → Tic) (s : State) : (modTic c f s).evMus = s.evMus := rfl
@[simp] theorem modTic_die (c : Nat) (f : Tic → Tic) (s : State) : (modTic c f s).die = s.die := rfl
@[simp] theorem modTic_cfg (c : Nat) (f : Tic → Tic) (s : State) : (modTic c f s).cfg = s.cfg := rfl
@[simp] theorem modTic_alm (c : Nat) (f : Tic → Tic) (s : State) : (modTic c f s).alm = s.alm := rfl
@[simp] theorem modTic_rt (c : Nat) (f : Tic → Tic) (s : State) : (modTic c f s).rt = s.rt := rfl
@[simp] theorem modTic_tw (c : Nat) (f : Tic → Tic) (s : State) : (modTic c f s).tw = s.tw := rfl
@[simp] theorem modTic_hl (c : Nat) (f : Tic → Tic) (s : State) : (modTic c f s).hl = s.hl := rfl
@[simp] theorem modTic_host (c : Nat) (f : Tic → Tic) (s : State) : (modTic c f s).host = s.host := rfl
@[simp] theorem modTic_clks (c : Nat) (f : Tic → Tic) (s : State) : (modTic c f s).clks = s.clks := rfl
@[simp] theorem modTic_out (c : Nat) (f : Tic → Tic) (s : State) : (modTic c f s).out = s.out := rfl
@[simp] theorem modTic_free (c : Nat) (f : Tic → Tic) (s : State) : (modTic c f s).free = s.free := rfl
@[simp] theorem modOut_pending (o : Nat) (f : PpsOut → PpsOut) (s : State) : (modOut o f s).pending = s.pending := rfl
@[simp] theorem modOut_straps (o : Nat) (f : PpsOut → PpsOut) (s : State) : (modOut o f s).straps = s.straps := rfl
@[simp] theorem modOut_regs (o : Nat) (f : PpsOut → PpsOut) (s : State) : (modOut o f s).regs = s.regs := rfl
@[simp] theorem modOut_staged (o : Nat) (f : PpsOut → PpsOut) (s : State) : (modOut o f s).staged = s.staged := rfl
@[simp] theorem modOut_keel (o : Nat) (f : PpsOut → PpsOut) (s : State) : (modOut o f s).keel = s.keel := rfl
@[simp] theorem modOut_evx (o : Nat) (f : PpsOut → PpsOut) (s : State) : (modOut o f s).evx = s.evx := rfl
@[simp] theorem modOut_ptp (o : Nat) (f : PpsOut → PpsOut) (s : State) : (modOut o f s).ptp = s.ptp := rfl
@[simp] theorem modOut_outs (o : Nat) (f : PpsOut → PpsOut) (s : State) : (modOut o f s).outs = tmod {} s.outs o f := rfl
@[simp] theorem modOut_tics (o : Nat) (f : PpsOut → PpsOut) (s : State) : (modOut o f s).tics = s.tics := rfl
@[simp] theorem modOut_ev (o : Nat) (f : PpsOut → PpsOut) (s : State) : (modOut o f s).ev = s.ev := rfl
@[simp] theorem modOut_mus (o : Nat) (f : PpsOut → PpsOut) (s : State) : (modOut o f s).mus = s.mus := rfl
@[simp] theorem modOut_evMus (o : Nat) (f : PpsOut → PpsOut) (s : State) : (modOut o f s).evMus = s.evMus := rfl
@[simp] theorem modOut_die (o : Nat) (f : PpsOut → PpsOut) (s : State) : (modOut o f s).die = s.die := rfl
@[simp] theorem modOut_cfg (o : Nat) (f : PpsOut → PpsOut) (s : State) : (modOut o f s).cfg = s.cfg := rfl
@[simp] theorem modOut_alm (o : Nat) (f : PpsOut → PpsOut) (s : State) : (modOut o f s).alm = s.alm := rfl
@[simp] theorem modOut_rt (o : Nat) (f : PpsOut → PpsOut) (s : State) : (modOut o f s).rt = s.rt := rfl
@[simp] theorem modOut_tw (o : Nat) (f : PpsOut → PpsOut) (s : State) : (modOut o f s).tw = s.tw := rfl
@[simp] theorem modOut_hl (o : Nat) (f : PpsOut → PpsOut) (s : State) : (modOut o f s).hl = s.hl := rfl
@[simp] theorem modOut_host (o : Nat) (f : PpsOut → PpsOut) (s : State) : (modOut o f s).host = s.host := rfl
@[simp] theorem modOut_clks (o : Nat) (f : PpsOut → PpsOut) (s : State) : (modOut o f s).clks = s.clks := rfl
@[simp] theorem modOut_out (o : Nat) (f : PpsOut → PpsOut) (s : State) : (modOut o f s).out = s.out := rfl
@[simp] theorem modOut_free (o : Nat) (f : PpsOut → PpsOut) (s : State) : (modOut o f s).free = s.free := rfl
@[simp] theorem modEdge_pending (e : Nat) (f : EdgePort → EdgePort) (s : State) : (modEdge e f s).pending = s.pending := rfl
@[simp] theorem modEdge_straps (e : Nat) (f : EdgePort → EdgePort) (s : State) : (modEdge e f s).straps = s.straps := rfl
@[simp] theorem modEdge_regs (e : Nat) (f : EdgePort → EdgePort) (s : State) : (modEdge e f s).regs = s.regs := rfl
@[simp] theorem modEdge_staged (e : Nat) (f : EdgePort → EdgePort) (s : State) : (modEdge e f s).staged = s.staged := rfl
@[simp] theorem modEdge_keel (e : Nat) (f : EdgePort → EdgePort) (s : State) : (modEdge e f s).keel = s.keel := rfl
@[simp] theorem modEdge_evx (e : Nat) (f : EdgePort → EdgePort) (s : State) : (modEdge e f s).evx = s.evx := rfl
@[simp] theorem modEdge_ptp (e : Nat) (f : EdgePort → EdgePort) (s : State) : (modEdge e f s).ptp = tmod {} s.ptp e f := rfl
@[simp] theorem modEdge_outs (e : Nat) (f : EdgePort → EdgePort) (s : State) : (modEdge e f s).outs = s.outs := rfl
@[simp] theorem modEdge_tics (e : Nat) (f : EdgePort → EdgePort) (s : State) : (modEdge e f s).tics = s.tics := rfl
@[simp] theorem modEdge_ev (e : Nat) (f : EdgePort → EdgePort) (s : State) : (modEdge e f s).ev = s.ev := rfl
@[simp] theorem modEdge_mus (e : Nat) (f : EdgePort → EdgePort) (s : State) : (modEdge e f s).mus = s.mus := rfl
@[simp] theorem modEdge_evMus (e : Nat) (f : EdgePort → EdgePort) (s : State) : (modEdge e f s).evMus = s.evMus := rfl
@[simp] theorem modEdge_die (e : Nat) (f : EdgePort → EdgePort) (s : State) : (modEdge e f s).die = s.die := rfl
@[simp] theorem modEdge_cfg (e : Nat) (f : EdgePort → EdgePort) (s : State) : (modEdge e f s).cfg = s.cfg := rfl
@[simp] theorem modEdge_alm (e : Nat) (f : EdgePort → EdgePort) (s : State) : (modEdge e f s).alm = s.alm := rfl
@[simp] theorem modEdge_rt (e : Nat) (f : EdgePort → EdgePort) (s : State) : (modEdge e f s).rt = s.rt := rfl
@[simp] theorem modEdge_tw (e : Nat) (f : EdgePort → EdgePort) (s : State) : (modEdge e f s).tw = s.tw := rfl
@[simp] theorem modEdge_hl (e : Nat) (f : EdgePort → EdgePort) (s : State) : (modEdge e f s).hl = s.hl := rfl
@[simp] theorem modEdge_host (e : Nat) (f : EdgePort → EdgePort) (s : State) : (modEdge e f s).host = s.host := rfl
@[simp] theorem modEdge_clks (e : Nat) (f : EdgePort → EdgePort) (s : State) : (modEdge e f s).clks = s.clks := rfl
@[simp] theorem modEdge_out (e : Nat) (f : EdgePort → EdgePort) (s : State) : (modEdge e f s).out = s.out := rfl
@[simp] theorem modEdge_free (e : Nat) (f : EdgePort → EdgePort) (s : State) : (modEdge e f s).free = s.free := rfl
@[simp] theorem modLog_pending (d : Nat) (f : DieLog → DieLog) (s : State) : (modLog d f s).pending = s.pending := rfl
@[simp] theorem modLog_straps (d : Nat) (f : DieLog → DieLog) (s : State) : (modLog d f s).straps = s.straps := rfl
@[simp] theorem modLog_regs (d : Nat) (f : DieLog → DieLog) (s : State) : (modLog d f s).regs = s.regs := rfl
@[simp] theorem modLog_staged (d : Nat) (f : DieLog → DieLog) (s : State) : (modLog d f s).staged = s.staged := rfl
@[simp] theorem modLog_keel (d : Nat) (f : DieLog → DieLog) (s : State) : (modLog d f s).keel = s.keel := rfl
@[simp] theorem modLog_evx (d : Nat) (f : DieLog → DieLog) (s : State) : (modLog d f s).evx = s.evx := rfl
@[simp] theorem modLog_ptp (d : Nat) (f : DieLog → DieLog) (s : State) : (modLog d f s).ptp = s.ptp := rfl
@[simp] theorem modLog_outs (d : Nat) (f : DieLog → DieLog) (s : State) : (modLog d f s).outs = s.outs := rfl
@[simp] theorem modLog_tics (d : Nat) (f : DieLog → DieLog) (s : State) : (modLog d f s).tics = s.tics := rfl
@[simp] theorem modLog_ev (d : Nat) (f : DieLog → DieLog) (s : State) : (modLog d f s).ev = s.ev := rfl
@[simp] theorem modLog_mus (d : Nat) (f : DieLog → DieLog) (s : State) : (modLog d f s).mus = s.mus := rfl
@[simp] theorem modLog_evMus (d : Nat) (f : DieLog → DieLog) (s : State) : (modLog d f s).evMus = s.evMus := rfl
@[simp] theorem modLog_die (d : Nat) (f : DieLog → DieLog) (s : State) : (modLog d f s).die = s.die := rfl
@[simp] theorem modLog_cfg (d : Nat) (f : DieLog → DieLog) (s : State) : (modLog d f s).cfg = s.cfg := rfl
@[simp] theorem modLog_alm (d : Nat) (f : DieLog → DieLog) (s : State) : (modLog d f s).alm = s.alm := rfl
@[simp] theorem modLog_rt (d : Nat) (f : DieLog → DieLog) (s : State) : (modLog d f s).rt = s.rt := rfl
@[simp] theorem modLog_tw (d : Nat) (f : DieLog → DieLog) (s : State) : (modLog d f s).tw = s.tw := rfl
@[simp] theorem modLog_hl (d : Nat) (f : DieLog → DieLog) (s : State) : (modLog d f s).hl = { s.hl with logs := tmod {} s.hl.logs d f } := rfl
@[simp] theorem modLog_host (d : Nat) (f : DieLog → DieLog) (s : State) : (modLog d f s).host = s.host := rfl
@[simp] theorem modLog_clks (d : Nat) (f : DieLog → DieLog) (s : State) : (modLog d f s).clks = s.clks := rfl
@[simp] theorem modLog_out (d : Nat) (f : DieLog → DieLog) (s : State) : (modLog d f s).out = s.out := rfl
@[simp] theorem modLog_free (d : Nat) (f : DieLog → DieLog) (s : State) : (modLog d f s).free = s.free := rfl
@[simp] theorem takeFree_pending (s : State) : ((takeFree s).2).pending = s.pending := rfl
@[simp] theorem takeFree_straps (s : State) : ((takeFree s).2).straps = s.straps := rfl
@[simp] theorem takeFree_regs (s : State) : ((takeFree s).2).regs = s.regs := rfl
@[simp] theorem takeFree_staged (s : State) : ((takeFree s).2).staged = s.staged := rfl
@[simp] theorem takeFree_keel (s : State) : ((takeFree s).2).keel = s.keel := rfl
@[simp] theorem takeFree_evx (s : State) : ((takeFree s).2).evx = s.evx := rfl
@[simp] theorem takeFree_ptp (s : State) : ((takeFree s).2).ptp = s.ptp := rfl
@[simp] theorem takeFree_outs (s : State) : ((takeFree s).2).outs = s.outs := rfl
@[simp] theorem takeFree_tics (s : State) : ((takeFree s).2).tics = s.tics := rfl
@[simp] theorem takeFree_ev (s : State) : ((takeFree s).2).ev = s.ev := rfl
@[simp] theorem takeFree_mus (s : State) : ((takeFree s).2).mus = s.mus := rfl
@[simp] theorem takeFree_evMus (s : State) : ((takeFree s).2).evMus = s.evMus := rfl
@[simp] theorem takeFree_die (s : State) : ((takeFree s).2).die = s.die := rfl
@[simp] theorem takeFree_cfg (s : State) : ((takeFree s).2).cfg = s.cfg := rfl
@[simp] theorem takeFree_alm (s : State) : ((takeFree s).2).alm = s.alm := rfl
@[simp] theorem takeFree_rt (s : State) : ((takeFree s).2).rt = s.rt := rfl
@[simp] theorem takeFree_tw (s : State) : ((takeFree s).2).tw = s.tw := rfl
@[simp] theorem takeFree_hl (s : State) : ((takeFree s).2).hl = s.hl := rfl
@[simp] theorem takeFree_host (s : State) : ((takeFree s).2).host = s.host := rfl
@[simp] theorem takeFree_clks (s : State) : ((takeFree s).2).clks = s.clks := rfl
@[simp] theorem takeFree_out (s : State) : ((takeFree s).2).out = s.out := rfl
@[simp] theorem takeFree_free (s : State) : ((takeFree s).2).free = s.free + 1 := rfl
@[simp] theorem setNd_pending (n : Node) (x : NodeSt) (s : State) : (setNd n x s).pending = s.pending := by cases n <;> rfl
@[simp] theorem setNd_straps (n : Node) (x : NodeSt) (s : State) : (setNd n x s).straps = s.straps := by cases n <;> rfl
@[simp] theorem setNd_regs (n : Node) (x : NodeSt) (s : State) : (setNd n x s).regs = s.regs := by cases n <;> rfl
@[simp] theorem setNd_staged (n : Node) (x : NodeSt) (s : State) : (setNd n x s).staged = s.staged := by cases n <;> rfl
@[simp] theorem setNd_ptp (n : Node) (x : NodeSt) (s : State) : (setNd n x s).ptp = s.ptp := by cases n <;> rfl
@[simp] theorem setNd_outs (n : Node) (x : NodeSt) (s : State) : (setNd n x s).outs = s.outs := by cases n <;> rfl
@[simp] theorem setNd_tics (n : Node) (x : NodeSt) (s : State) : (setNd n x s).tics = s.tics := by cases n <;> rfl
@[simp] theorem setNd_ev (n : Node) (x : NodeSt) (s : State) : (setNd n x s).ev = s.ev := by cases n <;> rfl
@[simp] theorem setNd_mus (n : Node) (x : NodeSt) (s : State) : (setNd n x s).mus = s.mus := by cases n <;> rfl
@[simp] theorem setNd_evMus (n : Node) (x : NodeSt) (s : State) : (setNd n x s).evMus = s.evMus := by cases n <;> rfl
@[simp] theorem setNd_die (n : Node) (x : NodeSt) (s : State) : (setNd n x s).die = s.die := by cases n <;> rfl
@[simp] theorem setNd_cfg (n : Node) (x : NodeSt) (s : State) : (setNd n x s).cfg = s.cfg := by cases n <;> rfl
@[simp] theorem setNd_alm (n : Node) (x : NodeSt) (s : State) : (setNd n x s).alm = s.alm := by cases n <;> rfl
@[simp] theorem setNd_rt (n : Node) (x : NodeSt) (s : State) : (setNd n x s).rt = s.rt := by cases n <;> rfl
@[simp] theorem setNd_tw (n : Node) (x : NodeSt) (s : State) : (setNd n x s).tw = s.tw := by cases n <;> rfl
@[simp] theorem setNd_hl (n : Node) (x : NodeSt) (s : State) : (setNd n x s).hl = s.hl := by cases n <;> rfl
@[simp] theorem setNd_host (n : Node) (x : NodeSt) (s : State) : (setNd n x s).host = s.host := by cases n <;> rfl
@[simp] theorem setNd_clks (n : Node) (x : NodeSt) (s : State) : (setNd n x s).clks = s.clks := by cases n <;> rfl
@[simp] theorem setNd_out (n : Node) (x : NodeSt) (s : State) : (setNd n x s).out = s.out := by cases n <;> rfl
@[simp] theorem setNd_free (n : Node) (x : NodeSt) (s : State) : (setNd n x s).free = s.free := by cases n <;> rfl
@[simp] theorem setMus_pending (n : Node) (x : MusterSt) (s : State) : (setMus n x s).pending = s.pending := by cases n <;> rfl
@[simp] theorem setMus_straps (n : Node) (x : MusterSt) (s : State) : (setMus n x s).straps = s.straps := by cases n <;> rfl
@[simp] theorem setMus_regs (n : Node) (x : MusterSt) (s : State) : (setMus n x s).regs = s.regs := by cases n <;> rfl
@[simp] theorem setMus_staged (n : Node) (x : MusterSt) (s : State) : (setMus n x s).staged = s.staged := by cases n <;> rfl
@[simp] theorem setMus_keel (n : Node) (x : MusterSt) (s : State) : (setMus n x s).keel = s.keel := by cases n <;> rfl
@[simp] theorem setMus_evx (n : Node) (x : MusterSt) (s : State) : (setMus n x s).evx = s.evx := by cases n <;> rfl
@[simp] theorem setMus_ptp (n : Node) (x : MusterSt) (s : State) : (setMus n x s).ptp = s.ptp := by cases n <;> rfl
@[simp] theorem setMus_outs (n : Node) (x : MusterSt) (s : State) : (setMus n x s).outs = s.outs := by cases n <;> rfl
@[simp] theorem setMus_tics (n : Node) (x : MusterSt) (s : State) : (setMus n x s).tics = s.tics := by cases n <;> rfl
@[simp] theorem setMus_ev (n : Node) (x : MusterSt) (s : State) : (setMus n x s).ev = s.ev := by cases n <;> rfl
@[simp] theorem setMus_die (n : Node) (x : MusterSt) (s : State) : (setMus n x s).die = s.die := by cases n <;> rfl
@[simp] theorem setMus_cfg (n : Node) (x : MusterSt) (s : State) : (setMus n x s).cfg = s.cfg := by cases n <;> rfl
@[simp] theorem setMus_alm (n : Node) (x : MusterSt) (s : State) : (setMus n x s).alm = s.alm := by cases n <;> rfl
@[simp] theorem setMus_rt (n : Node) (x : MusterSt) (s : State) : (setMus n x s).rt = s.rt := by cases n <;> rfl
@[simp] theorem setMus_tw (n : Node) (x : MusterSt) (s : State) : (setMus n x s).tw = s.tw := by cases n <;> rfl
@[simp] theorem setMus_hl (n : Node) (x : MusterSt) (s : State) : (setMus n x s).hl = s.hl := by cases n <;> rfl
@[simp] theorem setMus_host (n : Node) (x : MusterSt) (s : State) : (setMus n x s).host = s.host := by cases n <;> rfl
@[simp] theorem setMus_clks (n : Node) (x : MusterSt) (s : State) : (setMus n x s).clks = s.clks := by cases n <;> rfl
@[simp] theorem setMus_out (n : Node) (x : MusterSt) (s : State) : (setMus n x s).out = s.out := by cases n <;> rfl
@[simp] theorem setMus_free (n : Node) (x : MusterSt) (s : State) : (setMus n x s).free = s.free := by cases n <;> rfl
@[simp] theorem modOp_pending (t : Nat) (f : Opstat → Opstat) (s : State) : (modOp t f s).pending = s.pending := by unfold modOp; split <;> rfl
@[simp] theorem modOp_straps (t : Nat) (f : Opstat → Opstat) (s : State) : (modOp t f s).straps = s.straps := by unfold modOp; split <;> rfl
@[simp] theorem modOp_regs (t : Nat) (f : Opstat → Opstat) (s : State) : (modOp t f s).regs = s.regs := by unfold modOp; split <;> rfl
@[simp] theorem modOp_staged (t : Nat) (f : Opstat → Opstat) (s : State) : (modOp t f s).staged = s.staged := by unfold modOp; split <;> rfl
@[simp] theorem modOp_keel (t : Nat) (f : Opstat → Opstat) (s : State) : (modOp t f s).keel = s.keel := by unfold modOp; split <;> rfl
@[simp] theorem modOp_evx (t : Nat) (f : Opstat → Opstat) (s : State) : (modOp t f s).evx = s.evx := by unfold modOp; split <;> rfl
@[simp] theorem modOp_ptp (t : Nat) (f : Opstat → Opstat) (s : State) : (modOp t f s).ptp = s.ptp := by unfold modOp; split <;> rfl
@[simp] theorem modOp_outs (t : Nat) (f : Opstat → Opstat) (s : State) : (modOp t f s).outs = s.outs := by unfold modOp; split <;> rfl
@[simp] theorem modOp_tics (t : Nat) (f : Opstat → Opstat) (s : State) : (modOp t f s).tics = s.tics := by unfold modOp; split <;> rfl
@[simp] theorem modOp_ev (t : Nat) (f : Opstat → Opstat) (s : State) : (modOp t f s).ev = s.ev := by unfold modOp; split <;> rfl
@[simp] theorem modOp_mus (t : Nat) (f : Opstat → Opstat) (s : State) : (modOp t f s).mus = s.mus := by unfold modOp; split <;> rfl
@[simp] theorem modOp_evMus (t : Nat) (f : Opstat → Opstat) (s : State) : (modOp t f s).evMus = s.evMus := by unfold modOp; split <;> rfl
@[simp] theorem modOp_die (t : Nat) (f : Opstat → Opstat) (s : State) : (modOp t f s).die = s.die := by unfold modOp; split <;> rfl
@[simp] theorem modOp_cfg (t : Nat) (f : Opstat → Opstat) (s : State) : (modOp t f s).cfg = s.cfg := by unfold modOp; split <;> rfl
@[simp] theorem modOp_alm (t : Nat) (f : Opstat → Opstat) (s : State) : (modOp t f s).alm = s.alm := by unfold modOp; split <;> rfl
@[simp] theorem modOp_rt (t : Nat) (f : Opstat → Opstat) (s : State) : (modOp t f s).rt = s.rt := by unfold modOp; split <;> rfl
@[simp] theorem modOp_tw (t : Nat) (f : Opstat → Opstat) (s : State) : (modOp t f s).tw = s.tw := by unfold modOp; split <;> rfl
@[simp] theorem modOp_hl (t : Nat) (f : Opstat → Opstat) (s : State) : (modOp t f s).hl = s.hl := by unfold modOp; split <;> rfl
@[simp] theorem modOp_clks (t : Nat) (f : Opstat → Opstat) (s : State) : (modOp t f s).clks = s.clks := by unfold modOp; split <;> rfl
@[simp] theorem modOp_out (t : Nat) (f : Opstat → Opstat) (s : State) : (modOp t f s).out = s.out := by unfold modOp; split <;> rfl
@[simp] theorem modOp_free (t : Nat) (f : Opstat → Opstat) (s : State) : (modOp t f s).free = s.free := by unfold modOp; split <;> rfl

/-! Writes of registers are all one kind of write. -/
theorem wn_wr (a v : Nat) (s : State) : wn a v s = wr a (BitVec.ofNat 32 v) s := rfl
theorem wf_wr (a l n v : Nat) (s : State) : wf a l n v s = wr a (setBits (rd s a) l n v) s := rfl
theorem setFlag_wr (a i : Nat) (s : State) : setFlag a i s = wr a (rd s a ||| BitVec.ofNat 32 (2 ^ i)) s := rfl
theorem clrFlag_wr (a i : Nat) (s : State) : clrFlag a i s = wr a (rd s a &&& ~~~ BitVec.ofNat 32 (2 ^ i)) s := rfl
theorem bump_wr (a : Nat) (s : State) : bump a s = wr a (rd s a + 1) s := rfl
theorem bumpBy_wr (a k : Nat) (s : State) : bumpBy a k s = wr a (rd s a + BitVec.ofNat 32 k) s := rfl

/-- A register reads as it was last written; every other one as before. -/
theorem rd_wr (a b : Nat) (v : Word) (s : State) : rd (wr a v s) b = if b = a then v else rd s b := by
  unfold rd wr
  dsimp only
  by_cases h : b = a
  · subst h; split <;> simp_all
  · simp only [if_neg h]; split
    · rw [tfind_tdel_ne _ h]
    · rw [tfind_tput_ne _ _ h]

@[simp] theorem rd_wr_self (a : Nat) (v : Word) (s : State) : rd (wr a v s) a = v := by simp [rd_wr]
theorem rd_wr_ne {a b : Nat} (v : Word) (s : State) (h : b ≠ a) : rd (wr a v s) b = rd s b := by simp [rd_wr, h]

/-- The stored bits of a register depend on the register table alone. -/
theorem rd_congr {s t : State} (h : t.regs = s.regs) (a : Nat) : rd t a = rd s a := by simp [rd, h]

theorem bit_or_pow (w : Word) (i j : Nat) (h : i < 32) :
    bit (w ||| BitVec.ofNat 32 (2 ^ i)) j = (bit w j || decide (j = i)) := by
  unfold bit
  simp only [BitVec.getLsbD_or, BitVec.getLsbD_ofNat, Nat.testBit_two_pow]
  by_cases hj : j = i
  · subst hj; simp [h]
  · simp [hj, Ne.symm hj]

/-- A sticky bit reads 1 once it is set. -/
@[simp] theorem flag_setFlag (a i : Nat) (s : State) (h : i < 32) : flag (setFlag a i s) a i = true := by
  unfold flag setFlag
  rw [rd_wr_self, bit_or_pow _ _ _ h]
  simp

/-- Setting a sticky bit clears no bit of any register. -/
theorem flag_setFlag_mono {a i b j : Nat} {s : State} (h : flag s b j = true) : flag (setFlag a i s) b j = true := by
  unfold flag setFlag at *
  rw [rd_wr]
  split
  · rename_i e; subst e; simp_all [bit]
  · exact h

@[simp] theorem nd_setNd (n m : Node) (x : NodeSt) (s : State) : nd (setNd n x s) m = if m = n then x else nd s m := by
  cases n <;> cases m <;> rfl
@[simp] theorem mus_setMus (n m : Node) (x : MusterSt) (s : State) : mus (setMus n x s) m = if m = n then x else mus s m := by
  cases n <;> cases m <;> rfl

/-- What a state with the same time sides reads of a node. -/
theorem nd_congr {s t : State} (h1 : t.keel = s.keel) (h2 : t.evx = s.evx) (n : Node) : nd t n = nd s n := by
  cases n <;> simp [nd, h1, h2]

@[simp] theorem nd_wr (n : Node) (a : Nat) (v : Word) (s : State) : nd (wr a v s) n = nd s n := by cases n <;> rfl
@[simp] theorem nd_emit (n : Node) (o : Out) (s : State) : nd (emit o s) n = nd s n := by cases n <;> rfl
@[simp] theorem mus_wr (n : Node) (a : Nat) (v : Word) (s : State) : mus (wr a v s) n = mus s n := by cases n <;> rfl
@[simp] theorem mus_emit (n : Node) (o : Out) (s : State) : mus (emit o s) n = mus s n := by cases n <;> rfl

theorem forAll_nil {α : Type} (f : α → State → State) (s : State) : forAll [] f s = s := rfl
theorem forAll_cons {α : Type} (x : α) (l : List α) (f : α → State → State) (s : State) :
    forAll (x :: l) f s = forAll l f (f x s) := rfl

/-- What every application leaves alone, a loop of applications leaves alone. -/
theorem forAll_part {α β : Type} (p : State → β) (l : List α) (f : α → State → State) (h : ∀ x s, p (f x s) = p s) (s : State) :
    p (forAll l f s) = p s := by
  unfold forAll
  induction l generalizing s with
  | nil => rfl
  | cons x r ih => simp [ih, h]

theorem whenDo_part {β : Type} (p : State → β) (c : Bool) (f : State → State) (h : ∀ s, p (f s) = p s) (s : State) :
    p (whenDo c f s) = p s := by
  unfold whenDo; split <;> simp [h]

/-- What a loop keeps once it holds. -/
theorem forAll_keeps {α : Type} (P : State → Prop) (l : List α) (f : α → State → State) (h : ∀ x s, P s → P (f x s)) (s : State)
    (hs : P s) : P (forAll l f s) := by
  unfold forAll
  induction l generalizing s with
  | nil => exact hs
  | cons x r ih => exact ih _ (h _ _ hs)

end Sys2Proof.Laws
end

