-- ==== Sys2Proof/Laws/Event.lean ====
section
/-! SUPPORT. What the handling of an event can do (R396 to R404): it changes counters and flags of the ERR and HLTH blocks, the
health side, and the outbox; nothing else. -/

namespace Sys2Proof.Laws
open Sys2Proof.Machine

/-- The state with the parts that an event may change put at their reset values. -/
def calm (s : State) : State := { s with regs := [], hl := {}, out := [] }

/-- Every register outside the ERR and HLTH blocks. -/
abbrev outside (a : Nat) : Prop := a < 0x20000 ∨ 0x40000 ≤ a

/-- Two states between which only what an event may change has changed. -/
def EventOnly (s t : State) : Prop := calm t = calm s ∧ (∀ a, outside a → rd t a = rd s a) ∧ s.out <:+ t.out

theorem EventOnly.refl (s : State) : EventOnly s s := ⟨rfl, fun _ _ => rfl, List.suffix_refl _⟩

theorem EventOnly.trans {s t u : State} (h : EventOnly s t) (k : EventOnly t u) : EventOnly s u :=
  ⟨k.1.trans h.1, fun a ha => (k.2.1 a ha).trans (h.2.1 a ha), h.2.2.trans k.2.2⟩

theorem eventOnly_wr (a : Nat) (v : Word) (s : State) (h : ¬ outside a) : EventOnly s (wr a v s) :=
  ⟨rfl, fun b hb => rd_wr_ne v s (fun e => h (e ▸ hb)), List.suffix_refl _⟩

theorem eventOnly_hl (x : HealthSt) (s : State) : EventOnly s { s with hl := x } :=
  ⟨rfl, fun _ _ => rfl, List.suffix_refl _⟩

theorem eventOnly_emit (o : Out) (s : State) : EventOnly s (emit o s) :=
  ⟨rfl, fun _ _ => rfl, List.suffix_cons _ _⟩

theorem eventOnly_whenDo (c : Bool) (f : State → State) (h : ∀ s, EventOnly s (f s)) (s : State) :
    EventOnly s (whenDo c f s) := by
  unfold whenDo; split
  · exact h s
  · exact .refl s

theorem eventOnly_classify (e : Event) (s : State) : EventOnly s (classify e s).2.2 := by
  unfold classify
  split
  · exact eventOnly_hl _ s
  · split
    · exact eventOnly_wr _ _ s (by decide)
    · exact eventOnly_hl _ s

theorem eventOnly_logLost (d : Nat) (s : State) (hd : d < 8) : EventOnly s (logLost d s) := by
  unfold logLost
  refine .trans (eventOnly_wr _ _ s ?_) (eventOnly_wr _ _ _ ?_) <;> simp only [outside, A.LOG_FILL, A.ERR_STAT] <;> omega

theorem eventOnly_logNew (e : Event) (l h : Bool) (dl : DieLog) (t : Nat) (s : State) (hd : e.die < 8) :
    EventOnly s (logWrite.logNew e l h dl t s) := by
  unfold logWrite.logNew
  dsimp only
  split
  · exact eventOnly_logLost _ s hd
  · refine .trans (eventOnly_hl _ s) (eventOnly_whenDo _ _ (fun s => eventOnly_wr _ _ s ?_) _)
    simp only [outside, A.LOG_FILL]; omega

theorem eventOnly_logWrite (e : Event) (l h : Bool) (s : State) (hd : e.die < 8) : EventOnly s (logWrite e l h s) := by
  unfold logWrite
  dsimp only
  split
  · refine .trans (eventOnly_hl _ s) (eventOnly_wr _ _ _ ?_)
    simp only [outside, A.LOG_FILL]; omega
  · refine .trans (eventOnly_hl _ s) (eventOnly_wr _ _ _ ?_)
    simp only [outside, A.LOG_FILL]; omega
  · exact eventOnly_logNew _ _ _ _ _ s hd

theorem eventOnly_scoreMirror (s : State) : EventOnly s (scoreMirror s) := by
  unfold scoreMirror
  refine eventOnly_whenDo _ _ (fun s => ?_) s
  unfold scoreOut mirrorOut
  split
  · exact eventOnly_whenDo _ _ (fun s => eventOnly_emit _ s) s
  · split
    · exact eventOnly_emit _ s
    · exact .refl s

theorem eventOnly_closeWindow (e : Event) (s : State) : EventOnly s (closeWindow e s) := by
  unfold closeWindow
  split
  · exact .refl s
  · split
    · exact .refl s
    · exact eventOnly_hl _ s

theorem eventOnly_closeDue (s : State) : EventOnly s (closeDue s) := eventOnly_hl _ s

theorem eventOnly_hist (i : Nat) (s : State) : EventOnly s (setFlag A.HLTH_HIST i s) :=
  eventOnly_wr _ _ s (by decide)

theorem eventOnly_setScore (v : Nat) (s : State) : EventOnly s (setScore v s) := by
  unfold setScore
  dsimp only
  exact .trans (.trans (eventOnly_hl _ s) (eventOnly_whenDo _ _ (fun s => eventOnly_scoreMirror s) _))
    (eventOnly_whenDo _ _ (fun s => eventOnly_hist _ s) _)

/-- One event of a die and a class that exist changes only what `EventOnly` allows. -/
theorem eventOnly_eventOne (e : Event) (s : State) (hd : e.die < 8) (hc : e.cls < 16) : EventOnly s (eventOne e s) := by
  have hcls (c : Nat) (h : c < 16) (s : State) : EventOnly s (bump (A.CLS_LASTING c) s) :=
    eventOnly_wr _ _ s (by simp only [outside, A.CLS_LASTING]; omega)
  have hev (c : Nat) (h : c < 16) (s : State) : EventOnly s (bump (A.CLS_EVENTS c) s) :=
    eventOnly_wr _ _ s (by simp only [outside, A.CLS_EVENTS]; omega)
  unfold eventOne
  dsimp only
  refine .trans ?_ (eventOnly_hl _ _)
  refine .trans ?_ (eventOnly_whenDo _ _ (fun s => .trans (eventOnly_hl _ s) (eventOnly_hist _ _)) _)
  refine .trans ?_ (eventOnly_whenDo _ _ (fun s => .trans (eventOnly_hl _ s) (eventOnly_hist _ _)) _)
  refine .trans ?_ (eventOnly_whenDo _ _ (fun s => eventOnly_setScore _ s) _)
  refine .trans ?_ (eventOnly_logWrite _ _ _ _ hd)
  refine .trans ?_ (eventOnly_whenDo _ _ (fun s => .trans (hcls _ hc s) (eventOnly_wr _ _ _ (by decide))) _)
  exact .trans (.trans (eventOnly_closeDue s) (eventOnly_classify e _)) (hev _ hc _)

/-- Changes in turn change only what `EventOnly` allows where each of them does. -/
theorem eventOnly_forAll {α : Type} (l : List α) (g : α → State → State) (h : ∀ a ∈ l, ∀ s, EventOnly s (g a s)) (s : State) :
    EventOnly s (forAll l g s) := by
  unfold forAll
  induction l generalizing s with
  | nil => exact .refl s
  | cons a l ih =>
    exact .trans (h a (by simp) s) (ih (fun b hb => h b (by simp [hb])) (g a s))

/-- So do the events of the sticky bits that it sets. -/
theorem eventOnly_seenEvents (n : Nat) (b s : State) : EventOnly s (seenEvents n b s) := by
  induction n generalizing b s with
  | zero => exact .refl s
  | succ n ih =>
    unfold seenEvents
    dsimp only
    split
    · exact .refl s
    · refine .trans (eventOnly_forAll _ _ (fun x hx s => ?_) s) (ih _ _)
      have hx := (List.mem_filter.mp hx).1
      refine eventOnly_eventOne _ s ?_ (by simp [regEvent])
      simp only [seenBits, List.cons_append, List.nil_append, List.mem_cons, List.mem_map] at hx
      rcases hx with rfl | rfl | ⟨i, -, rfl⟩ <;> simp [regEvent, dieOf, A.ERR_STAT, A.HLTH_HIST]

/-- Handling an event of a die and a class that exist changes only what `EventOnly` allows. -/
theorem eventOnly_event (e : Event) (s : State) (hd : e.die < 8) (hc : e.cls < 16) : EventOnly s (event e s) :=
  .trans (eventOnly_eventOne e s hd hc) (eventOnly_seenEvents _ _ _)

/-- A register outside the ERR and HLTH blocks reads as before. -/
theorem rd_event (e : Event) (s : State) (a : Nat) (hd : e.die < 8) (hc : e.cls < 16) (ha : outside a) :
    rd (event e s) a = rd s a := (eventOnly_event e s hd hc).2.1 a ha

theorem rd_raiseFlag (a i n c : Nat) (s : State) (b : Nat) (hd : dieOf a < 8) (hc : c < 16) (hb : outside b) :
    rd (raiseFlag a i n c s) b = rd (setFlag a i s) b := rd_event _ _ _ hd hc hb

theorem rd_countEvent (a n c : Nat) (s : State) (b : Nat) (hd : dieOf a < 8) (hc : c < 16) (hb : outside b) :
    rd (countEvent a n c s) b = rd (bump a s) b := rd_event _ _ _ hd hc hb

/-- A flag raised with its event reads 1. -/
theorem flag_raiseFlag (a i n c : Nat) (s : State) (hd : dieOf a < 8) (hc : c < 16) (ha : outside a) (hi : i < 32) :
    flag (raiseFlag a i n c s) a i = true := by
  rw [flag, rd_raiseFlag a i n c s a hd hc ha]; exact flag_setFlag a i s hi

theorem calm_wr (a : Nat) (v : Word) (s : State) : calm (wr a v s) = calm s := rfl
theorem calm_hl (x : HealthSt) (s : State) : calm { s with hl := x } = calm s := rfl
theorem calm_bump (a : Nat) (s : State) : calm (bump a s) = calm s := rfl
theorem calm_setFlag (a i : Nat) (s : State) : calm (setFlag a i s) = calm s := rfl
theorem calm_modLog (d f) (s : State) : calm (modLog d f s) = calm s := rfl

theorem calm_logNew (e l h dl t) (s : State) : calm (logWrite.logNew e l h dl t s) = calm s := by
  unfold logWrite.logNew
  dsimp only
  split
  · rfl
  · rw [whenDo_part calm _ _ (fun s => calm_bump _ s), calm_modLog]

theorem calm_logWrite (e l h) (s : State) : calm (logWrite e l h s) = calm s := by
  unfold logWrite
  dsimp only
  split
  · rw [calm_bump, calm_modLog]
  · rw [calm_bump, calm_modLog]
  · exact calm_logNew ..

/-- One event leaves every part that `calm` keeps. -/
theorem calm_eventOne (e : Event) (s : State) : calm (eventOne e s) = calm s := by
  unfold eventOne
  dsimp only
  rw [calm_hl, whenDo_part calm _ _ (fun s => by rw [calm_setFlag, calm_hl]),
    whenDo_part calm _ _ (fun s => by rw [calm_setFlag, calm_hl]), whenDo_part calm _ _ (fun s => (eventOnly_setScore _ s).1),
    calm_logWrite, whenDo_part calm _ _ (fun s => by rw [calm_setFlag, calm_bump]), calm_bump,
    (eventOnly_classify e _).1, (eventOnly_closeDue s).1]

/-- Handling any event leaves every part that `calm` keeps. -/
theorem calm_event (e : Event) (s : State) : calm (event e s) = calm s :=
  (eventOnly_seenEvents _ _ _).1.trans (calm_eventOne e s)

/-- A part that `calm` keeps is as before an event. -/
theorem event_part {β : Type} (f : State → β) (h : ∀ s, f (calm s) = f s) (e : Event) (s : State) : f (event e s) = f s := by
  rw [← h, calm_event, h]

@[simp] theorem event_pending (e : Event) (s : State) : (event e s).pending = s.pending := event_part State.pending (fun _ => rfl) e s
@[simp] theorem event_straps (e : Event) (s : State) : (event e s).straps = s.straps := event_part State.straps (fun _ => rfl) e s
@[simp] theorem event_staged (e : Event) (s : State) : (event e s).staged = s.staged := event_part State.staged (fun _ => rfl) e s
@[simp] theorem event_keel (e : Event) (s : State) : (event e s).keel = s.keel := event_part State.keel (fun _ => rfl) e s
@[simp] theorem event_evx (e : Event) (s : State) : (event e s).evx = s.evx := event_part State.evx (fun _ => rfl) e s
@[simp] theorem event_ptp (e : Event) (s : State) : (event e s).ptp = s.ptp := event_part State.ptp (fun _ => rfl) e s
@[simp] theorem event_outs (e : Event) (s : State) : (event e s).outs = s.outs := event_part State.outs (fun _ => rfl) e s
@[simp] theorem event_tics (e : Event) (s : State) : (event e s).tics = s.tics := event_part State.tics (fun _ => rfl) e s
@[simp] theorem event_ev (e : Event) (s : State) : (event e s).ev = s.ev := event_part State.ev (fun _ => rfl) e s
@[simp] theorem event_mus (e : Event) (s : State) : (event e s).mus = s.mus := event_part State.mus (fun _ => rfl) e s
@[simp] theorem event_evMus (e : Event) (s : State) : (event e s).evMus = s.evMus := event_part State.evMus (fun _ => rfl) e s
@[simp] theorem event_die (e : Event) (s : State) : (event e s).die = s.die := event_part State.die (fun _ => rfl) e s
@[simp] theorem event_cfg (e : Event) (s : State) : (event e s).cfg = s.cfg := event_part State.cfg (fun _ => rfl) e s
@[simp] theorem event_alm (e : Event) (s : State) : (event e s).alm = s.alm := event_part State.alm (fun _ => rfl) e s
@[simp] theorem event_rt (e : Event) (s : State) : (event e s).rt = s.rt := event_part State.rt (fun _ => rfl) e s
@[simp] theorem event_tw (e : Event) (s : State) : (event e s).tw = s.tw := event_part State.tw (fun _ => rfl) e s
@[simp] theorem event_host (e : Event) (s : State) : (event e s).host = s.host := event_part State.host (fun _ => rfl) e s
@[simp] theorem event_clks (e : Event) (s : State) : (event e s).clks = s.clks := event_part State.clks (fun _ => rfl) e s
@[simp] theorem event_free (e : Event) (s : State) : (event e s).free = s.free := event_part State.free (fun _ => rfl) e s
@[simp] theorem raiseFlag_pending (a i n c : Nat) (s : State) : (raiseFlag a i n c s).pending = s.pending := by simp [raiseFlag, setFlag_wr]
@[simp] theorem raiseFlag_straps (a i n c : Nat) (s : State) : (raiseFlag a i n c s).straps = s.straps := by simp [raiseFlag, setFlag_wr]
@[simp] theorem raiseFlag_staged (a i n c : Nat) (s : State) : (raiseFlag a i n c s).staged = s.staged := by simp [raiseFlag, setFlag_wr]
@[simp] theorem raiseFlag_keel (a i n c : Nat) (s : State) : (raiseFlag a i n c s).keel = s.keel := by simp [raiseFlag, setFlag_wr]
@[simp] theorem raiseFlag_evx (a i n c : Nat) (s : State) : (raiseFlag a i n c s).evx = s.evx := by simp [raiseFlag, setFlag_wr]
@[simp] theorem raiseFlag_ptp (a i n c : Nat) (s : State) : (raiseFlag a i n c s).ptp = s.ptp := by simp [raiseFlag, setFlag_wr]
@[simp] theorem raiseFlag_outs (a i n c : Nat) (s : State) : (raiseFlag a i n c s).outs = s.outs := by simp [raiseFlag, setFlag_wr]
@[simp] theorem raiseFlag_tics (a i n c : Nat) (s : State) : (raiseFlag a i n c s).tics = s.tics := by simp [raiseFlag, setFlag_wr]
@[simp] theorem raiseFlag_ev (a i n c : Nat) (s : State) : (raiseFlag a i n c s).ev = s.ev := by simp [raiseFlag, setFlag_wr]
@[simp] theorem raiseFlag_mus (a i n c : Nat) (s : State) : (raiseFlag a i n c s).mus = s.mus := by simp [raiseFlag, setFlag_wr]
@[simp] theorem raiseFlag_evMus (a i n c : Nat) (s : State) : (raiseFlag a i n c s).evMus = s.evMus := by simp [raiseFlag, setFlag_wr]
@[simp] theorem raiseFlag_die (a i n c : Nat) (s : State) : (raiseFlag a i n c s).die = s.die := by simp [raiseFlag, setFlag_wr]
@[simp] theorem raiseFlag_cfg (a i n c : Nat) (s : State) : (raiseFlag a i n c s).cfg = s.cfg := by simp [raiseFlag, setFlag_wr]
@[simp] theorem raiseFlag_alm (a i n c : Nat) (s : State) : (raiseFlag a i n c s).alm = s.alm := by simp [raiseFlag, setFlag_wr]
@[simp] theorem raiseFlag_rt (a i n c : Nat) (s : State) : (raiseFlag a i n c s).rt = s.rt := by simp [raiseFlag, setFlag_wr]
@[simp] theorem raiseFlag_tw (a i n c : Nat) (s : State) : (raiseFlag a i n c s).tw = s.tw := by simp [raiseFlag, setFlag_wr]
@[simp] theorem raiseFlag_host (a i n c : Nat) (s : State) : (raiseFlag a i n c s).host = s.host := by simp [raiseFlag, setFlag_wr]
@[simp] theorem raiseFlag_clks (a i n c : Nat) (s : State) : (raiseFlag a i n c s).clks = s.clks := by simp [raiseFlag, setFlag_wr]
@[simp] theorem raiseFlag_free (a i n c : Nat) (s : State) : (raiseFlag a i n c s).free = s.free := by simp [raiseFlag, setFlag_wr]
@[simp] theorem countEvent_pending (a n c : Nat) (s : State) : (countEvent a n c s).pending = s.pending := by simp [countEvent, bump_wr]
@[simp] theorem countEvent_straps (a n c : Nat) (s : State) : (countEvent a n c s).straps = s.straps := by simp [countEvent, bump_wr]
@[simp] theorem countEvent_staged (a n c : Nat) (s : State) : (countEvent a n c s).staged = s.staged := by simp [countEvent, bump_wr]
@[simp] theorem countEvent_keel (a n c : Nat) (s : State) : (countEvent a n c s).keel = s.keel := by simp [countEvent, bump_wr]
@[simp] theorem countEvent_evx (a n c : Nat) (s : State) : (countEvent a n c s).evx = s.evx := by simp [countEvent, bump_wr]
@[simp] theorem countEvent_ptp (a n c : Nat) (s : State) : (countEvent a n c s).ptp = s.ptp := by simp [countEvent, bump_wr]
@[simp] theorem countEvent_outs (a n c : Nat) (s : State) : (countEvent a n c s).outs = s.outs := by simp [countEvent, bump_wr]
@[simp] theorem countEvent_tics (a n c : Nat) (s : State) : (countEvent a n c s).tics = s.tics := by simp [countEvent, bump_wr]
@[simp] theorem countEvent_ev (a n c : Nat) (s : State) : (countEvent a n c s).ev = s.ev := by simp [countEvent, bump_wr]
@[simp] theorem countEvent_mus (a n c : Nat) (s : State) : (countEvent a n c s).mus = s.mus := by simp [countEvent, bump_wr]
@[simp] theorem countEvent_evMus (a n c : Nat) (s : State) : (countEvent a n c s).evMus = s.evMus := by simp [countEvent, bump_wr]
@[simp] theorem countEvent_die (a n c : Nat) (s : State) : (countEvent a n c s).die = s.die := by simp [countEvent, bump_wr]
@[simp] theorem countEvent_cfg (a n c : Nat) (s : State) : (countEvent a n c s).cfg = s.cfg := by simp [countEvent, bump_wr]
@[simp] theorem countEvent_alm (a n c : Nat) (s : State) : (countEvent a n c s).alm = s.alm := by simp [countEvent, bump_wr]
@[simp] theorem countEvent_rt (a n c : Nat) (s : State) : (countEvent a n c s).rt = s.rt := by simp [countEvent, bump_wr]
@[simp] theorem countEvent_tw (a n c : Nat) (s : State) : (countEvent a n c s).tw = s.tw := by simp [countEvent, bump_wr]
@[simp] theorem countEvent_host (a n c : Nat) (s : State) : (countEvent a n c s).host = s.host := by simp [countEvent, bump_wr]
@[simp] theorem countEvent_clks (a n c : Nat) (s : State) : (countEvent a n c s).clks = s.clks := by simp [countEvent, bump_wr]
@[simp] theorem countEvent_free (a n c : Nat) (s : State) : (countEvent a n c s).free = s.free := by simp [countEvent, bump_wr]
@[simp] theorem event_nd (n : Node) (e : Event) (s : State) : nd (event e s) n = nd s n := by cases n <;> simp [nd]
@[simp] theorem event_mus' (n : Node) (e : Event) (s : State) : mus (event e s) n = mus s n := by cases n <;> simp [mus]

end Sys2Proof.Laws
end

