-- ==== Sys2Proof/Laws/Memory.lean ====
section
/-! SUPPORT. The memories and the register store: every operation keeps the canonical form; what a read gives after a write. -/

namespace Sys2Proof.Laws
open Sys2Proof.Machine

@[simp] theorem putBytes_nil (a : Nat) (t : Table Byte) : putBytes a [] t = t := rfl

@[simp] theorem putBytes_cons (a : Nat) (b : Byte) (r : List Byte) (t : Table Byte) :
    putBytes a (b :: r) t = putBytes (a + 1) r (tset 0 t a b) := rfl

/-- Writing bytes keeps a memory in canonical form. -/
theorem putBytes_wf {t : Table Byte} (h : Memory.wf t = true) (a : Nat) (l : List Byte) : Memory.wf (putBytes a l t) = true := by
  induction l generalizing a t with
  | nil => exact h
  | cons b r ih => exact ih (twf_tset h a b) (a + 1)

/-- Zeroing a range keeps a memory in canonical form. -/
theorem zeroRange_wf {t : Table Byte} (h : Memory.wf t = true) (lo hi : Nat) : Memory.wf (zeroRange lo hi t) = true := twf_tkeep h _

/-- So does keeping the bytes that a test picks. -/
theorem filter_wf {t : Table Byte} (h : Memory.wf t = true) (p : Nat × Byte → Bool) : Memory.wf (t.filter p) = true := by
  simp only [Memory.wf, twf, Bool.and_eq_true, tsorted_iff, List.all_eq_true] at h ⊢
  exact ⟨h.1.filter _, fun e he => h.2 e ((List.mem_filter.mp he).1)⟩

/-- A byte read after bytes are written: the byte written there, or what stood there before. -/
theorem tget_putBytes (a : Nat) (l : List Byte) (t : Table Byte) (x : Nat) :
    tget 0 (putBytes a l t) x = if a ≤ x ∧ x < a + l.length then l.getD (x - a) 0 else tget 0 t x := by
  induction l generalizing a t with
  | nil => rw [if_neg (by rw [List.length_nil]; omega)]; rfl
  | cons b r ih =>
    rw [putBytes_cons, ih, tget_tset]
    simp only [List.length_cons]
    by_cases hx : x = a
    · subst hx
      rw [if_neg (by omega), if_pos rfl, if_pos ⟨by omega, by omega⟩]
      simp
    · by_cases h1 : a + 1 ≤ x ∧ x < a + 1 + r.length
      · rw [if_pos h1, if_pos ⟨by omega, by omega⟩]
        obtain ⟨k, hk⟩ : ∃ k, x - a = k + 1 := ⟨x - a - 1, by omega⟩
        rw [hk, List.getD_cons_succ]
        congr 1; omega
      · rw [if_neg h1, if_neg hx, if_neg (by omega)]

/-- Reading back what has just been written. -/
theorem getBytes_putBytes (a : Nat) (l : List Byte) (t : Table Byte) : getBytes (putBytes a l t) a l.length = l := by
  apply List.ext_getElem
  · simp [getBytes]
  · intro i h1 h2
    simp only [getBytes, List.getElem_map, List.getElem_range, tget_putBytes]
    rw [if_pos ⟨by omega, by omega⟩]
    simp [List.getD_eq_getElem?_getD, h2]

/-- Writing a register keeps the register store in canonical form. -/
theorem wr_regsWf {s : State} (h : regsWf s.regs = true) (a : Nat) (v : Word) : regsWf (wr a v s).regs = true := by
  simp only [regsWf, wr, Bool.and_eq_true, tsorted_iff, List.all_eq_true] at h ⊢
  split
  · exact ⟨h.1.filter _, fun e he => h.2 e ((List.mem_filter.mp he).1)⟩
  · rename_i hv
    refine ⟨tput_pairwise h.1, fun e he => ?_⟩
    rcases mem_tput he with rfl | he
    · simpa using hv
    · exact h.2 e he

end Sys2Proof.Laws
end

