-- ==== Sys2Proof/Tests/Slice0.lean ====
section
/-! SUPPORT. The author's tests: values the spec works out itself, ill-formed commands that WellFormed refuses, and for each
statement with hypotheses a state and operands that meet them. Each test names the place its values come from. -/

open Sys2Proof Sys2Proof.Machine

namespace Sys2Proof.Tests

section
set_option Elab.async false

/-! Values of the spec. -/

/-- R32, the example: FT 3600.000144000 s. -/
theorem test_ft64 : fabFt64 ⟨3600, 144000, 0⟩ = 0x0384000232800000#64 := by decide +kernel

/-- R34, the example across the wrap: b is 2 µs after a. -/
theorem test_difference_wraps :
    ftDiff (fabFt64 ⟨262144, 1000, 0⟩) (fabFt64 ⟨262143, 999999000, 0⟩) = 2000 * 65536 := by decide +kernel

/-- R36: a time just past the wrap of 18 bits of seconds is widened forward. -/
theorem test_widen_wraps : ftWiden (fabFt64 ⟨262144, 1000, 0⟩) ⟨262143, 999999000, 0⟩ = ⟨262144, 1000, 0⟩ := by decide +kernel

/-- R46, the worked example: x and y are INDISTINCT, x and y are each before z. -/
theorem test_order_verdicts :
    let x : Stamp := ⟨fabFt64 ⟨5000, 200000, 0⟩, 1260, false, true⟩
    let y : Stamp := ⟨fabFt64 ⟨5000, 200001, 0x80000000⟩, 1310, false, true⟩
    let t : Stamp := ⟨fabFt64 ⟨5000, 200005, 0⟩, 1220, false, true⟩
    orderVerdict x y = .indistinct ∧ orderVerdict x t = .before ∧ orderVerdict y t = .before ∧
    orderVerdict t y = .after ∧ orderVerdict x { t with unsure := true } = .indistinct := by decide +kernel

/-- R50: the check value of the message CRC over "123456789". -/
theorem test_crc32 : crc32 [0x31, 0x32, 0x33, 0x34, 0x35, 0x36, 0x37, 0x38, 0x39] = 0xCBF43926 := by decide +kernel

/-- R77, the worked pull: of 131,072 units the first intercalation takes 3,276. -/
theorem test_pull_slice :
    let s := modIcl .keel (fun i => { i with known := true, remain := 131072 }) { State.reset with tw := { State.reset.tw with primary := true } }
    (icalAnnounce s).keel.icl.pend.map (fun x => x.q) = [3276] ∧ (icalAnnounce s).keel.icl.remain = 131072 - 3276 := by
  decide +kernel

/-- R386, the example: g^5 × 0x80 = 0xCD, and Q of the six bytes. -/
theorem test_parity : gfMulG 5 0x80 = 0xCD ∧ (0x01 ^^^ gfMulG 1 0x02 ^^^ gfMulG 5 0x80) = 0xC8 := by decide +kernel

/-- R325, the example: DET_KEY with firmware 4.2.17. -/
theorem test_det_key :
    detKey { State.reset with clks := { State.reset.clks with fw := 0x04020011 } } = 0x000000B1040200110000000700000A01#128 := by
  decide +kernel

/-- R444, the worked LOAD: both words of an OPSTAT entry while RUNNING and when ENDED. -/
theorem test_opstat_words :
    let run : State := { State.reset with host := { State.reset.host with
      opstat := [(452, { state := .running, progress := 92160, serial := 0x3A07, block := 14 })] } }
    let fin : State := { State.reset with host := { State.reset.host with
      opstat := [(452, { state := .ended, progress := 184320, serial := 0x3A07, block := 14 })] } }
    peek run 0x18E20 = 0x04016800#32 ∧ peek run 0x18E24 = 0x3A070E00#32 ∧ peek fin 0x18E20 = 0x0802D000#32 := by
  decide +kernel

/-- One block of a bale (the model's Mode counts the blocks). -/
abbrev oneBlock (inF outF : Nat) : Mode :=
  { inF := inF, outF := outF, rkind := 0, div := 1, saturate := false, stoch := false, ef := true, blocks := 1 }

/-- R246 to R261, the worked bale "MXFP4 with error feedback": the output block, one saturated element, the residual block. -/
theorem test_bale_mxfp4 :
    let f := formBale (oneBlock 6 6) [⟨6, [0x7F, 0x3E, 0x71] ++ List.replicate 14 0⟩, ⟨6, [0x80, 0x25, 0xB0] ++ List.replicate 14 0⟩]
      none ⟨0, 0, 0, 0, 17, 0⟩
    f.payload = [0x7E, 0x76, 0x72] ++ List.replicate 14 0 ∧ f.cnt.sat = 1 ∧
    newResidual (oneBlock 6 6) none f = [0x76, 0x78] ++ List.replicate 31 0 := by decide +kernel

/-- R246 to R261, the worked bale "S1 into T2": the output block and the residual block. -/
theorem test_bale_s1_t2 :
    let f := formBale (oneBlock 9 8) [⟨9, [0x7D, 0x44, 0x44, 0x44, 0x44]⟩, ⟨9, [0x7C, 0xDD, 0xDD, 0xDD, 0xDD]⟩, ⟨9, [0x7D, 0x33, 0x33, 0x33, 0x33]⟩]
      none ⟨0, 0, 0, 0, 0, 0⟩
    f.payload = 0x7D :: List.replicate 8 0x40 ∧
    newResidual (oneBlock 9 8) none f = 0x74 :: (List.replicate 8 [0x78, 0xF8, 0x78, 0xF8]).flatten := by decide +kernel

/-- R250, the worked bale "BF16 in fixed order": 2^24, 1 and -2^24 give +0, and in the order 0, 2, 1 they give 1.0. -/
theorem test_fixed_order :
    let a : Fp := bf16Read 0x4B80; let b : Fp := bf16Read 0x3F80; let c : Fp := bf16Read 0xCB80
    bf16Write (fpOne' (oneBlock 1 1) [a, b, c] none) = 0x0000 ∧ bf16Write (fpOne' (oneBlock 1 1) [a, c, b] none) = 0x3F80 := by
  decide +kernel

/-- R299: a signal past 65,535 is not applied and sets ERR; one to 65,535 is applied. -/
theorem test_tally_range :
    let s := modTally 0 (fun t => { t with value := 65530 }) State.reset
    (tallyOf (applySignal 0 0 5 s) 0).value = 65535 ∧ (tallyOf (applySignal 0 0 6 s) 0).value = 65530 ∧
    (tallyOf (applySignal 0 0 6 s) 0).err = true := by decide +kernel

/-- R300: a TAKE at the head takes what it waits for, and what stands behind an unsatisfied head is not tested. -/
theorem test_waiters_in_order :
    drainWaiters [⟨1, true, 3⟩, ⟨2, true, 3⟩, ⟨3, false, 1⟩] 5 = ([1], 2, [⟨2, true, 3⟩, ⟨3, false, 1⟩]) := by decide +kernel

/-- R37: an epoch set at a package that is no primary root changes nothing but its status. -/
theorem test_epoch_not_root :
    (match exec (.timeEpochSet 1#32) State.reset with
     | .next t => some (t.keel.clk.epochStatus, t.keel.clk.now)
     | _ => none) = some (.notRoot, ⟨0, 0, 0⟩) := by decide +kernel

/-- R63, the worked exchange: fwd 153.590 ns, rev 150.850 ns and ASYM -0.240 ns give x = 1.250 ns and dly = 152.220 ns, to
a unit of 2^-16 ns. -/
theorem test_exchange_values :
    let u (ps : Int) : Int := psU ps
    (divRNE (u 153590 - u 150850 + u (-240)) 2 - u 1250).natAbs ≤ 1 ∧ (divRNE (u 153590 + u 150850) 2 - u 152220).natAbs ≤ 1 := by
  decide +kernel

/-! Ill-formed commands: one for each check. -/

theorem test_wf_refuses :
    [Instr.syncSend .keel 513 0, .syncSend .evxus 64 0, .syncSend .keel 0 64, .ppsPulse 4 0, .ppsPulse 0 60000, .outputEdge 2,
     .ticStart 4, .launchPulseEnd 8, .eventEdge 16 false 0, .adjArrive 64, .slotPulse 8, .tallySet 4 0, .tcamLock 5 0, .krefLoss 8,
     .bankClearDone 5 256, .gateCancel 5 16, .dmaPreempt 5 16, .engineReset 5 108, .stackPatrolScrub 4 0 [], .updResume 64,
     .prepareVotesDone 64, .partitionReset 64, .msixMessage 4, .spillOn 0 4, .spillOn 512 3, .probeAnswer 2,
     .heartbeatReceive 3 false 0 0 false 0, .heartbeatReceive 0 false 0 0 false 4, .convoyLossReceive 8 0, .parityAck 8 0 0,
     .parityDelta 0 0 0 2 2 ⟨[], {}⟩, .rehNow 16, .condFence 32 0, .circuitFail 64, .registerWrite 0 { size := 9 } 0,
     .registerWrite 0x04001000 {} 0, .rcCounterRead ⟨0, 9⟩, .pcieFlr ⟨3, 0⟩, .tapLatWrite 0 3 0, .ptpTxqFind 2 0, .signalArrival 0 10368, .clockStretch 1 [⟨0, 8, []⟩] [] [],
     .monitorUpdate .keel false (List.replicate 9 none), .bankApertureAccess 5 0 0 (.read none), .baleIngress 0 ⟨4, []⟩].all (fun c => !c.wf) = true := by decide +kernel

/-- Port 512 is the twin port, and partition 0x7F is the hall in a commit. -/
theorem test_wf_accepts :
    [Instr.syncSend .keel 512 63, .commitActivate 0x7F 0, .launchPulseEnd 7, .registerWrite 0x04000FFC {} 0].all (fun c => c.wf) = true := by
  decide +kernel

/-! States and operands that meet the hypotheses of each statement. -/

/-- The state after reset. -/
abbrev z : State := State.reset
/-- Engines 3 to 7 of die 5 and the DMA engine 0x58 of die 5 and of die 6 bound to partition 1. -/
abbrev boundW : State := { z with cfg := { z.cfg with owners := [(.engine 5 3, 1), (.engine 5 4, 1), (.engine 5 5, 1), (.engine 5 7, 1), (.engine 5 0x58, 1), (.engine 6 0x58, 1)] } }
/-- Registers given values. -/
abbrev regsOf (l : List (Nat × Word)) (s : State) : State := l.foldl (fun s e => wr e.1 e.2 s) s
/-- A neighbour that is there. -/
abbrev nbrW : Nbr := { heard := true, twoWay := true, node := 7, port := 3 }
/-- A TCAM entry that sends every frame of any partition and class to port 16. -/
abbrev fwdW : TcamEntry := BitVec.ofNat 128 (2 ^ 89 + 2 ^ 88 + 127 * 2 ^ 74 + 2 ^ 61 + 16 * 2 ^ 48)
/-- The body of a frame in front of its HCRC: DST, SRC, class, PART, length, TTL, FLOW. -/
abbrev frameHeadW (cls ttl : Nat) : Raw := toBE 4 0x5000 ++ toBE 4 0x7000 ++ toBE 1 cls ++ [0] ++ toBE 2 2 ++ toBE 1 ttl ++ [0]
/-- A frame with a payload of two bytes. -/
abbrev frameW (cls ttl : Nat) : Raw :=
  let h := frameHeadW cls ttl
  let b := h ++ toBE 2 (crc16 h) ++ [1, 2]
  b ++ toBE 4 (crc32 b)
/-- A bale of tree 5 from node 7. -/
abbrev baleW (down : Bool) : Bale :=
  { variant := 0, tree := 5, format := 9, late := false, invalid := false, poison := false, clamped := false, dipSuspect := false,
    down := down, bale := 2, step := 0, contrib := 1, source := 7, digestFrag := 0, invCause := 0, payload := List.replicate (payloadLen 9) 0 }
/-- Record 3 of die 5 serves tree 5 with node 7 as its child. -/
abbrev wsW : State := { z with
  cfg := { z.cfg with
    owners := [(.tree 5, 1), (.dest 8, 1), (.dest 16, 1)]
    ws := [(3, { enable := true, tree := 5, format := 9, engine := 3, bank := 1, dest := [8, 16], children := [⟨7, 1, [7]⟩] })] }
  die := { z.die with banks := [(1, { owner := 3 })], ready := [true, true] } }
/-- A TCAM entry that traps every frame of any partition and class. -/
abbrev trapW : TcamEntry := BitVec.ofNat 128 (2 ^ 89 + 2 ^ 88 + 127 * 2 ^ 74 + 2 ^ 63)
/-- A binding of group 2: two members at port 8. -/
abbrev bindW : GroupCfg := { members := [⟨7, 8, false⟩, ⟨8, 8, false⟩], uplinks := [some 16, none], parents := [16] }
/-- Group 2 bound and enabled, ports 16 and 8 up. -/
abbrev grpW : State := setFlag (A.GRP_CFG 2) 16 (modGrp .keel 2 (fun g => { g with cfg := bindW })
  (modPort .keel 16 (fun x => { x with linkUp := true, role := .follows })
    (modPort .keel 8 (fun x => { x with linkUp := true, role := .serves }) { z with tw := { z.tw with primary := true } })))
/-- A single arrival that has been counted. -/
abbrev inW (n : BitVec 20) : Counted := ⟨n, false, 1, 1, ⟨5, 1, false, true⟩, 5, false, false, false, ⟨0, 0, 5 * 65536⟩, ⟨0, 0, 5 * 65536⟩⟩
/-- A single ARRIVE of node 7 for a step of group 2. -/
abbrev arrW (step : Nat) : Raw := mkMsg 5 0 0x7000 (bodyOf [(12, [2]), (16, toBE 8 step), (52, toBE 4 0x7000)])
/-- Both members of group 2 counted. -/
abbrev fullW : State := modGrp .keel 2 (fun g => { g with planes := [{ counted := [inW 7, inW 8] }, {}] }) grpW
/-- A launch of group 2. -/
abbrev launchW : Launch := ⟨2, 1, 0x1000, 0, false, false, false, 0⟩
/-- The bytes of an entry for engine 3 that ends at cycle 100. -/
abbrev rawW (slot setup tally val : Nat) : BitVec 128 :=
  BitVec.ofNat 128 (slot * 2 ^ 112 + 3 * 2 ^ 105 + 100 * 2 ^ 85 + setup * 2 ^ 69 + tally * 2 ^ 63 + val * 2 ^ 47)
/-- A table of two indices with one entry in each, for sequencer 0 of group 2. -/
abbrev tabW : SeqTable := { table := ⟨2, 2, 0, 3, [rawW 0 9 63 0, rawW 1 9 63 0]⟩ }
/-- Sequencer 0 running that table, it and engine 3 of die 5 bound to partition 1. -/
abbrev seqW (f : Seq → Seq) : State := modSeq 0 (fun x => f { x with state := .running, started := true, step := 4, run := tabW })
  { z with cfg := { z.cfg with owners := [(.engine 5 3, 1), (.seq 0, 1)] } }
/-- Set 0 of die 5 with one parameter, its state in the stack, ready for bale 0. -/
abbrev updW (inv : Bool) : State := modPset 0 0 (fun x => { x with state := .waiting, step := 4, grads := [(0, inv, 1)], hyper := { x.hyper with lr := 0x3F000000#32 } })
  (regsOf [(A.PSET_CFG 0 0, 0x80000000#32), (A.SEG_CFG 0 1, 0x80010000#32 ||| 12#32), (A.SEG_LIMIT 0 1, 0xFFFF#32)]
    (modSeg 0 1 (fun g => { g with active := true })
      { z with
        cfg := { z.cfg with owners := [(.engine 5 0x48, 1)], psets := [(0, { segP := 1, segM := 1, segV := 1, segG := 1, paramCount := 1, totalBales := 2, gFp32 := true })] }
        die := { z.die with stack := [(0, 0x3F), (3, 0x40)] } }))
/-- The same, with its m in segment 2, which may be read and not written. -/
abbrev updTornW : State := regsOf [(A.SEG_CFG 0 2, 0x80010000#32 ||| 4#32), (A.SEG_BASE 0 2, 0x10000#32), (A.SEG_LIMIT 0 2, 0x1FFFF#32)]
  (modSeg 0 2 (fun g => { g with active := true })
    { updW false with cfg := { (updW false).cfg with psets := [(0, { segP := 1, segM := 2, segV := 1, segG := 1, paramCount := 1, totalBales := 2, gFp32 := true })] } })
/-- The twin link up. -/
abbrev twW (f : TwinSt → TwinSt) : State := modTw f (modPort .keel 512 (fun x => { x with linkUp := true }) z)
/-- A member of a convoy of two, at position 0. -/
abbrev memW : State := modTw (fun t => { t with member := true, positions := [.current, .current, .erased, .absent, .absent, .absent, .absent, .absent] })
  { z with cfg := { z.cfg with hall := { z.cfg.hall with convoy := [(4, true, 0, 0), (5, true, 0, 0), (6, true, 0, 0)], pos := 0 } } }
/-- The ERS engines of die 5 may read and write a segment that holds the convoy parity of its first stack. -/
abbrev ersW (s : State) : State := regsOf [(A.SEG_CFG 0 1, 0x8001000C#32), (A.SEG_BASE 0 1, 0xE6B28000#32), (A.SEG_BASE 0 1 + 4, 0xE#32),
    (A.SEG_LIMIT 0 1, 0xFFFFFFFF#32), (A.SEG_LIMIT 0 1 + 4, 0xE#32)]
  (modSeg 0 1 (fun g => { g with active := true }) { s with cfg := { s.cfg with owners := (.engine 5 0x54, 1) :: s.cfg.owners } })
/-- Rounds that all measure nothing spread by nothing. -/
theorem spread_replicate (n : Nat) : spreadOk ((List.replicate n ((0 : Int), (0 : Int))).map (fun r => r.1)) = true := by
  have h : ∀ k : Nat, (List.replicate k (0 : Int)).foldl (· + ·) 0 = 0 ∧
      (List.replicate k (0 : Int)).foldl (fun a x => a + x * x) 0 = 0 := by
    intro k
    induction k with
    | zero => exact ⟨rfl, rfl⟩
    | succ k ih => simpa [List.replicate_succ] using ih
  simp [spreadOk, List.map_replicate, (h n).1, (h n).2]
  exact Int.mul_nonneg (Int.mul_nonneg (by decide) (Int.natCast_nonneg n)) (Int.natCast_nonneg n)

theorem witness_EpochSet :
  (let s := { wr (A.TIME_EPOCH_SET + 4) 999999999#32 z with tw := { z.tw with primary := true } }; let v := 0x00010001#32;
     bit v 0 = true ∧ s.tw.primary = true ∧ rf s (A.TIME_EPOCH_SET + 4) 0 30 < nsPerSec ∧
     (s.keel.clk.valid = true → bit v 1 = true) ∧ s.keel.clk.epochArmed = none) ∧
  (let s := { z with tw := { z.tw with primary := false } }; let v := 1#32; bit v 0 = true ∧ s.tw.primary = false) ∧
  (let s := modClk .keel (fun c => { c with epochArmed := some (⟨5, 6, 7⟩, false, 2), pe := 10 }) z; let b := false;
     let val := (⟨5, 6, 7⟩ : FabTime); let at_ := (2 : Nat); s.keel.clk.epochArmed = some (val, false, at_) ∧
     at_ + 8 ≤ pe s .keel) ∧
  (let s := modSrc .keel 1 (fun x => { x with lastEdge := some (10, 6) }) (modRef .keel (fun r => { r with selected := some 0, table := [(1, 1)], phaseFar := true }) (modClk .keel (fun c => { c with epochArmed := some (⟨5, 6, 7⟩, true, 2), pe := 10 }) z));
     let val := (⟨5, 6, 7⟩ : FabTime); let at_ := (2 : Nat); let ph := (6 : Nat);
     s.keel.clk.epochArmed = some (val, true, at_) ∧ epochPulse s at_ = some ph) ∧
  (let s := modClk .keel (fun c => { c with epochArmed := some (⟨5, 6, 7⟩, true, 2), pe := 10 }) z;
     let val := (⟨5, 6, 7⟩ : FabTime); let at_ := (2 : Nat); s.keel.clk.epochArmed = some (val, true, at_) ∧
     epochPulse s at_ = none) ∧
  (let s := modClk .keel (fun c => { c with epochArmed := some (⟨5, 6, 7⟩, true, 2), pe := 2500000002 }) z;
     let val := (⟨5, 6, 7⟩ : FabTime); let at_ := (2 : Nat); s.keel.clk.epochArmed = some (val, true, at_) ∧
     at_ + 2500000000 ≤ pe s .keel) ∧
  (let n := Node.evxus; let s := modClk .evxus (fun c => { c with stepUntil := some 5, pe := 5 }) z; let x := (5 : Nat);
     (nd s n).clk.stepUntil = some x ∧ x ≤ pe s n) ∧
  (let n := Node.keel; let s := modClk .keel (fun c => { c with dipUntil := some 5, pe := 5 }) z; let x := (5 : Nat);
     (nd s n).clk.dipUntil = some x ∧ x ≤ pe s n) := by
  and_intros <;> decide +kernel

theorem witness_Intercalation :
  (let n := Node.keel; let s := modIcl .keel (fun i => { i with pend := [⟨1, 5, ⟨0, 0, 0⟩, 5⟩] }) z;
     let x := (⟨1, 5, ⟨0, 0, 0⟩, 5⟩ : Ical); (nd s n).icl.pend.find? (fun y => fullAtOrAfter (now s n) y.apply) = some x) ∧
  (let s := { z with tw := { z.tw with primary := true } }; let v := 7#64; s.tw.primary = true) ∧
  (let s := { z with tw := { z.tw with primary := false } }; let v := 7#64; s.tw.primary = false) ∧
  (let s := modIcl .keel (fun i => { i with known := true, remain := -5000, lastApply := some ⟨0, 0, 0⟩ }) (modPort .keel 8 (fun x => { x with linkUp := true, role := .serves }) { wr A.PULL_CTRL 0x003F03E8#32 z with tw := { z.tw with primary := true } });
     let x := (⟨1, -3276, ftWiden (fabFt64 (fabAdd ⟨0, 0, 0⟩ (usFull 100000))) ⟨0, 0, 0⟩, BitVec.ofInt 32 (-3276)⟩ : Ical);
     s.tw.primary = true ∧ s.keel.icl.known = true ∧ s.keel.icl.remain ≠ 0 ∧ s.keel.icl.pend.length < 8 ∧
     x = ({ seq := icalLast s.keel.icl + 1, q := clampInt (-3276) 3276 s.keel.icl.remain, apply := ftWiden (fabFt64 (fabAdd (now s .keel) (usFull (100 * rf s A.PULL_CTRL 0 16)))) (now s .keel), sum := (s.keel.icl.pend.foldl (fun a y => a + BitVec.ofInt 32 y.q) s.keel.icl.sum) + BitVec.ofInt 32 (clampInt (-3276) 3276 s.keel.icl.remain) } : Ical) ∧
     (∀ l, s.keel.icl.lastApply = some l → (usFull (500000 / max 1 (rf s A.PULL_CTRL 16 6)) : Int) ≤ fullDiff x.apply l)) ∧
  (let s := modIcl .keel (fun i => { i with known := true, remain := -5000, lastApply := some ⟨9, 0, 0⟩ }) { z with tw := { z.tw with primary := true } };
     let l := (⟨9, 0, 0⟩ : FabTime); s.keel.icl.lastApply = some l ∧
     fullDiff (ftWiden (fabFt64 (fabAdd (now s .keel) (usFull (100 * rf s A.PULL_CTRL 0 16)))) (now s .keel)) l < (usFull (500000 / max 1 (rf s A.PULL_CTRL 16 6)) : Int)) ∧
  (let n := Node.keel; let p := (8 : Nat); let m := mkMsg 6 0 0 (bodyOf [(12, [0, 1]), (16, [0, 0, 0, 0, 0, 1, 0, 0])]);
     let s := modPort .keel 8 (fun x => { x with linkUp := true }) (modIcl .keel (fun i => { i with known := true }) z);
     nodeRuns s n = true ∧ (port s n p).linkUp = true ∧ portWorks s n p = true ∧ linkStands s n p = true ∧ mCrcOk m = true ∧
     mType m = 6 ∧ (nd s n).icl.known = true ∧ 0 < seqDiff (icalOf s n m).seq (icalLast (nd s n).icl) ∧
     fullDiff (now s n) (icalOf s n m).apply ≤ 0 ∧ (nd s n).icl.pend.length < 8) ∧
  (let n := Node.evxus; let p := (0 : Nat);
     let m := mkMsg 6 0 0 (bodyOf [(12, [0, 1]), (14, [0, 9]), (16, [0, 0, 0, 0, 0, 1, 0, 0])]);
     let s := modPort .evxus 0 (fun x => { x with linkUp := true }) (modIcl .evxus (fun i => { i with known := true }) (modClk .evxus (fun c => { c with now := ⟨0, 9, 0⟩ }) { z with ev := { z.ev with ready := true } }));
     nodeRuns s n = true ∧ (port s n p).linkUp = true ∧ portWorks s n p = true ∧ linkStands s n p = true ∧ mCrcOk m = true ∧
     mType m = 6 ∧ (nd s n).icl.known = true ∧ 0 < seqDiff (icalOf s n m).seq (icalLast (nd s n).icl) ∧
     0 < fullDiff (now s n) (icalOf s n m).apply) := by
  and_intros <;> decide +kernel

theorem witness_ExchangeMessages :
  (let n := Node.keel; let p := (512 : Nat); let b := (0 : Nat);
     let s := modPort .keel 512 (fun x => { x with linkUp := true, role := .serves }) { z with tw := { z.tw with primary := false } };
     portTimes s n p = true ∧ servesOn s n p = true ∧ servesTime s n = true ∧ syncDue s n p = true) ∧
  (let n := Node.keel; let p := (512 : Nat); let b := (0 : Nat);
     let s := modPort .keel 512 (fun x => { x with linkUp := true, role := .serves, lastTx := some ⟨0, 0, 0⟩ }) z;
     syncDue s n p = false) ∧
  (let n := Node.keel; let p := (0 : Nat); let b := (0 : Nat); let m := mkMsg 1 0 0 (bodyOf [(23, [1]), (38, [5])]);
     let s := modPort .keel 0 (fun x => { x with linkUp := true, role := .follows }) z; portTimes s n p = true ∧
     portRole s n p = .follows ∧ (port s n p).exch = none ∧ mCrcOk m = true ∧ mType m = 1 ∧ getBE m 38 1 % 16 < 6 ∧
     getBE m 40 4 = rootId s n ∧ (syncOf m (rxStamp s n p b)).t1.valid = true) ∧
  (let n := Node.keel; let p := (0 : Nat); let b := (0 : Nat);
     let e := ({ sync := ⟨0, ⟨0, 0, false, true⟩, ⟨0, 0, false, true⟩, 0, 0, false, 0, 0, 0, 0⟩ } : Exch);
     let s := modPort .keel 0 (fun x => { x with linkUp := true, exch := some { sync := ⟨0, ⟨0, 0, false, true⟩, ⟨0, 0, false, true⟩, 0, 0, false, 0, 0, 0, 0⟩ } }) z;
     (port s n p).exch = some e ∧ e.req = none ∧ portTimes s n p = true ∧ sinceThen s n e.begun ≤ usFull 20) ∧
  (let n := Node.keel; let p := (0 : Nat); let b := (3 : Nat); let m := mkMsg 2 9 0 (bodyOf [(24, [0, 4])]);
     let s := modPort .keel 0 (fun x => { x with linkUp := true, role := .serves, lastTx := some ⟨0, 0, 0⟩, seqs := [5, 0, 0, 0, 0, 0, 0, 0] }) z;
     portTimes s n p = true ∧ servesOn s n p = true ∧ (port s n p).lastTx.isSome = true ∧ mCrcOk m = true ∧ mType m = 2 ∧
     BitVec.ofNat 16 (getBE m 24 2) + 1 = (port s n p).seqs.getD 0 0) ∧
  (let n := Node.keel; let p := (0 : Nat); let q := 6#16; let t4 := (⟨0, 0, false, true⟩ : Stamp); let chg := true;
     let s := modPort .keel 0 (fun x => { x with linkUp := true, reqIn := some (6, ⟨0, 0, false, true⟩, true) }) z;
     (port s n p).reqIn = some (q, t4, chg) ∧ portTimes s n p = true ∧ sinceThen s n (port s n p).reqAt ≤ usFull 20) := by
  and_intros <;> decide +kernel

theorem witness_ExchangeResult :
  (let n := Node.keel; let p := (0 : Nat); let q := 4#16; let t3 := (⟨40, 0, false, true⟩ : Stamp);
     let e := ({ sync := ⟨0, ⟨0, 0, false, true⟩, ⟨30, 0, false, true⟩, 0, 0, false, 0, 0, 0, 0⟩, req := some (4, ⟨40, 0, false, true⟩) } : Exch);
     let m := mkMsg 3 0 0 (bodyOf [(19, [61]), (23, [1]), (24, [0, 4])]);
     let s := modPort .keel 0 (fun x => { x with linkUp := true, exch := some { sync := ⟨0, ⟨0, 0, false, true⟩, ⟨30, 0, false, true⟩, 0, 0, false, 0, 0, 0, 0⟩, req := some (4, ⟨40, 0, false, true⟩) } }) z;
     let fwd := ftDiff e.sync.t2.ft e.sync.t1.ft; let rev := ftDiff (stampOfBytes (slice m 12 12)).ft t3.ft;
     (port s n p).exch = some e ∧ e.req = some (q, t3) ∧ portTimes s n p = true ∧ mCrcOk m = true ∧ mType m = 3 ∧
     BitVec.ofNat 16 (getBE m 24 2) = q ∧ sinceThen s n e.begun ≤ usFull 100 ∧ e.sync.t1.valid = true ∧ e.sync.t2.valid = true ∧
     t3.valid = true ∧ (stampOfBytes (slice m 12 12)).valid = true ∧ selPort s n ≠ some p ∧ 0 ≤ fwd + rev ∧
     fwd + rev ≤ (2 * usU 1000 : Nat) ∧ gated s n (port s n p) (divRNE (fwd + rev) 2) = false ∧
     icalWithin (nd s n).icl (now s n) e.sync.t1.ft (stampOfBytes (slice m 12 12)).ft = false ∧ getBE m 26 1 % 2 = 0 ∧
     e.sync.corrSat = false) ∧
  (let n := Node.keel; let p := (0 : Nat); let q := 4#16; let t3 := (⟨40, 0, false, true⟩ : Stamp);
     let e := ({ sync := ⟨0, ⟨0, 0, false, true⟩, ⟨30, 0, false, true⟩, 0, 2, false, 6, 9, 0, 0⟩, req := some (4, ⟨40, 0, false, true⟩) } : Exch);
     let m := mkMsg 3 0 0 (bodyOf [(19, [61]), (23, [1]), (24, [0, 4])]);
     let s := modPort .keel 0 (fun x => { x with linkUp := true, exch := some { sync := ⟨0, ⟨0, 0, false, true⟩, ⟨30, 0, false, true⟩, 0, 2, false, 6, 9, 0, 0⟩, req := some (4, ⟨40, 0, false, true⟩) } }) (modRef .keel (fun r => { r with selected := some 0, table := r.table.set 0 (0, 4), bind := [some 0, none] }) (modSvo .keel (fun v => { v with stage := .track }) (modClk .keel (fun c => { c with valid := true }) { z with tw := { z.tw with primary := false } })));
     let fwd := ftDiff e.sync.t2.ft e.sync.t1.ft; let rev := ftDiff (stampOfBytes (slice m 12 12)).ft t3.ft;
     let x := divRNE (fwd - rev + asymOf s n p) 2; let total := x + e.sync.corr;
     let acc := (nd s n).svo.acc + (gains s n (nd s n).svo.stage).2 * total; (port s n p).exch = some e ∧ e.req = some (q, t3) ∧
     portTimes s n p = true ∧ mCrcOk m = true ∧ mType m = 3 ∧ BitVec.ofNat 16 (getBE m 24 2) = q ∧
     sinceThen s n e.begun ≤ usFull 100 ∧ e.sync.t1.valid = true ∧ e.sync.t2.valid = true ∧ t3.valid = true ∧
     (stampOfBytes (slice m 12 12)).valid = true ∧ 0 ≤ fwd + rev ∧ fwd + rev ≤ (2 * usU 1000 : Nat) ∧
     gated s n (port s n p) (divRNE (fwd + rev) 2) = false ∧
     icalWithin (nd s n).icl (now s n) e.sync.t1.ft (stampOfBytes (slice m 12 12)).ft = false ∧ getBE m 26 1 % 2 = 0 ∧
     e.sync.corrSat = false ∧ selPort s n = some p ∧ isRoot s n = false ∧ (nd s n).clk.oscOk = true ∧
     (nd s n).clk.valid = true ∧ absLePs total (jumpLimit s n * 1000) = true ∧ (nd s n).svo.stage ≠ .hold ∧
     (nd s n).svo.open_ = false ∧ (nd s n).svo.jumpPending = false ∧ (nd s n).svo.change = none) ∧
  (let n := Node.keel; let p := (0 : Nat); let q := 4#16; let t3 := (⟨40, 0, false, true⟩ : Stamp);
     let e := ({ sync := ⟨0, ⟨0, 0, false, true⟩, ⟨30, 0, false, true⟩, 0, 2, false, 6, 9, 0, 0⟩, req := some (4, ⟨40, 0, false, true⟩) } : Exch);
     let m := mkMsg 3 0 0 (bodyOf [(19, [61]), (23, [1]), (24, [0, 4])]);
     let s := modPort .keel 0 (fun x => { x with linkUp := true, exch := some { sync := ⟨0, ⟨0, 0, false, true⟩, ⟨30, 0, false, true⟩, 0, 2, false, 6, 9, 0, 0⟩, req := some (4, ⟨40, 0, false, true⟩) } }) (modRef .keel (fun r => { r with selected := some 0, table := r.table.set 0 (0, 4), bind := [some 0, none] }) { z with tw := { z.tw with primary := false } });
     let fwd := ftDiff e.sync.t2.ft e.sync.t1.ft; let rev := ftDiff (stampOfBytes (slice m 12 12)).ft t3.ft;
     let x := divRNE (fwd - rev + asymOf s n p) 2; let total := x + e.sync.corr; (port s n p).exch = some e ∧
     e.req = some (q, t3) ∧ portTimes s n p = true ∧ mCrcOk m = true ∧ mType m = 3 ∧ BitVec.ofNat 16 (getBE m 24 2) = q ∧
     sinceThen s n e.begun ≤ usFull 100 ∧ e.sync.t1.valid = true ∧ e.sync.t2.valid = true ∧ t3.valid = true ∧
     (stampOfBytes (slice m 12 12)).valid = true ∧ 0 ≤ fwd + rev ∧ fwd + rev ≤ (2 * usU 1000 : Nat) ∧
     gated s n (port s n p) (divRNE (fwd + rev) 2) = false ∧
     icalWithin (nd s n).icl (now s n) e.sync.t1.ft (stampOfBytes (slice m 12 12)).ft = false ∧ getBE m 26 1 % 2 = 0 ∧
     e.sync.corrSat = false ∧ selPort s n = some p ∧ isRoot s n = false ∧ (nd s n).clk.oscOk = true ∧
     (nd s n).clk.valid = false ∧ (nd s n).svo.acquired = false) ∧
  (let n := Node.keel; let p := (0 : Nat); let q := 4#16; let t3 := (⟨40, 0, false, true⟩ : Stamp);
     let e := ({ sync := ⟨0, ⟨0, 0, false, true⟩, ⟨30, 0, false, true⟩, 0, 2, false, 6, 9, 0, 0⟩, req := some (4, ⟨40, 0, false, true⟩) } : Exch);
     let m := mkMsg 3 0 0 (bodyOf [(19, [61]), (23, [1]), (24, [0, 4])]);
     let s := modPort .keel 0 (fun x => { x with linkUp := true, exch := some { sync := ⟨0, ⟨0, 0, false, true⟩, ⟨30, 0, false, true⟩, 0, 2, false, 6, 9, 0, 0⟩, req := some (4, ⟨40, 0, false, true⟩) } }) (modRef .keel (fun r => { r with selected := some 0, table := r.table.set 0 (0, 4), bind := [some 0, none] }) (modSvo .keel (fun v => { v with stage := .track, open_ := true }) (modClk .keel (fun c => { c with valid := true }) { z with tw := { z.tw with primary := false } })));
     let fwd := ftDiff e.sync.t2.ft e.sync.t1.ft; let rev := ftDiff (stampOfBytes (slice m 12 12)).ft t3.ft;
     let x := divRNE (fwd - rev + asymOf s n p) 2; let total := x + e.sync.corr; (port s n p).exch = some e ∧
     e.req = some (q, t3) ∧ portTimes s n p = true ∧ mCrcOk m = true ∧ mType m = 3 ∧ BitVec.ofNat 16 (getBE m 24 2) = q ∧
     sinceThen s n e.begun ≤ usFull 100 ∧ e.sync.t1.valid = true ∧ e.sync.t2.valid = true ∧ t3.valid = true ∧
     (stampOfBytes (slice m 12 12)).valid = true ∧ 0 ≤ fwd + rev ∧ fwd + rev ≤ (2 * usU 1000 : Nat) ∧
     gated s n (port s n p) (divRNE (fwd + rev) 2) = false ∧
     icalWithin (nd s n).icl (now s n) e.sync.t1.ft (stampOfBytes (slice m 12 12)).ft = false ∧ getBE m 26 1 % 2 = 0 ∧
     e.sync.corrSat = false ∧ selPort s n = some p ∧ (nd s n).clk.oscOk = true ∧ (nd s n).clk.valid = true ∧
     absLePs total (jumpLimit s n * 1000) = true ∧ (nd s n).svo.open_ = true ∧ (nd s n).svo.jumpPending = false ∧
     (nd s n).svo.fifo.length < fifoDepth n) ∧
  (let n := Node.keel; let p := (0 : Nat); let q := 4#16; let t3 := (⟨40, 0, false, true⟩ : Stamp);
     let e := ({ sync := ⟨0, ⟨0, 0, false, true⟩, ⟨30, 0, false, true⟩, 0, 2, false, 6, 9, 0, 0⟩, req := some (4, ⟨40, 0, false, true⟩) } : Exch);
     let m := mkMsg 3 0 0 (bodyOf [(19, [61]), (23, [1]), (24, [0, 4])]);
     let s := modPort .keel 0 (fun x => { x with linkUp := true, exch := some { sync := ⟨0, ⟨0, 0, false, true⟩, ⟨30, 0, false, true⟩, 0, 2, false, 6, 9, 0, 0⟩, req := some (4, ⟨40, 0, false, true⟩) } }) (modRef .keel (fun r => { r with selected := some 0, table := r.table.set 0 (0, 4), bind := [some 0, none] }) (modSvo .keel (fun v => { v with stage := .track, overs := [9, 9, 9, 9, 9, 9, 9] }) (modClk .keel (fun c => { c with valid := true }) (regsOf [(A.JUMP_LIMIT, 0)] { z with tw := { z.tw with primary := false } }))));
     let fwd := ftDiff e.sync.t2.ft e.sync.t1.ft; let rev := ftDiff (stampOfBytes (slice m 12 12)).ft t3.ft;
     let x := divRNE (fwd - rev + asymOf s n p) 2; let total := x + e.sync.corr; (port s n p).exch = some e ∧
     e.req = some (q, t3) ∧ portTimes s n p = true ∧ mCrcOk m = true ∧ mType m = 3 ∧ BitVec.ofNat 16 (getBE m 24 2) = q ∧
     sinceThen s n e.begun ≤ usFull 100 ∧ e.sync.t1.valid = true ∧ e.sync.t2.valid = true ∧ t3.valid = true ∧
     (stampOfBytes (slice m 12 12)).valid = true ∧ 0 ≤ fwd + rev ∧ fwd + rev ≤ (2 * usU 1000 : Nat) ∧
     gated s n (port s n p) (divRNE (fwd + rev) 2) = false ∧
     icalWithin (nd s n).icl (now s n) e.sync.t1.ft (stampOfBytes (slice m 12 12)).ft = false ∧ getBE m 26 1 % 2 = 0 ∧
     e.sync.corrSat = false ∧ selPort s n = some p ∧ (nd s n).clk.oscOk = true ∧ (nd s n).clk.valid = true ∧
     absLePs total (jumpLimit s n * 1000) = false ∧ (nd s n).svo.jumpPending = false ∧ (nd s n).svo.overs.length = 7 ∧
     (nd s n).ref.holdSince = none) ∧
  (let n := Node.keel; let p := (0 : Nat); let q := 4#16; let t3 := (⟨40, 0, false, true⟩ : Stamp);
     let e := ({ sync := ⟨0, ⟨0, 0, false, true⟩, ⟨30, 0, false, true⟩, 0, 2, false, 6, 9, 0, 0⟩, req := some (4, ⟨40, 0, false, true⟩) } : Exch);
     let m := mkMsg 3 0 0 (bodyOf [(19, [61]), (23, [1]), (24, [0, 4])]);
     let s := modPort .keel 0 (fun x => { x with linkUp := true, exch := some { sync := ⟨0, ⟨0, 0, false, true⟩, ⟨30, 0, false, true⟩, 0, 2, false, 6, 9, 0, 0⟩, req := some (4, ⟨40, 0, false, true⟩) }, delays := [900000000] }) (modRef .keel (fun r => { r with selected := some 0, table := r.table.set 0 (0, 4), bind := [some 0, none] }) { z with tw := { z.tw with primary := false } });
     let fwd := ftDiff e.sync.t2.ft e.sync.t1.ft; let rev := ftDiff (stampOfBytes (slice m 12 12)).ft t3.ft;
     (port s n p).exch = some e ∧ e.req = some (q, t3) ∧ portTimes s n p = true ∧ mCrcOk m = true ∧ mType m = 3 ∧
     BitVec.ofNat 16 (getBE m 24 2) = q ∧ sinceThen s n e.begun ≤ usFull 100 ∧ e.sync.t1.valid = true ∧ e.sync.t2.valid = true ∧
     t3.valid = true ∧ (stampOfBytes (slice m 12 12)).valid = true ∧ 0 ≤ fwd + rev ∧ fwd + rev ≤ (2 * usU 1000 : Nat) ∧
     gated s n (port s n p) (divRNE (fwd + rev) 2) = true ∧ e.sync.corrSat = false ∧ (nd s n).ref.bind.getD 0 none = some p ∧
     4 < (nd s n).ref.srcs.length) := by
  and_intros <;> decide +kernel

theorem witness_ExchangeFailures :
  (let n := Node.keel; let p := (0 : Nat);
     let e := ({ sync := ⟨0, ⟨0, 0, false, true⟩, ⟨0, 0, false, true⟩, 0, 0, false, 0, 0, 0, 0⟩ } : Exch);
     let s := modClk .keel (fun c => { c with now := ⟨0, 100001, 0⟩ }) (modPort .keel 0 (fun x => { x with linkUp := true, exch := some { sync := ⟨0, ⟨0, 0, false, true⟩, ⟨0, 0, false, true⟩, 0, 0, false, 0, 0, 0, 0⟩ } }) z);
     (port s n p).exch = some e ∧ (usFull 100 : Int) < sinceThen s n e.begun) ∧
  (let n := Node.keel; let p := (0 : Nat);
     let s := modClk .keel (fun c => { c with now := ⟨0, 250000, 0⟩ }) (modPort .keel 0 (fun x => { x with linkUp := true, role := .follows }) z);
     watched s n p = true ∧ portRole s n p = .follows ∧ (usFull 250 : Int) ≤ sinceThen s n (port s n p).lastSync) ∧
  (let n := Node.keel; let p := (0 : Nat); let s := modPort .keel 0 (fun x => { x with gateRun := 64, gateDly := 9 }) z;
     64 ≤ (port s n p).gateRun) ∧
  (let n := Node.evxus; let p := (1 : Nat);
     let s := modPort .evxus 1 (fun x => { x with fails := 16, oks := 3 }) (modRef .evxus (fun r => { r with bind := [some 1, none], srcs := r.srcs.set 4 { active := true, qualified := true } }) z);
     16 ≤ (port s n p).fails ∧ (port s n p).lossTold = false ∧ (nd s n).ref.bind.getD 0 none = some p) ∧
  (let n := Node.evxus; let p := (1 : Nat);
     let s := modPort .evxus 1 (fun x => { x with fails := 16, oks := 3 }) (modRef .evxus (fun r => { r with bind := [none, some 1], srcs := r.srcs.set 5 { active := true, qualified := true } }) z);
     16 ≤ (port s n p).fails ∧ (port s n p).lossTold = false ∧ (nd s n).ref.bind.getD 1 none = some p) ∧
  (let n := Node.keel; let p := (1 : Nat); let s := modPort .keel 1 (fun x => { x with fails := 20, lossTold := true }) z;
     (port s n p).lossTold = true) := by
  and_intros <;> decide +kernel

theorem witness_ServoModes :
  (let s := modSvo .evxus (fun v => { v with acc := 9 }) { z with ev := { z.ev with ready := true } };
     nodeRuns s .evxus = true) ∧
  (let n := Node.evxus; let s := { z with ev := { z.ev with ready := true } }; nodeRuns s n = true) ∧
  (let n := Node.keel;
     let s := modClk .keel (fun c => { c with slew := 9 }) (modSvo .keel (fun v => { v with open_ := true }) z);
     nodeRuns s n = true ∧ (nd s n).svo.open_ = true) ∧
  (let n := Node.keel;
     let s := modClk .keel (fun c => { c with pe := 2500000000 }) (modSvo .keel (fun v => { v with stage := .acquire }) z);
     (nd s n).svo.stage = .acquire ∧ (nd s n).svo.open_ = false ∧ (nd s n).svo.stageSince + 2500000000 ≤ pe s n) ∧
  (let n := Node.evxus;
     let s := modClk .evxus (fun c => { c with pe := 25000000000 }) (modSvo .evxus (fun v => { v with stage := .settle }) z);
     (nd s n).svo.stage = .settle ∧ (nd s n).svo.open_ = false ∧ (nd s n).svo.stageSince + 25000000000 ≤ pe s n) := by
  and_intros <;> decide +kernel

theorem witness_ServoWrites :
  (let n := Node.keel; let s := modSvo .keel (fun v => { v with open_ := true }) z; let v := 0xFFFFFFFFFFFFFFFF#64;
     nodeRuns s n = true ∧ (nd s n).svo.open_ = true) ∧
  (let n := Node.keel; let s := z; let v := 5#64; nodeRuns s n = true ∧ (nd s n).svo.open_ = false) ∧
  (let n := Node.keel; let s := modSvo .keel (fun v => { v with open_ := true }) z; let v := 0x80000000#32;
     nodeRuns s n = true ∧ (nd s n).svo.open_ = true) ∧
  (let n := Node.keel; let s := z; let v := 5#32; nodeRuns s n = true ∧ (nd s n).svo.open_ = false) ∧
  (let n := Node.keel; let s := modClk .keel (fun c => { c with slew := -687195 }) z; slewOf (nd s n).clk = (nd s n).clk.slew) ∧
  (let n := Node.keel; let s := modSvo .keel (fun v => { v with fifo := [⟨3, 4, -5, 6, 7⟩] }) z;
     let m := (⟨3, 4, -5, 6, 7⟩ : Meas); let r := ([] : List Meas); nodeRuns s n = true ∧ (nd s n).svo.fifo = m :: r) := by
  and_intros <;> decide +kernel

theorem witness_JumpGrant :
  (let n := Node.keel; let s := modSvo .keel (fun v => { v with jumpPending := true }) z; nodeRuns s n = true ∧
     (nd s n).svo.grant = false ∧ (nd s n).svo.grantDeferred = false ∧ (nd s n).svo.jumpPending = true ∧ stepHeld s n = false) ∧
  (let n := Node.keel;
     let s := modSeq 0 (fun q => { q with state := .running }) (modSvo .keel (fun v => { v with jumpPending := true }) z);
     nodeRuns s n = true ∧ (nd s n).svo.grant = false ∧ (nd s n).svo.grantDeferred = false ∧ (nd s n).svo.jumpPending = true ∧
     stepHeld s n = true) ∧
  (let n := Node.keel; let s := z; nodeRuns s n = true ∧ (nd s n).svo.grant = false ∧ (nd s n).svo.grantDeferred = false ∧
     (nd s n).svo.jumpPending = false) ∧
  (let n := Node.keel; let s := modSvo .keel (fun v => { v with jumpPending := true, grantDeferred := true }) z;
     (nd s n).svo.grantDeferred = true ∧ (nd s n).svo.jumpPending = true ∧ stepFree s n = true) := by
  and_intros <;> decide +kernel

theorem witness_Links :
  (let n := Node.evxus; let p := (1 : Nat); let s := z; (port s n p).linkUp = false ∧ portWorks s n p = true ∧
     cutHolds s n p = false ∧ p ≤ 512) ∧
  (let n := Node.keel; let p := (7 : Nat); let rounds := List.replicate 4096 ((0 : Int), (0 : Int));
     let s := modPort .keel 7 (fun x => { x with linkUp := true, calibrating := true }) z; p ≤ 512 ∧
     (port s n p).calibrating = true ∧ rounds.length = 4096 ∧ spreadOk (rounds.map (fun r => r.1)) = true) ∧
  (let n := Node.keel; let p := (512 : Nat);
     let s := modPort .keel 512 (fun x => { x with linkUp := true, calibrating := true }) z; p ≤ 512 ∧
     (port s n p).calibrating = true) ∧
  (let p := (1 : Nat); let s := modPort .evxus 1 (fun x => { x with linkUp := true }) z; (port s .evxus p).linkUp = true ∧
     s.ev.loopback.contains p = false) ∧
  (let p := (1 : Nat);
     let s := modPort .evxus 1 (fun x => { x with linkUp := true }) { z with ev := { z.ev with loopback := [2, 1] } };
     (port s .evxus p).linkUp = true ∧ s.ev.loopback.contains p = true) ∧
  (let n := Node.keel; let p := (0 : Nat); let s := modPort .keel 0 (fun x => { x with linkUp := true, asymValid := true }) z;
     (port s n p).linkUp = true ∧ p ≤ 512) ∧
  (let s := { z with host := { z.host with unlocked := [0x150000] } }; let p := (2 : Nat); let v := 0xFFFFFFFE#32; p ≤ 512 ∧
     s.host.unlocked.contains 0x150000 = true) ∧
  (let s := z; let p := (2 : Nat); let v := 5#32; s.host.unlocked.contains 0x150000 = false) ∧
  (let s := { z with ev := { z.ev with ready := true, unlocked := true } }; let p := (1 : Nat); let v := 5#32;
     nodeRuns s .evxus = true ∧ s.ev.unlocked = true) ∧
  (let s := z; let p := (0 : Nat); let k := (0 : Nat); (port s .keel p).calibrating = false ∧ portWorks s .keel p = true ∧
     nextTicket s = some k) ∧
  (let s := { z with ev := { z.ev with ready := true } }; let p := (1 : Nat); nodeRuns s .evxus = true ∧
     (port s .evxus p).calibrating = false ∧ portWorks s .evxus p = true) := by
  refine ⟨?_, ⟨by decide +kernel, by decide +kernel, List.length_replicate, spread_replicate 4096⟩, ?_⟩ <;>
    and_intros <;> decide +kernel

theorem witness_PtpPorts :
  (let s := z; let e := (3 : Nat); let ph := (0 : Nat); let k := 7#8;
     let m := (0x00#8 :: 2 :: 0 :: 44 :: 0 :: 0 :: 2 :: List.replicate 37 0#8 : Raw); tget 0 s.straps.transport e = 0 ∧
     ptpTwoStep m = true ∧ (edgeOf s e).queue.length < 16) ∧
  (let s := z; let e := (3 : Nat); let ph := (0 : Nat); let k := 7#8; let m := (List.replicate 44 0#8 : Raw);
     tget 0 s.straps.transport e = 0 ∧ ptpType m = 0 ∧ ptpTwoStep m = false) ∧
  (let s := { z with straps := { z.straps with transport := [(3, 1)] } }; let e := (3 : Nat); let ph := (0 : Nat);
     let k := 7#8; let m := (List.replicate 52 0#8 : Raw); let b := putOrigin (edgeTime s e ph true) (m.drop 8);
     tget 0 s.straps.transport e = 1 ∧ ptpType (m.drop 8) = 0 ∧ ptpTwoStep (m.drop 8) = false) ∧
  (let s := modEdge 3 (fun p => { p with queue := [⟨7, 0, 5, ⟨0, 0, false, false⟩, 1⟩] }) z; let e := (3 : Nat);
     let v := 0x107#32; let x := (⟨7, 0, 5, ⟨0, 0, false, false⟩, 1⟩ : TxqEntry);
     (edgeOf s e).queue.find? (fun y => y.msgId == BitVec.ofNat 8 (bits v 0 8)) = some x) := by
  and_intros <;> decide +kernel

theorem witness_PinPulses :
  (let s := wr (A.SRC_CFG 1) 1#32 z; let i := (1 : Nat); let ph := (5 : Nat); i < 4 ∧ s.keel.ref.srcs.length = 6 ∧
     pinMode s i = 1 ∧ (src s .keel i).pulseOk = false ∧ (src s .keel i).lastPulse = none ∧ (src s .keel i).edges = []) ∧
  (let s := modClk .keel (fun c => { c with pe := 1250000000 }) (modSrc .keel 1 (fun x => { x with pulseOk := true, lastPulse := some 0 }) (wr (A.SRC_CFG 1) 1#32 { z with tw := { z.tw with primary := false } }));
     let i := (1 : Nat); let ph := (5 : Nat); i < 4 ∧ s.keel.ref.srcs.length = 6 ∧ pinMode s i = 1 ∧
     (src s .keel i).pulseOk = true ∧ pulseInWindow s (src s .keel i) = true ∧ s.tw.primary = false) ∧
  (let s := modSrc .keel 0 (fun x => { x with freqPart := true }) (wr (A.SRC_CFG 0) 3#32 z); let i := (0 : Nat);
     let ph := (5 : Nat); i < 4 ∧ s.keel.ref.srcs.length = 6 ∧ pinMode s i = 3 ∧ (src s .keel i).freqPart = true ∧
     (src s .keel i).grid = none) ∧
  (let s := modClk .keel (fun c => { c with pe := 3750001251 }) (modSrc .keel 1 (fun x => { x with active := true, pulseOk := true, empty := 2, lastPulse := some 0 }) (wr (A.SRC_CFG 1) 1#32 z));
     let i := (1 : Nat); let l := (0 : Nat); i < 4 ∧ s.keel.ref.srcs.length = 6 ∧ (pinMode s i = 1 ∨ pinMode s i = 3) ∧
     (src s .keel i).lastPulse = some l ∧ (src s .keel i).empty = 2 ∧ l + 3 * 1250000000 + 1250 < pe s .keel) ∧
  (let s := modSrc .keel 1 (fun x => { x with active := true, freqPart := true }) (wr (A.SRC_CFG 1) 2#32 z);
     let i := (1 : Nat); s.keel.ref.srcs.length = 6 ∧ pinFreq s i = true) ∧
  (let s := wr (A.SRC_CFG 1) 2#32 z; let i := (1 : Nat); s.keel.ref.srcs.length = 6 ∧ i < 4 ∧ pinMode s i = 2) := by
  and_intros <;> decide +kernel

theorem witness_Selection :
  (let n := Node.evxus; let oven := true; let fr := ([] : List (Option Int)); let tb := [((1 : Nat), (4 : Nat))];
     let rev := true; let s := modRef .evxus (fun r => { r with applyPend := some ([(1, 4)], true) }) z;
     (nd s n).ref.applyPend = some (tb, rev)) ∧
  (let s := wr (A.REF_TABLE 0) 0x104#32 z; let v := 0x80000F01#32; bits v 8 4 = s.keel.ref.force) ∧
  (let s := modRef .keel (fun r => { r with table := [(1, 4)], srcs := r.srcs.set 4 { active := true } }) { z with tw := { z.tw with primary := false } };
     let v := 0#32; bits v 8 4 < 8 ∧ s.keel.ref.force ≠ bits v 8 4 ∧ s.keel.ref.disputed = false ∧
     (s.keel.ref.table.getD (bits v 8 4) (0, 15)).1 ≠ 0 ∧ srcNamed .keel (s.keel.ref.table.getD (bits v 8 4) (0, 15)).2 = true ∧
     srcAllowed s .keel (s.keel.ref.table.getD (bits v 8 4) (0, 15)).2 = true ∧
     (src s .keel (s.keel.ref.table.getD (bits v 8 4) (0, 15)).2).active = true) ∧
  (let s := modSrc .keel 1 (fun x => { x with active := true, freqPart := true }) (wr (A.SRC_CFG 1) 2#32 z);
     let i := (1 : Nat); let v := 0#32; i < 4 ∧ bits v 0 2 = 0) ∧
  (let s := { z with host := { z.host with unlocked := [0x120000] } }; let v := 1#32;
     s.host.unlocked.contains 0x120000 = true ∧ bit v 0 = true) ∧
  (let s := z; let v := 1#32; s.host.unlocked.contains 0x120000 = false) ∧
  (let n := Node.keel;
     let s := modClk .keel (fun c => { c with pe := 12500000000 }) (modRef .keel (fun r => { r with holdSince := some 0 }) z);
     let e := (0 : Nat); (nd s n).ref.holdSince = some e ∧ e + 12500000000 ≤ pe s n) := by
  and_intros <;> decide +kernel

theorem witness_PulseOutputs :
  (let s := modOut 1 (fun x => { x with cfg := { x.cfg with mode := 1 } }) (modClk .keel (fun c => { c with valid := true }) z);
     let o := (1 : Nat); let e := outEdge s (outOf s o).cfg; o < 2 ∧ (outOf s o).cfg.mode = 1 ∧ (outOf s o).cfg.align = 0 ∧
     s.keel.clk.valid = true ∧ (outOf s o).lastPulse = none ∧ (outOf s o).fall = none ∧
     ((ftUnits (now64 s .keel) : Int) - e) * 65536 < lastCycle s.keel.clk) ∧
  (let s := modOut 1 (fun x => { x with cfg := { x.cfg with mode := 1 }, fall := some 0 }) z; let o := (1 : Nat);
     let f := 0#64; o < 2 ∧ (outOf s o).cfg.mode = 1 ∧ (outOf s o).fall = some f ∧ atOrAfter (now64 s .keel) f = true) ∧
  (let s := modOut 1 (fun x => { x with next := some { mode := 2 } }) z; let o := (1 : Nat);
     let k := ({ mode := 2 } : OutCfg); (outOf s o).next = some k ∧
     s.keel.clk.now.ns.toNat * 2 ^ 32 + s.keel.clk.now.frac.toNat < lastCycle s.keel.clk) := by
  and_intros <;> decide +kernel

theorem witness_IntervalCommands :
  (let s := wr (A.TIC_SRC 2) 0x0908#32 z; let c := (2 : Nat); let k := (0 : Nat); c < 4 ∧ (tic s c).state = .idle ∧
     ticSrcOk s c (startSel s c) = true ∧ ticSrcOk s c (stopSel s c) = true ∧ nextTicket s = some k) ∧
  (let s := modTic 1 (fun x => { x with state := .calibrating }) z; let c := (1 : Nat); let a := (55000 : Nat);
     let b := (109000 : Nat); let d := (55000 : Nat); let e := (109000 : Nat); (tic s c).state = .calibrating ∧
     calOk ⟨a, b⟩ = true ∧ calOk ⟨d, e⟩ = true) ∧
  (let s := modTic 1 (fun x => { x with state := .calibrating }) z; let c := (1 : Nat); let a := (55000 : Nat);
     let b := (55000 : Nat); let d := (55000 : Nat); let e := (109000 : Nat); (tic s c).state = .calibrating ∧
     calOk ⟨a, b⟩ = false) ∧
  (let s := modTic 1 (fun x => { x with state := .running, n := 3 }) z; let c := (1 : Nat);
     ((tic s c).state = .calibrating ∨ (tic s c).state = .running)) ∧
  (let s := modClk .keel (fun c => { c with pe := 3750000000 }) (wr (A.TIC_TIMEOUT 1) 3#32 (modTic 1 (fun x => { x with state := .running, n := 3 }) z));
     let c := (1 : Nat); (tic s c).state = .running ∧ rn s (A.TIC_TIMEOUT c) ≠ 0 ∧
     (tic s c).lastAccept + 1250000000 * rn s (A.TIC_TIMEOUT c) ≤ pe s .keel) ∧
  (let s := modTic 1 (fun x => { x with state := .running, n := 3, s1 := 30 }) z; let c := (1 : Nat);
     (tic s c).state = .running) ∧
  (let s := modClk .keel (fun c => { c with pe := 1250000000 }) (wr (A.TIC_CTRL 1) 0x10000#32 (modTic 1 (fun x => { x with state := .running }) z));
     let c := (1 : Nat); (tic s c).state = .running ∧ rf s (A.TIC_CTRL c) 16 8 ≠ 0 ∧ (tic s c).win = none ∧
     (tic s c).lastCal + 1250000000 * rf s (A.TIC_CTRL c) 16 8 ≤ pe s .keel) ∧
  (let s := wr (A.TIC_SRC 1) 0x0908#32 (modTic 1 (fun x => { x with state := .running }) z); let c := (1 : Nat);
     let tap := (5 : Nat); (tic s c).state = .running ∧ ticLineSrc (startSel s c) = true ∧ (tic s c).recal = false ∧ tap < 448 ∧
     tfind (2 * startSel s c) (tic s c).dead = none ∧ (tic s c).win = none) ∧
  (let s := wr (A.TIC_N 1) 9#32 (wr (A.WIN_CLOSE 1) 0xFFFF#32 (wr (A.TIC_SRC 1) 0x0908#32 (modTic 1 (fun x => { x with state := .running, calStop := ⟨1, 2⟩, win := some ⟨0, 0, 1, 1, ⟨0, 0, false, false⟩⟩ }) z)));
     let c := (1 : Nat); let tap := (0 : Nat); let a := (⟨0, 0, 1, 1, ⟨0, 0, false, false⟩⟩ : TicEv);
     let b := ticSampled s (tic s c).calStop tap; (tic s c).state = .running ∧ ticLineSrc (stopSel s c) = true ∧ tap < 448 ∧
     (tic s c).recal = false ∧ tfind (2 * stopSel s c + 1) (tic s c).dead = none ∧ (tic s c).win = some a ∧
     ticPast s c (ticInterval (ticFt s c) a b) = false ∧ ticInWindow s c (ticInterval (ticFt s c) a b) = true ∧
     (tic s c).n + 1 < rf s (A.TIC_N c) 0 25) ∧
  (let s := wr (A.TIC_N 1) 9#32 (wr (A.WIN_CLOSE 1) 0xFFFF#32 (wr (A.TIC_SRC 1) 0x0908#32 (modTic 1 (fun x => { x with state := .running, n := 8, calStop := ⟨1, 2⟩, win := some ⟨0, 0, 1, 1, ⟨0, 0, false, false⟩⟩ }) z)));
     let c := (1 : Nat); let tap := (0 : Nat); let a := (⟨0, 0, 1, 1, ⟨0, 0, false, false⟩⟩ : TicEv);
     let b := ticSampled s (tic s c).calStop tap; (tic s c).state = .running ∧ ticLineSrc (stopSel s c) = true ∧ tap < 448 ∧
     (tic s c).recal = false ∧ tfind (2 * stopSel s c + 1) (tic s c).dead = none ∧ (tic s c).win = some a ∧
     ticPast s c (ticInterval (ticFt s c) a b) = false ∧ ticInWindow s c (ticInterval (ticFt s c) a b) = true ∧
     rf s (A.TIC_N c) 0 25 ≤ (tic s c).n + 1) ∧
  (let s := wr (A.WIN_CLOSE 1) 0#32 (modTic 1 (fun x => { x with state := .running, win := some ⟨0, 0, 0, 1, ⟨0, 0, false, false⟩⟩ }) z);
     let c := (1 : Nat); let a := (⟨0, 0, 0, 1, ⟨0, 0, false, false⟩⟩ : TicEv); (tic s c).win = some a ∧
     ticPast s c (ticInterval (ticFt s c) a (ticComputed s (now64 s .keel))) = true) ∧
  (let s := modGrp .keel 0 (fun g => { g with state := .launching, latest := some ⟨0, 3, 0, 0, false, false, false, 0⟩ }) z;
     let k := (0 : Nat); let x := (⟨0, 3, 0, 0, false, false, false, 0⟩ : Launch); tapLaunch (grp s .keel k) = some x ∧
     k = rf s A.LMON_GROUP 0 6 ∧ (grp s .keel k).state = .launching ∧ tfind k s.mus.lastTap ≠ some x.step ∧
     atOrAfter (now64 s .keel) (ftAdd x.t (-(nsU (rn s A.TAP_LEAD) : Int))) = true) ∧
  (let s := modGrp .keel 0 (fun g => { g with state := .launching, latest := some ⟨0, 2, 0, 0, false, false, false, 0⟩, toTwin := [(⟨0, 3, 0, 0, false, false, false, 0⟩, 7, false)] }) z;
     let d := (7 : Nat); let k := (0 : Nat); let x := (⟨0, 3, 0, 0, false, false, false, 0⟩ : Launch);
     (grp s .keel k).toTwin = [(x, d, false)] ∧ k = rf s A.LMON_GROUP 0 6 ∧ (grp s .keel k).state = .launching ∧
     tfind k s.mus.lastTap ≠ some x.step ∧ atOrAfter (now64 s .keel) (ftAdd x.t (-(nsU (rn s A.TAP_LEAD) : Int))) = true) ∧
  (let s := modClk .keel (fun c => { c with valid := true }) z; s.keel.clk.valid = true ∧
     s.keel.clk.now.ns.toNat * 2 ^ 32 + s.keel.clk.now.frac.toNat < lastCycle s.keel.clk) := by
  and_intros <;> decide +kernel

theorem witness_EvReset :
  (let s := z; s.ev.ready = false ∧ s.ev.refclkOk = true ∧ s.ev.held = []) ∧
  (let s := modEv (fun e => { e with held := [.evUnlock 0x4558#32] }) z; let v := 0x4558#32; s.ev.ready = false ∧
     s.ev.refclkOk = true ∧ s.ev.held = [.evUnlock v]) ∧
  (let s := modEv (fun e => { e with refclkOk := false }) z; s.ev.refclkOk = false) ∧
  (let s := modEv (fun e => { e with ready := true, arrSent := [(1, [1])] }) z; nodeRuns s .evxus = true) ∧
  (let s := modEv (fun e => { e with ready := true }) { z with staged := [(A.EVU_SRC_CFG 0, some 5#32)] };
     nodeRuns s .evxus = true ∧ pageBad s = true) ∧
  (let s := modLine 3 (fun x => { x with armed := some (1, 0) }) (modEv (fun e => { e with ready := true }) z);
     nodeRuns s .evxus = true ∧ pageBad s = false ∧ anyArmed s = true) ∧
  (let s := modEv (fun e => { e with ready := true }) { z with staged := [(A.EVU_SRC_CFG 0, some 1#32)] };
     nodeRuns s .evxus = true ∧ pageBad s = false ∧ anyArmed s = false) ∧
  (let s := modEv (fun e => { e with ready := true, commitPend := true }) { z with staged := [(A.EVU_SRC_CFG 0, some 1#32)] };
     s.ev.commitPend = true ∧ anyArmed s = false ∧ pageBad s = false) ∧
  (let s := modEv (fun e => { e with ready := true, commitPend := true }) { z with staged := [(A.EVU_SRC_CFG 0, some 5#32)] };
     s.ev.commitPend = true ∧ anyArmed s = false ∧ pageBad s = true) ∧
  (let s := modEv (fun e => { e with ready := true }) z; let v := 0x4558#32; nodeRuns s .evxus = true) := by
  and_intros <;> decide +kernel

theorem witness_LaunchLines :
  (let s := modRef .evxus (fun r => { r with bind := [some 1, none] }) (modPort .evxus 1 (fun x => { x with linkUp := true }) (modEv (fun e => { e with ready := true, bound := e.bound.set 2 (true, 9) }) z));
     let p := (1 : Nat); let l := (2 : Nat); let m := mkMsg 4 0 0 (bodyOf [(12, [9]), (23, [3]), (31, [1])]);
     nodeRuns s .evxus = true ∧ (port s .evxus p).linkUp = true ∧ portWorks s .evxus p = true ∧ mCrcOk m = true ∧ mType m = 4 ∧
     isUpstream s .evxus p = true ∧ l < 8 ∧ s.ev.lines.length = 8 ∧ lineEnabled s l = true ∧
     lineGroup s l = (launchOf m).group ∧ ((lineOf s l).recorded = false ∨ (lineOf s l).lastStep < (launchOf m).step) ∧
     (lineOf s l).armed = none ∧ (launchOf m).step ≠ 0) ∧
  (let s := modLine 2 (fun x => { x with armed := some (3, 0) }) (modEv (fun e => { e with ready := true, hclk := true }) z);
     let l := (2 : Nat); let ph := (7 : Nat); let st := (3 : Nat); let t0 := 0#64; l < 8 ∧ s.ev.lines.length = 8 ∧
     (lineOf s l).armed = some (st, t0) ∧ lineDue s (ftAdd (now64 s .evxus) ph) l = true) ∧
  (let s := modLine 2 (fun x => { x with pulseLeft := some 0, level := true }) (modEv (fun e => { e with hclk := true }) z);
     let l := (2 : Nat); l < 8 ∧ s.ev.lines.length = 8 ∧ (lineOf s l).pulseLeft.isSome = true ∧ s.ev.hclk = true) ∧
  (let s := wr (A.E_LAUNCH_CFG 2) 0x100#32 (modLine 2 (fun x => { x with level := true }) (modEv (fun e => { e with ready := true, hclk := true }) z));
     let v := 4#32; let l := (2 : Nat); nodeRuns s .evxus = true ∧ l < 8 ∧ bit v l = true ∧ rf s (A.E_LAUNCH_CFG l) 8 2 = 1 ∧
     s.ev.hclk = true) ∧
  (let s := wr (A.E_LAUNCH_CFG 2) 0x100#32 (modLine 2 (fun x => { x with level := true }) (modEv (fun e => { e with ready := true }) z));
     let v := 4#32; let l := (2 : Nat); nodeRuns s .evxus = true ∧ l < 8 ∧ bit v l = true ∧ rf s (A.E_LAUNCH_CFG l) 8 2 = 1 ∧
     s.ev.hclk = false) ∧
  (let s := modEv (fun e => { e with hclk := true }) z; s.ev.hclk = true) ∧
  (let s := z; let per := (20480 : Nat); 20480 ≤ per ∧ per ≤ 263454) ∧
  (let s := modLine 2 (fun x => { x with level := true, lowers := true }) z; let per := (263454 : Nat); let l := (2 : Nat);
     20480 ≤ per ∧ per ≤ 263454 ∧ s.ev.hclk = false ∧ l < 8 ∧ (lineOf s l).lowers = true) ∧
  (let s := z; let per := (263455 : Nat); (per < 20480 ∨ 263454 < per)) := by
  and_intros <;> decide +kernel

theorem witness_EvEvents :
  (let s := wr (A.E_EVT_CFG 4) 0x102#32 (modEv (fun e => { e with ready := true, hclk := true }) z); let i := (4 : Nat);
     let f := false; let ph := (3 : Nat); i < 16 ∧ nodeRuns s .evxus = true ∧ s.ev.hclk = true ∧ edgeTaken s i f = true ∧
     s.ev.fifo.length ≤ 60) ∧
  (let s := modRef .evxus (fun r => { r with bind := [some 1, some 2] }) (modPort .evxus 2 (fun x => { x with linkUp := true }) (modPort .evxus 1 (fun x => { x with linkUp := true }) (modEv (fun e => { e with ready := true, arrSent := [(0, [5])] }) z)));
     let v := 0x80000002#32; let y := lineOf s (bits v 0 3); let k := lineGroup s (bits v 0 3);
     let st := hclkStamp (now64 s .evxus) s; let fl := b2n y.lastLate * 2 + b2n y.conflict * 32; nodeRuns s .evxus = true ∧
     bit v 31 = true ∧ (lineOf s (bits v 0 3)).armed = none ∧ s.ev.outage = false ∧
     (tget [] s.ev.arrSent (lineGroup s (bits v 0 3))).contains ((lineOf s (bits v 0 3)).lastStep + 1) = false) ∧
  (let s := modEv (fun e => { e with ready := true, arrSent := [(0, [1])] }) z; let v := 0x80000002#32;
     nodeRuns s .evxus = true ∧ bit v 31 = true ∧
     (tget [] s.ev.arrSent (lineGroup s (bits v 0 3))).contains ((lineOf s (bits v 0 3)).lastStep + 1) = true) ∧
  (let s := modEv (fun e => { e with ready := true, fifo := [⟨1, true, 0, 0, ⟨0, 0, false, false⟩, false⟩] }) z;
     let x := (⟨1, true, 0, 0, ⟨0, 0, false, false⟩, false⟩ : EvtEntry); let r := ([] : List EvtEntry);
     nodeRuns s .evxus = true ∧ s.ev.fifo = x :: r) ∧
  (let s := modEv (fun e => { e with ready := true }) z; let v := 5#32;
     let lo := (tget none s.host.lowHeld A.E_WAKE_AT).getD (rd s A.E_WAKE_AT); let f := ftClamp (v ++ lo);
     nodeRuns s .evxus = true) ∧
  (let s := modEv (fun e => { e with wakeArmed := true }) z; s.ev.wakeArmed = true ∧ s.ev.refclkOk = true ∧
     fullAtOrAfter (now s .evxus) s.ev.wakeDue = true) ∧
  (let s := modPort .evxus 1 (fun x => { x with linkUp := true }) (modEv (fun e => { e with ready := true }) z);
     let p := (1 : Nat); let b := (0 : Nat); let m := (List.replicate 64 1#8 : Raw); nodeRuns s .evxus = true ∧
     (port s .evxus p).linkUp = true ∧ m.length = 64) ∧
  (let s := modPort .evxus 1 (fun x => { x with linkUp := true }) (modEv (fun e => { e with ready := true }) z);
     let p := (1 : Nat); let b := (0 : Nat); let m := (List.replicate 16 1#8 : Raw); nodeRuns s .evxus = true ∧
     (port s .evxus p).linkUp = true ∧ m.length ≠ 64) ∧
  (let s := modPort .evxus 1 (fun x => { x with linkUp := true }) (modEv (fun e => { e with ready := true }) z);
     let p := (1 : Nat); let b := (0 : Nat); let m := mkMsg 7 0 0 (bodyOf [(12, [1])]); nodeRuns s .evxus = true ∧
     (port s .evxus p).linkUp = true ∧ portWorks s .evxus p = true ∧ mCrcOk m = true ∧ mType m = 7) ∧
  (let s := modEv (fun e => { e with ready := true }) z; let p := (1 : Nat); nodeRuns s .evxus = true ∧ p < 64) ∧
  (let s := modRef .evxus (fun r => { r with bind := [some 1, none], srcs := r.srcs.set 4 { active := true, qualified := true } }) (modEv (fun e => { e with ready := true, unlocked := true }) z);
     let p := (1 : Nat); let k := (2 : Nat); let v := 9#32; nodeRuns s .evxus = true ∧ s.ev.unlocked = true ∧ p < 64 ∧ k < 3) ∧
  (let s := modEv (fun e => { e with ready := true }) z; s.ev.refclkOk = true) ∧
  (let s := modEv (fun e => { e with refclkOk := false, lockLost := true }) z; s.ev.refclkOk = false) := by
  and_intros <;> decide +kernel

theorem witness_RegisterAccess :
  (let s := z; let a := (0x20008 : Nat); let v := 0xFFFFFFFF#32; let r := (regRow 0x20008).get (by decide +kernel);
     a < 0x130000 ∧ a % 4 = 0 ∧ absentAt s a = false ∧ expertPage a = false ∧ halfOf a = 0 ∧ (ownOf a v).isNone = true ∧
     regRow a = some r ∧ r.rwc = 0) ∧
  (let s := z; let a := (0x20002 : Nat); let v := 1#64; a < evLo ∧ a % 4 ≠ 0) ∧
  (let s := z; let a := (0x20004 : Nat); let n := (8 : Nat); let hw := 1#64; let v := 1#64; a < evLo ∧
     (ownerAt a = false ∨ hw = 0) ∧ ((n ≠ 4 ∧ n ≠ 8) ∨ a % n ≠ 0)) ∧
  (let s := z; let a := (A.BANK_OWNER 0 3 : Nat); let n := (4 : Nat); let hw := 0xFF#64; let v := 0x58#64; hw ≠ 0 ∧
     ownerAt a = true) ∧
  (let s := wr A.WIN_FULL 5#32 z; let a := (A.WIN_FULL : Nat); a < evLo ∧ a % 4 = 0 ∧ latched s a = none ∧
     snapView s = false ∧ absentAt s a = false ∧ halfOf a = 0 ∧ ft128At a = false) ∧
  (let s := z; let a := (A.POWER_ELAPSED : Nat); a < evLo ∧ a % 4 = 0 ∧ latched s a = none ∧ halfOf a = 1 ∧ rcMask a = 0 ∧
     ft128At a = false) ∧
  (let s := modClk .keel (fun c => { c with pe := 0x500000007 }) z; let a := (A.POWER_ELAPSED : Nat); a < evLo ∧ a % 8 = 0 ∧
     latched s a = none ∧ halfOf a = 1 ∧ halfOf (a + 4) = 2 ∧ rcMask a = 0 ∧ rcMask (a + 4) = 0 ∧ ft128At a = false) ∧
  (let s := modClk .keel (fun c => { c with now := ⟨5, 6, 7⟩ }) z; latched s A.TIME_NOW = none) ∧
  (let s := z; let a := (A.EXPERT_UNLOCK_HOST : Nat); let b := (0x10000 : Nat); let v := 0x4558#32; unlockBase a = some b ∧
     absentAt s a = false) := by
  and_intros <;> decide +kernel

theorem witness_HostServices :
  (let s := z; let v := 0x80000004#32; bit v 31 = true ∧ s.host.snap.state ≠ .armed) ∧
  (let s := modHost (fun h => { h with snap := { h.snap with state := .armed } }) z; let d := (7 : Nat);
     s.host.snap.state = .armed ∧ diePresent s d = true ∧ s.host.snap.dies.contains d = false ∧
     fullAtOrAfter (now s .keel) s.host.snap.time = true) ∧
  (let s := modClk .keel (fun c => { c with now := ⟨0, 100000, 0⟩ }) (modHost (fun h => { h with snap := { h.snap with state := .armed } }) z);
     let d := (7 : Nat); s.host.snap.state = .armed ∧ diePresent s d = true ∧ s.host.snap.dies.contains d = false ∧
     fullAtOrAfter (now s .keel) (usAfter s.host.snap.time 100) = true) ∧
  (let s := wr A.ERR_IRQ_EN 0xFFFFFFFF#32 (setFlag A.ERR_STAT 0 z); let v := 1#32; let i := (0 : Nat); i < 4 ∧
     bit v i = true ∧ irqLevel s i = true) ∧
  (let s := wr (A.MSIX_CTRL 2) 0#32 (modHost (fun h => { h with pendVec := [false, false, true, false] }) z);
     let i := (2 : Nat); i < 4 ∧ s.host.pendVec.getD i false = true ∧ flag s (A.MSIX_CTRL i) 0 = false ∧
     s.host.lastMsg.getD i none = none) := by
  and_intros <;> decide +kernel

theorem witness_TallyCommands :
  (let s := modTally 5 (fun t => { t with value := 3, waiters := [⟨1, true, 5⟩, ⟨2, false, 9⟩] }) (wn (A.TALLY_CMD_VAL 0) 4 z);
     let die := (5 : Nat); let v := 5#32; let k := tallyKey (bits v 0 16); let x := tallyOf s k;
     let n := (x.value : Int) + sgn 16 (rf s (A.TALLY_CMD_VAL (die - 5)) 0 16); let r := drainWaiters x.waiters n.toNat;
     5 ≤ die ∧ die < 7 ∧ diePresent s die = true ∧ refTally s (bits v 0 16) = true ∧ 0 ≤ n ∧ n ≤ 65535) ∧
  (let s := modTally 5 (fun t => { t with value := 3, waiters := [⟨1, true, 5⟩, ⟨2, false, 9⟩] }) (wn (A.TALLY_CMD_VAL 0) 0xFFF0 z);
     let die := (5 : Nat); let v := 5#32; let k := tallyKey (bits v 0 16); let x := tallyOf s k;
     let n := (x.value : Int) + sgn 16 (rf s (A.TALLY_CMD_VAL (die - 5)) 0 16); 5 ≤ die ∧ die < 7 ∧ diePresent s die = true ∧
     refTally s (bits v 0 16) = true ∧ (n < 0 ∨ 65535 < n)) ∧
  (let s := modTally 5 (fun t => { t with value := 3, err := true, waiters := [⟨1, true, 5⟩, ⟨2, false, 9⟩] }) (wn (A.TALLY_CMD_VAL 0) 40 z);
     let die := (6 : Nat); let v := 5#32; let k := tallyKey (bits v 0 16); let x := tallyOf s k;
     let r := drainWaiters x.waiters (rf s (A.TALLY_CMD_VAL (die - 5)) 0 16); 5 ≤ die ∧ die < 7 ∧ diePresent s die = true ∧
     refTally s (bits v 0 16) = true) ∧
  (let s := modTally 5 (fun t => { t with value := 3, err := true }) z; let die := (5 : Nat); let v := 5#32;
     let k := tallyKey (bits v 0 16); 5 ≤ die ∧ die < 7 ∧ diePresent s die = true ∧ refTally s (bits v 0 16) = true) ∧
  (let s := modTally 5 (fun t => { t with value := 3, err := true, waiters := [⟨1, true, 5⟩] }) z; let die := (5 : Nat);
     let v := 5#32; let k := tallyKey (bits v 0 16); let x := tallyOf s k; let two := reduceDie s (1 - k / 5184); 5 ≤ die ∧
     die < 7 ∧ diePresent s die = true ∧ refTally s (bits v 0 16) = true) ∧
  (let s := modTally 5 (fun t => { t with gen := 3, clearing := true }) (modDie (fun d => { d with sigs := [(131, 5, 0, 7)] }) z);
     let ref := (5 : Nat); refTally s ref = true ∧ sigsCross s (refDie ref) = true) ∧
  (let s := modTally 5 (fun t => { t with gen := 3, clearing := true }) z; let ref := (5 : Nat); refTally s ref = true ∧
     sigsCross s (refDie ref) = false) ∧
  (let s := modDie (fun d => { d with sigs := [(255, 5, 0, 7)] }) z; let src := (255 : Nat); let ref := (5 : Nat);
     let y := ((255, 5, 0, 7) : Nat × Nat × BitVec 8 × Int); let k := tallyKey ref; let x := tallyOf s k;
     let r := drainWaiters x.waiters ((x.value : Int) + y.2.2.2).toNat;
     s.die.sigs.find? (fun x => x.1 == src && x.2.1 == ref) = some y ∧ x.gen = y.2.2.1 ∧
     (src = srcHost ∨ engPart s (src / 128) (src % 128) = engPart s (refDie ref) (refEng ref)) ∧ 0 ≤ (x.value : Int) + y.2.2.2 ∧
     (x.value : Int) + y.2.2.2 ≤ 65535) ∧
  (let s := modDie (fun d => { d with sigs := [(255, 5, 1, 7)] }) z; let src := (255 : Nat); let ref := (5 : Nat);
     let y := ((255, 5, 1, 7) : Nat × Nat × BitVec 8 × Int); s.die.sigs.find? (fun x => x.1 == src && x.2.1 == ref) = some y ∧
     (tallyOf s (tallyKey ref)).gen ≠ y.2.2.1) ∧
  (let s := modDie (fun d => { d with sigs := [(3, 5, 0, 7)] }) { z with cfg := { z.cfg with owners := [(.engine 5 3, 2)] } };
     let src := (3 : Nat); let ref := (5 : Nat); let y := ((3, 5, 0, 7) : Nat × Nat × BitVec 8 × Int);
     s.die.sigs.find? (fun x => x.1 == src && x.2.1 == ref) = some y ∧ (tallyOf s (tallyKey ref)).gen = y.2.2.1 ∧
     src ≠ srcHost ∧ engPart s (src / 128) (src % 128) ≠ engPart s (refDie ref) (refEng ref)) := by
  and_intros <;> decide +kernel

theorem witness_Gates :
  (let s := wr (A.GATE_MASK 0 2) 0x30#32 (setFlag (A.GATE_CFG 0 2) 31 boundW); let die := (5 : Nat); let g := (2 : Nat);
     let e := (4 : Nat); let dx := die - 5; let x := gateOf s dx g; let a := x.arrived ||| BitVec.ofNat 128 (2 ^ e); 5 ≤ die ∧
     die < 7 ∧ diePresent s die = true ∧ g < 16 ∧ gateEnabled s dx g = true ∧ (gateMask s dx g).getLsbD e = true ∧
     a ≠ gateMask s dx g ∧ coreOn s (die - 5) = true ∧ mayArrive s dx g e = true ∧
     (engOf s (die - 5) e).gate.any (fun y => y != g) = false) ∧
  (let s := modGate 0 2 (fun x => { x with arrived := 0x20#128 }) (wr (A.GATE_MASK 0 2) 0x30#32 (setFlag (A.GATE_CFG 0 2) 31 boundW));
     let die := (5 : Nat); let g := (2 : Nat); let e := (4 : Nat); let dx := die - 5; let x := gateOf s dx g; 5 ≤ die ∧
     die < 7 ∧ diePresent s die = true ∧ g < 16 ∧ gateEnabled s dx g = true ∧ (gateMask s dx g).getLsbD e = true ∧
     x.arrived ||| BitVec.ofNat 128 (2 ^ e) = gateMask s dx g ∧ coreOn s (die - 5) = true ∧ mayArrive s dx g e = true ∧
     (engOf s (die - 5) e).gate.any (fun y => y != g) = false) ∧
  (let s := wr (A.GATE_MASK 0 2) 0x30#32 (setFlag (A.GATE_CFG 0 2) 31 boundW); let die := (5 : Nat); let g := (2 : Nat);
     let e := (7 : Nat); let dx := die - 5; 5 ≤ die ∧ die < 7 ∧ diePresent s die = true ∧ g < 16 ∧ e < 108 ∧ isDma e = false ∧
     (gateEnabled s dx g = false ∨ (gateMask s dx g).getLsbD e = false) ∧ coreOn s (die - 5) = true ∧
     mayArrive s dx g e = true ∧ (engOf s (die - 5) e).gate.any (fun y => y != g) = false) ∧
  (let s := modEng 0 4 (fun y => { y with gate := some 1 }) (wr (A.GATE_MASK 0 2) 0x30#32 (setFlag (A.GATE_CFG 0 2) 31 boundW));
     let die := (5 : Nat); let g := (2 : Nat); let e := (4 : Nat); 5 ≤ die ∧ die < 7 ∧ diePresent s die = true ∧ g < 16 ∧
     (engOf s (die - 5) e).gate.any (fun y => y != g) = true) ∧
  (let s := modGate 0 2 (fun x => { x with arrived := 0x20#128 }) z; let die := (5 : Nat); let g := (2 : Nat);
     let dx := die - 5; let x := gateOf s dx g; 5 ≤ die ∧ die < 7 ∧ diePresent s die = true ∧ g < 16 ∧ x.arrived ≠ 0) ∧
  (let s := z; let die := (5 : Nat); let g := (2 : Nat); 5 ≤ die ∧ die < 7 ∧ diePresent s die = true ∧ g < 16 ∧
     (gateOf s (die - 5) g).arrived = 0) := by
  and_intros <;> decide +kernel

theorem witness_Dumps :
  (let s := z; let die := (6 : Nat); let v := 0x80000103#32; let k := (0 : Nat); 5 ≤ die ∧ die < 7 ∧ diePresent s die = true ∧
     bit v 31 = true ∧ s.die.dumps.any (fun d => d.dx == die - 5) = false ∧ nextTicket s = some k) ∧
  (let s := modDie (fun d => { d with dumps := [⟨1, 3, false, 0, 16, [1, 2]⟩] }) z; let die := (6 : Nat);
     let d := (⟨1, 3, false, 0, 16, [1, 2]⟩ : Dump); 5 ≤ die ∧ die < 7 ∧ diePresent s die = true ∧
     s.die.dumps.find? (fun d => d.dx == die - 5) = some d ∧ d.stack = false ∧ (opstat s d.ticket).state ≠ .ended) ∧
  (let s := wr (A.SEG_CFG 1 0) 0x300#32 (modDie (fun d => { d with dumps := [⟨1, 3, true, 0, 16, []⟩] }) z);
     let die := (6 : Nat); let d := (⟨1, 3, true, 0, 16, []⟩ : Dump); let ok := (none : Option Nat); 5 ≤ die ∧ die < 7 ∧
     diePresent s die = true ∧ s.die.dumps.find? (fun d => d.dx == die - 5) = some d ∧ d.stack = true ∧
     segRegion s (die - 5) d.seg = 3 ∧ dumpSegCheck s d = none ∧ (opstat s d.ticket).state ≠ .ended) ∧
  (let s := wr (A.SEG_CFG 1 0) 0x300#32 (modDie (fun d => { d with dumps := [⟨1, 3, true, 0, 16, [1]⟩] }) z);
     let die := (6 : Nat); let d := (⟨1, 3, true, 0, 16, [1]⟩ : Dump); let c := (4 : Nat); let a := (16 : Nat);
     let ok := (none : Option Nat); 5 ≤ die ∧ die < 7 ∧ diePresent s die = true ∧
     s.die.dumps.find? (fun d => d.dx == die - 5) = some d ∧ d.stack = true ∧ segRegion s (die - 5) d.seg = 3 ∧
     dumpSegCheck s d = some (c, a) ∧ (opstat s d.ticket).state ≠ .ended) ∧
  (let n := (1 : Nat); let s := modDie (fun d => { d with dumps := [⟨1, 3, false, 0, 16, [1, 2]⟩] }) z; let die := (6 : Nat);
     let d := (⟨1, 3, false, 0, 16, [1, 2]⟩ : Dump); 5 ≤ die ∧ die < 7 ∧ diePresent s die = true ∧
     s.die.dumps.find? (fun d => d.dx == die - 5) = some d ∧ d.stack = false ∧ (opstat s d.ticket).state ≠ .ended ∧
     n ≤ d.image.length) := by
  and_intros <;> decide +kernel

theorem witness_Banks :
  (let s := modDie (fun d => { d with ready := [true, true] }) { z with cfg := { z.cfg with owners := [(.engine 5 3, 2)] } };
     let die := (5 : Nat); let b := (9 : Nat); let v := 3#32; 5 ≤ die ∧ die < 7 ∧ diePresent s die = true ∧ b < 256 ∧
     ownerWriteOk s (die - 5) b 0xFF (bits v 0 8) = true) ∧
  (let s := z; let die := (5 : Nat); let b := (9 : Nat); let v := 3#32; 5 ≤ die ∧ die < 7 ∧ diePresent s die = true ∧
     b < 256 ∧ ownerWriteOk s (die - 5) b 0xFF (bits v 0 8) = false) ∧
  (let s := modDie (fun d => { d with ready := [true, true] }) z; let die := (5 : Nat); let v := 0x80000007#32; 5 ≤ die ∧
     die < 7 ∧ diePresent s die = true ∧ bit v 31 = true ∧ bankOwner s (die - 5) (bits v 0 8) = 0xFF) ∧
  (let s := modBank 0 7 (fun x => { x with clearing := true }) z; let die := (5 : Nat); let b := (7 : Nat);
     let lo := (die - 5) * 2 ^ 27 + b * 2 ^ 19; 5 ≤ die ∧ die < 7 ∧ diePresent s die = true ∧ b < 256 ∧
     (bankOf s (die - 5) b).clearing = true) ∧
  (let s := modDie (fun d => { d with ready := [true, true] }) z; let die := (5 : Nat); let off := (16 : Nat);
     let size := (8 : Nat); let v := 0x0102030405060708#64; let b := rf s (A.APER_BANK (die - 5)) 0 8; 5 ≤ die ∧ die < 7 ∧
     diePresent s die = true ∧ (size = 4 ∨ size = 8) ∧ off % size = 0 ∧ off + size ≤ 2 ^ 19 ∧ bankOwner s (die - 5) b = 0xFF) ∧
  (let s := modDie (fun d => { d with ready := [true, true], sram := [(16, 5)] }) z; let die := (5 : Nat);
     let off := (16 : Nat); let size := (8 : Nat); let b := rf s (A.APER_BANK (die - 5)) 0 8; 5 ≤ die ∧ die < 7 ∧
     diePresent s die = true ∧ (size = 4 ∨ size = 8) ∧ off % size = 0 ∧ off + size ≤ 2 ^ 19 ∧ bankOwner s (die - 5) b = 0xFF) ∧
  (let s := modDie (fun d => { d with ready := [true, true], sram := [(16, 5)] }) z; let die := (5 : Nat);
     let off := (16 : Nat); let size := (8 : Nat); let b := rf s (A.APER_BANK (die - 5)) 0 8; 5 ≤ die ∧ die < 7 ∧
     diePresent s die = true ∧ (size = 4 ∨ size = 8) ∧ off % size = 0 ∧ off + size ≤ 2 ^ 19 ∧ bankOwner s (die - 5) b = 0xFF) ∧
  (let s := modDie (fun d => { d with ready := [true, true] }) z; let die := (6 : Nat); let off := (128 : Nat);
     let size := (8 : Nat); let b := rf s (A.APER_BANK (die - 5)) 0 8; 5 ≤ die ∧ die < 7 ∧ diePresent s die = true ∧
     (size = 4 ∨ size = 8) ∧ off % size = 0 ∧ off + size ≤ 2 ^ 19 ∧ bankOwner s (die - 5) b = 0xFF) ∧
  (let s := z; let ecc := (none : Option Bool); let die := (5 : Nat); let off := (16 : Nat); let size := (8 : Nat); 5 ≤ die ∧
     die < 7 ∧ diePresent s die = true ∧ (size = 4 ∨ size = 8) ∧ off % size = 0 ∧ off + size ≤ 2 ^ 19 ∧
     bankOwner s (die - 5) (rf s (A.APER_BANK (die - 5)) 0 8) ≠ 0xFF) ∧
  (let s := z; let stack := (3 : Nat); let ce := (2 : Nat); let ues := [(64 : Nat)]; let dx := stack / 2; let i := stack % 2;
     stack < 4 ∧ diePresent s (5 + stack / 2) = true) ∧
  (let s := modDie (fun d => { d with scrubs := [(0, 4096, 8191, 2)], stack := [(5000, 1)] }) z; let die := (5 : Nat);
     let first := (4096 : Nat); let r := ((0, 4096, 8191, 2) : Nat × Nat × Nat × Nat); 5 ≤ die ∧ die < 7 ∧
     diePresent s die = true ∧ s.die.scrubs.find? (fun r => r.1 == die - 5 && r.2.1 == first) = some r) := by
  and_intros <;> decide +kernel

theorem witness_DmaChains :
  (let s := { z with cfg := { z.cfg with owners := [(.engine 5 0x5B, 1)] } }; let die := (5 : Nat); let k := (3 : Nat);
     let tk := (0 : Nat);
     let d := ([0x18100000, 64, 0, 0, 0x80000, 0, 0, 0xAABBCCDD, 0x3F0000, 0x3F0000, 0, 0, 0, 0, 0, 0] : List Word);
     let dx := die - 5; 5 ≤ die ∧ die < 7 ∧ diePresent s die = true ∧ k < 16 ∧ (dmaOf s dx k).state = .idle ∧
     dmaScheduled s dx k = false ∧ engPart s dx (0x58 + k) ≠ 0xFF ∧ nextTicket s = some tk ∧ descBad s dx k false d = false ∧
     refIdx (dWaitRef d) = 63 ∧ dOp d ≠ 4 ∧ coreOn s dx = true) ∧
  (let s := { z with cfg := { z.cfg with owners := [(.engine 5 0x5B, 1)] } }; let die := (5 : Nat); let k := (3 : Nat);
     let tk := (0 : Nat);
     let d := ([0x18100000, 64, 0, 0, 0x80000, 0, 0, 0xAABBCCDD, 0x50002, 0x3F0000, 0, 0, 0, 0, 0, 0] : List Word);
     let dx := die - 5; let key := tallyKey (dWaitRef d); 5 ≤ die ∧ die < 7 ∧ diePresent s die = true ∧ k < 16 ∧
     (dmaOf s dx k).state = .idle ∧ dmaScheduled s dx k = false ∧ engPart s dx (0x58 + k) ≠ 0xFF ∧ nextTicket s = some tk ∧
     descBad s dx k false d = false ∧ refIdx (dWaitRef d) ≠ 63 ∧ (tallyOf s key).err = false ∧ (tallyOf s key).waiters = [] ∧
     (tallyOf s key).value < dWaitVal d ∧ coreOn s dx = true) ∧
  (let s := regsOf [(A.GATE_MASK 0 2 + 8, 0x08000001#32), (A.GATE_CFG 0 2, 0x80000000#32)] { z with cfg := { z.cfg with owners := [(.engine 5 0x5B, 1)] } };
     let die := (5 : Nat); let k := (3 : Nat); let tk := (0 : Nat);
     let d := ([0x48000000, 0, 0, 0, 0, 0, 0, 2, 0x3F0000, 0x3F0000, 0, 0, 0, 0, 0, 0] : List Word); let dx := die - 5;
     let g := bits (dw d 7) 0 4; let a := (gateOf s dx g).arrived ||| BitVec.ofNat 128 (2 ^ (0x58 + k)); 5 ≤ die ∧ die < 7 ∧
     diePresent s die = true ∧ k < 16 ∧ (dmaOf s dx k).state = .idle ∧ dmaScheduled s dx k = false ∧
     engPart s dx (0x58 + k) ≠ 0xFF ∧ nextTicket s = some tk ∧ descBad s dx k false d = false ∧ refIdx (dWaitRef d) = 63 ∧
     dOp d = 4 ∧ gateEnabled s dx g = true ∧ (gateMask s dx g).getLsbD (0x58 + k) = true ∧ a ≠ gateMask s dx g ∧
     (engOf s dx (0x58 + k)).gate = none ∧ coreOn s dx = true) ∧
  (let s := { z with cfg := { z.cfg with owners := [(.engine 5 0x5B, 1)] }, clks := { z.clks with dies := [(5, { changing := true })] } };
     let die := (5 : Nat); let k := (3 : Nat); let tk := (0 : Nat);
     let d := (some [0x18100000, 64, 0, 0, 0x80000, 0, 0, 0xAABBCCDD, 0x3F0000, 0x3F0000, 0, 0, 0, 0, 0, 0] : Option (List Word));
     let dx := die - 5; 5 ≤ die ∧ die < 7 ∧ diePresent s die = true ∧ k < 16 ∧ (dmaOf s dx k).state = .idle ∧
     dmaScheduled s dx k = false ∧ engPart s dx (0x58 + k) ≠ 0xFF ∧ nextTicket s = some tk ∧ coreOn s dx = false) ∧
  (let s := z; let die := (5 : Nat); let k := (3 : Nat); let d := ([] : List Word); 5 ≤ die ∧ die < 7 ∧
     diePresent s die = true ∧ k < 16 ∧ engPart s (die - 5) (0x58 + k) = 0xFF) ∧
  (let s := modDma 0 3 (fun x => { x with state := .running }) z; let die := (5 : Nat); let k := (3 : Nat); 5 ≤ die ∧
     die < 7 ∧ diePresent s die = true ∧ k < 16 ∧ (dmaOf s (die - 5) k).state = .running) ∧
  (let s := modDie (fun d => { d with tallies := [(7, { waiters := [⟨0x5B, true, 2⟩] })] }) (modDma 0 3 (fun x => { x with state := .waiting, host := true }) z);
     let die := (5 : Nat); let k := (3 : Nat); let key := (7 : Nat); let tk := true; let v := (2 : Nat); let dx := die - 5;
     5 ≤ die ∧ die < 7 ∧ diePresent s die = true ∧ k < 16 ∧ (dmaOf s dx k).state = .waiting ∧ s.die.gates = [] ∧
     key / 5184 = dx ∧ s.die.tallies = [(key, { waiters := [⟨0x58 + k, tk, v⟩] })]) ∧
  (let s := modDma 0 3 (fun x => { x with state := .running, host := true, preempt := true, bytes := 4096, waitDone := true, ticket := some 4, desc := some ⟨[0x18100000, 0x8000]⟩ }) z;
     let die := (5 : Nat); let k := (3 : Nat); let d := ([0x18100000, 0x8000] : List Word); let tk := (4 : Nat);
     let dx := die - 5; let x := dmaOf s dx k; 5 ≤ die ∧ die < 7 ∧ diePresent s die = true ∧ k < 16 ∧ x.state = .running ∧
     x.desc = some ⟨d⟩ ∧ x.preempt = true ∧ x.bytes % 4096 = 0 ∧ descComplete d x = false ∧ x.ticket = some tk ∧
     (opstat s tk).state ≠ .ended ∧ s.die.gates = [] ∧ s.die.tallies = [] ∧ coreOn s (die - 5) = true) ∧
  (let s := modDma 0 3 (fun x => { x with state := .stopped, host := true, fault := 7, cur := 64, desc := some ⟨[]⟩ }) { z with cfg := { z.cfg with owners := [(.engine 5 0x5B, 1)] } };
     let die := (5 : Nat); let k := (3 : Nat); let tk := (0 : Nat);
     let d := ([0x18100000, 0x8000, 0, 0, 0x80000, 0, 0, 0xAABBCCDD, 0x3F0000, 0x3F0000, 0, 0, 0x1000, 0x8000, 0, 0] : List Word);
     let dx := die - 5; let x := dmaOf s dx k; 5 ≤ die ∧ die < 7 ∧ diePresent s die = true ∧ k < 16 ∧ x.state = .stopped ∧
     x.host = true ∧ engPart s dx (0x58 + k) ≠ 0xFF ∧ x.sched = false ∧ nextTicket s = some tk ∧
     descBad s dx k false d = false ∧ bit (dw d 13) 15 = true ∧ x.desc.isSome = true ∧ dOp d ≠ 4 ∧ coreOn s dx = true) := by
  and_intros <;> decide +kernel

theorem witness_DmaDescriptors :
  (let s := { (modDma 0 3 (fun x => { x with state := .running, host := true, bytes := 4, desc := some ⟨[0x08400000, 6, 0x80000, 0, 0x5000, 0, 0, 0]⟩ }) z) with clks := { z.clks with dies := [(5, { changing := true })] } };
     let die := (5 : Nat); let k := (3 : Nat); let data := ([] : List Byte); let e := (⟨0, 0, 0⟩ : BurstEnd); 5 ≤ die ∧
     die < 7 ∧ diePresent s die = true ∧ coreOn s (die - 5) = false) ∧
  (let s := modBank 0 1 (fun b => { b with owner := 0x5B }) (modDie (fun d => { d with ready := [true, true] }) (modDma 0 3 (fun x => { x with state := .running, host := true, bytes := 4, desc := some ⟨[0x08400000, 6, 0x80000, 0, 0x5000, 0, 0, 0]⟩ }) z));
     let die := (5 : Nat); let k := (3 : Nat); let data := ([] : List Byte); let b := ([0, 0] : List Byte);
     let u := emit (.hostWrite 0x5004#64 [0, 0]) s; let d := ([0x08400000, 6, 0x80000, 0, 0x5000, 0, 0, 0] : List Word);
     let dx := die - 5; let x := dmaOf s dx k; let n := burstLen x (dLen d); 5 ≤ die ∧ die < 7 ∧ diePresent s die = true ∧
     k < 16 ∧ x.state = .running ∧ x.preempt = false ∧ x.desc = some ⟨d⟩ ∧ dOp d ≤ 1 ∧ x.bytes < dLen d ∧
     (match burstRead s dx k x.host d x.bytes n data with | .ok y => y == b | .error _ => false) = true ∧
     (match burstWrite s dx k x.host d x.bytes b with | .ok y => decide (y = u) | .error _ => false) = true ∧
     coreOn s (die - 5) = true) ∧
  (let s := modDie (fun d => { d with ready := [true, true] }) (modDma 0 3 (fun x => { x with state := .running, host := true, bytes := 4, desc := some ⟨[0x08400000, 70, 0x80000, 0, 0x5000, 0, 0, 0]⟩ }) z);
     let die := (5 : Nat); let k := (3 : Nat); let data := ([] : List Byte); let c := (1 : Nat);
     let d := ([0x08400000, 70, 0x80000, 0, 0x5000, 0, 0, 0] : List Word); let dx := die - 5; let x := dmaOf s dx k;
     let b := (dSrc d + x.bytes) / 2 ^ 19; 5 ≤ die ∧ die < 7 ∧ diePresent s die = true ∧ k < 16 ∧ x.state = .running ∧
     x.preempt = false ∧ x.desc = some ⟨d⟩ ∧ dOp d = 0 ∧ dSrcKind d = 1 ∧ x.bytes < dLen d ∧
     bankAccess s dx b (0x58 + k) = some c ∧ coreOn s (die - 5) = true) ∧
  (let s := modBank 0 1 (fun b => { b with owner := 0x5B }) (modDie (fun d => { d with ready := [true, true] }) (modDma 0 3 (fun x => { x with state := .running, host := true, bytes := 4, desc := some ⟨[0x08400000, 170, 0x80000, 0, 0x5000, 0, 0, 0]⟩ }) z));
     let die := (5 : Nat); let k := (3 : Nat); let line := (2 : Nat); let data := ([] : List Byte);
     let d := ([0x08400000, 170, 0x80000, 0, 0x5000, 0, 0, 0] : List Word); let dx := die - 5; let x := dmaOf s dx k;
     let a := dSrc d + x.bytes; 5 ≤ die ∧ die < 7 ∧ diePresent s die = true ∧ k < 16 ∧ x.state = .running ∧ x.preempt = false ∧
     x.desc = some ⟨d⟩ ∧ dOp d = 0 ∧ dSrcKind d = 1 ∧ x.bytes < dLen d ∧ bankAccess s dx (a / 2 ^ 19) (0x58 + k) = none ∧
     a / 2 ^ 19 < 256 ∧ (a + burstLen x (dLen d) - 1) / 2 ^ 19 = a / 2 ^ 19 ∧ coreOn s (die - 5) = true) ∧
  (let s := modBank 0 1 (fun b => { b with owner := 0x5B }) (modDie (fun d => { d with ready := [true, true] }) (modDma 0 3 (fun x => { x with state := .running, host := true, bytes := 4, desc := some ⟨[0x18100000, 70, 0, 0, 0x80000, 0, 0, 0xAABBCCDD]⟩ }) z));
     let die := (5 : Nat); let k := (3 : Nat); let data := ([] : List Byte);
     let d := ([0x18100000, 70, 0, 0, 0x80000, 0, 0, 0xAABBCCDD] : List Word); let dx := die - 5; let x := dmaOf s dx k;
     let a := dDst d + x.bytes; let n := burstLen x (dLen d); 5 ≤ die ∧ die < 7 ∧ diePresent s die = true ∧ k < 16 ∧
     x.state = .running ∧ x.preempt = false ∧ x.desc = some ⟨d⟩ ∧ dOp d = 1 ∧ dDstKind d = 1 ∧ x.bytes < dLen d ∧
     bankAccess s dx (a / 2 ^ 19) (0x58 + k) = none ∧ coreOn s (die - 5) = true) ∧
  (let s := modBank 0 1 (fun b => { b with owner := 0x5B }) (modDie (fun d => { d with ready := [true, true] }) (modDma 0 3 (fun x => { x with state := .running, host := true, bytes := 4, desc := some ⟨[0x08400000, 70, 0x80000, 0, 0x5000, 0, 0, 0]⟩ }) z));
     let die := (5 : Nat); let k := (3 : Nat); let data := ([] : List Byte);
     let d := ([0x08400000, 70, 0x80000, 0, 0x5000, 0, 0, 0] : List Word); let dx := die - 5; let x := dmaOf s dx k;
     let a := dSrc d + x.bytes; let n := burstLen x (dLen d); 5 ≤ die ∧ die < 7 ∧ diePresent s die = true ∧ k < 16 ∧
     x.state = .running ∧ x.preempt = false ∧ x.desc = some ⟨d⟩ ∧ dOp d = 0 ∧ dSrcKind d = 1 ∧ dDstKind d = 0 ∧
     x.bytes < dLen d ∧ bankAccess s dx (a / 2 ^ 19) (0x58 + k) = none ∧ coreOn s (die - 5) = true) ∧
  (let s := modSeg 0 9 (fun g => { g with active := true }) (regsOf [(A.SEG_LIMIT 0 9, 0xFFF#32), (A.SEG_CFG 0 9, 0x80000002#32)] (modDma 0 3 (fun x => { x with state := .running, host := true, bytes := 4, desc := some ⟨[0x08200000, 70, 0x80000, 0, 0x10, 0, 0x00090000, 0]⟩ }) z));
     let die := (5 : Nat); let k := (3 : Nat); let data := ([7, 8, 9] : List Byte);
     let d := ([0x08200000, 70, 0x80000, 0, 0x10, 0, 0x00090000, 0] : List Word); let dx := die - 5; let x := dmaOf s dx k;
     let a := dDst d + x.bytes; let n := burstLen x (dLen d); let b := (data ++ List.replicate n 0).take n; 5 ≤ die ∧ die < 7 ∧
     diePresent s die = true ∧ k < 16 ∧ x.state = .running ∧ x.preempt = false ∧ x.desc = some ⟨d⟩ ∧ dOp d = 0 ∧
     dSrcKind d = 0 ∧ dDstKind d = 2 ∧ x.bytes < dLen d ∧
     segCheck s dx (dDstSeg d) x.host (engPart s dx (0x58 + k)) true a b.length = none ∧ coreOn s (die - 5) = true) ∧
  (let s := modDma 0 3 (fun x => { x with state := .running, host := true, waitDone := true, bytes := 70, ticket := some 2, cur := 0x100, desc := some ⟨[0x18100000, 70, 0, 0, 0x80000, 0, 0, 0xAABBCCDD, 0x3F0000, 0x3F0000]⟩ }) z;
     let die := (5 : Nat); let k := (3 : Nat);
     let d := ([0x18100000, 70, 0, 0, 0x80000, 0, 0, 0xAABBCCDD, 0x3F0000, 0x3F0000] : List Word); let tk := (2 : Nat);
     let next := ({ words := none } : DescFetch); let dx := die - 5; let x := dmaOf s dx k; 5 ≤ die ∧ die < 7 ∧
     diePresent s die = true ∧ k < 16 ∧ x.state = .running ∧ x.desc = some ⟨d⟩ ∧ x.host = true ∧ dOp d ≤ 1 ∧ x.waitDone = true ∧
     dLen d ≤ x.bytes ∧ refIdx (dSigRef d) = 63 ∧ dLast d = true ∧ x.preempt = false ∧ x.ticket = some tk ∧
     (opstat s tk).state ≠ .ended ∧ coreOn s (die - 5) = true) ∧
  (let s := modDma 0 3 (fun x => { x with state := .running, host := true, waitDone := true, bytes := 70, cur := 0x100, desc := some ⟨[0x10100000, 70, 0, 0, 0x80000, 0, 0, 0xAABBCCDD, 0x3F0000, 0x3F0000]⟩ }) z;
     let die := (5 : Nat); let k := (3 : Nat);
     let d := ([0x10100000, 70, 0, 0, 0x80000, 0, 0, 0xAABBCCDD, 0x3F0000, 0x3F0000] : List Word);
     let e := ([0x18100000, 64, 0, 0, 0x80000, 0, 0, 0xAABBCCDD, 0x3F0000, 0x3F0000, 0, 0, 0, 0, 0, 0] : List Word);
     let dx := die - 5; let x := dmaOf s dx k; 5 ≤ die ∧ die < 7 ∧ diePresent s die = true ∧ k < 16 ∧ x.state = .running ∧
     x.desc = some ⟨d⟩ ∧ x.host = true ∧ x.sched = false ∧ x.preempt = false ∧ x.ticket = none ∧ dOp d ≤ 1 ∧ x.waitDone = true ∧
     dLen d ≤ x.bytes ∧ refIdx (dSigRef d) = 63 ∧ dLast d = false ∧ descBad s dx k false e = false ∧ refIdx (dWaitRef e) = 63 ∧
     dOp e ≠ 4 ∧ coreOn s (die - 5) = true) ∧
  (let s := modDma 0 3 (fun x => { x with state := .running, sched := true, waitDone := true, bytes := 70, cur := 0x100, desc := some ⟨[0x10100000, 70, 0, 0, 0x80000, 0, 0, 0xAABBCCDD, 0x3F0000, 0x3F0000]⟩ }) z;
     let die := (5 : Nat); let k := (3 : Nat); let c := (4 : Nat); let next := ({ words := none } : DescFetch);
     let d := ([0x10100000, 70, 0, 0, 0x80000, 0, 0, 0xAABBCCDD, 0x3F0000, 0x3F0000] : List Word); let dx := die - 5;
     let x := dmaOf s dx k; 5 ≤ die ∧ die < 7 ∧ diePresent s die = true ∧ k < 16 ∧ x.state = .running ∧ x.desc = some ⟨d⟩ ∧
     x.host = false ∧ dOp d ≤ 1 ∧ x.waitDone = true ∧ dLen d ≤ x.bytes ∧ refIdx (dSigRef d) = 63 ∧ x.preempt = false ∧
     writeBackFails s dx k = some c ∧ coreOn s (die - 5) = true) := by
  and_intros <;> decide +kernel

theorem witness_LoaderRequests :
  (let s := wr A.ALM_LEN 0x4000#32 z; let v := 0x80030002#32; let c := (Instr.teardown v); let op := (4 : Nat);
     let k := (0 : Nat);
     (c, op) ∈ [(Instr.load v, 1), (.cacheLoad v, 2), (.discard v, 3), (.teardown v, 4), (.cacheDrop v, 5)] ∧ bit v 31 = true ∧
     s.alm.queue.length < 8 ∧ nextTicket s = some k) ∧
  (let r := ({ op := 1, prio := 0, part := 0, ticket := 3, src := 64, len := 128, shape := 0 } : LoadReq);
     let s := { z with alm := { z.alm with queue := [{ op := 1, prio := 0, part := 0, ticket := 3, src := 64, len := 128, shape := 0 }] } };
     s.alm.working = none ∧ nextReq s = some r ∧ r.op = 1 ∧ rsvBusy s = false ∧ (opstat s r.ticket).state ≠ .ended) ∧
  (let r := ({ op := 3, prio := 0, part := 0, ticket := 3, src := 64, len := 128, shape := 0 } : LoadReq);
     let s := { z with alm := { z.alm with queue := [{ op := 3, prio := 0, part := 0, ticket := 3, src := 64, len := 128, shape := 0 }] } };
     s.alm.working = none ∧ nextReq s = some r ∧ r.op = 3 ∧ (opstat s r.ticket).state ≠ .ended) ∧
  (let r := ({ op := 5, prio := 0, part := 2, ticket := 3, src := 64, len := 128, shape := 0 } : LoadReq);
     let s := { z with clks := { z.clks with stage := 9 }, alm := { z.alm with queue := [{ op := 5, prio := 0, part := 2, ticket := 3, src := 64, len := 128, shape := 0 }] } };
     s.alm.working = none ∧ nextReq s = some r ∧ r.op = 5 ∧ (opstat s r.ticket).state ≠ .ended) ∧
  (let a := (⟨[1, 2], []⟩ : Almanac);
     let r := ({ op := 1, prio := 0, part := 0, ticket := 3, src := 64, len := 128, shape := 0 } : LoadReq);
     let s := { z with clks := { z.clks with stage := 9 }, alm := { z.alm with working := some { op := 1, prio := 0, part := 0, ticket := 3, src := 64, len := 128, shape := 0 } } };
     s.alm.working = some r ∧ r.op = 1 ∧ s.clks.stage = 9 ∧ (opstat s r.ticket).state ≠ .ended ∧
     r.resets.contains (hdrOf a.bytes).part = false) ∧
  (let a := (⟨[1, 2], []⟩ : Almanac);
     let r := ({ op := 1, prio := 0, part := 0, ticket := 3, src := 64, len := 128, shape := 0, resets := [0] } : LoadReq);
     let s := { z with clks := { z.clks with stage := 9 }, alm := { z.alm with working := some { op := 1, prio := 0, part := 0, ticket := 3, src := 64, len := 128, shape := 0, resets := [0] } } };
     s.alm.working = some r ∧ r.op = 1 ∧ s.clks.stage = 9 ∧ (opstat s r.ticket).state ≠ .ended ∧
     r.resets.contains (hdrOf a.bytes).part = true) ∧
  (let r := ({ op := 1, prio := 0, part := 0, ticket := 3, src := 64, len := 128, shape := 0 } : LoadReq);
     let s := { z with alm := { z.alm with working := some { op := 1, prio := 0, part := 0, ticket := 3, src := 64, len := 128, shape := 0 } } };
     s.alm.working = some r ∧ r.op = 1 ∧ (opstat s r.ticket).state ≠ .ended) := by
  and_intros <;> decide +kernel

theorem witness_Commits :
  (let s := z; let v := 0x80000005#32; let k := (0 : Nat); let part := bits v 0 7; bit v 31 = true ∧
     (part < 64 ∨ part = 0x7F) ∧ commitOf s part = none ∧ nextTicket s = some k) ∧
  (let part := (5 : Nat);
     let c := ({ part := 5, at_ := 0, group := 0, ticket := some 3, teardown := false, phase := .preparing, items := [.residual], hdr := none, regs := [], ready := 0, refuse := 0, before := none, acks := 0, since := 0 } : Commit);
     let s := { z with clks := { z.clks with stage := 9 }, alm := { z.alm with commits := [{ part := 5, at_ := 0, group := 0, ticket := some 3, teardown := false, phase := .preparing, items := [.residual], hdr := none, regs := [], ready := 0, refuse := 0, before := none, acks := 0, since := 0 }] } };
     commitOf s part = some c ∧ c.phase = .preparing ∧ s.clks.stage = 9 ∧ c.items ≠ [] ∧ (refusals s c).2 = 0 ∧ c.at_ = 0) ∧
  (let part := (5 : Nat);
     let c := ({ part := 5, at_ := 9, group := 0, ticket := some 3, teardown := false, phase := .preparing, items := [.residual], hdr := none, regs := [], ready := 0, refuse := 0, before := none, acks := 0, since := 0 } : Commit);
     let s := { z with clks := { z.clks with stage := 9 }, alm := { z.alm with commits := [{ part := 5, at_ := 9, group := 0, ticket := some 3, teardown := false, phase := .preparing, items := [.residual], hdr := none, regs := [], ready := 0, refuse := 0, before := none, acks := 0, since := 0 }] } };
     commitOf s part = some c ∧ c.phase = .preparing ∧ s.clks.stage = 9 ∧ c.items ≠ [] ∧ (refusals s c).2 = 0 ∧
     (grp s .keel c.group).step < c.at_) ∧
  (let part := (5 : Nat);
     let c := ({ part := 5, at_ := 0, group := 0, ticket := some 3, teardown := false, phase := .preparing, items := [.seq 12 {}], hdr := none, regs := [], ready := 0, refuse := 0, before := none, acks := 0, since := 0 } : Commit);
     let s := { z with clks := { z.clks with stage := 9 }, alm := { z.alm with commits := [{ part := 5, at_ := 0, group := 0, ticket := some 3, teardown := false, phase := .preparing, items := [.seq 12 {}], hdr := none, regs := [], ready := 0, refuse := 0, before := none, acks := 0, since := 0 }] } };
     let k := (3 : Nat); part < 128 ∧ commitOf s part = some c ∧ c.phase = .preparing ∧ s.clks.stage = 9 ∧ c.items ≠ [] ∧
     (refusals s c).2 ≠ 0 ∧ c.ticket = some k ∧ (opstat s k).state ≠ .ended) ∧
  (let part := (5 : Nat); let acks := 1#8;
     let c := ({ part := 5, at_ := 0, group := 0, ticket := some 3, teardown := false, phase := .activating, items := [.own 5 (.engine 5 2)], hdr := none, regs := [], ready := 0, refuse := 0, before := none, acks := 0, since := 0 } : Commit);
     let s := { z with alm := { z.alm with commits := [{ part := 5, at_ := 0, group := 0, ticket := some 3, teardown := false, phase := .activating, items := [.own 5 (.engine 5 2)], hdr := none, regs := [], ready := 0, refuse := 0, before := none, acks := 0, since := 0 }] } };
     commitOf s part = some c ∧ c.phase = .activating ∧ c.before = none ∧
     (c.at_ = 0 ∨ (partSeqs s part).all (fun q => (seqOf s q).state != .running) = true) ∧
     (c.acks ||| acks) &&& BitVec.ofNat 8 (dieMask s) ≠ BitVec.ofNat 8 (dieMask s)) ∧
  (let part := (5 : Nat); let acks := 1#8; let a := (A.GATE_CFG 0 2 : Nat); let v := 0x80050001#32;
     let c := ({ part := 5, at_ := 0, group := 0, ticket := some 3, teardown := false, phase := .activating, items := [], hdr := none, regs := [(A.GATE_CFG 0 2, 0x80050001#32)], ready := 0, refuse := 0, before := none, acks := 0, since := 0 } : Commit);
     let s := { z with alm := { z.alm with commits := [({ part := 5, at_ := 0, group := 0, ticket := some 3, teardown := false, phase := .activating, items := [], hdr := none, regs := [(A.GATE_CFG 0 2, 0x80050001#32)], ready := 0, refuse := 0, before := none, acks := 0, since := 0 } : Commit)] } };
     commitOf s part = some c ∧ c.phase = .activating ∧ c.before = none ∧ c.teardown = false ∧ c.items = [] ∧ c.hdr = none ∧
     c.regs = [(a, v)] ∧ rwcMask a ≠ 0 ∧ part < 0x80 ∧ (partSeqs s part).all (fun q => (seqOf s q).state != .running) = true ∧
     (c.acks ||| acks) &&& BitVec.ofNat 8 (dieMask s) ≠ BitVec.ofNat 8 (dieMask s)) ∧
  (let part := (5 : Nat); let acks := 1#8;
     let c := ({ part := 5, at_ := 0, group := 0, ticket := some 3, teardown := true, phase := .activating, items := [], hdr := none, regs := [], ready := 0, refuse := 0, before := none, acks := 0, since := 0 } : Commit);
     let s := { boundW with alm := { boundW.alm with commits := [({ part := 5, at_ := 0, group := 0, ticket := some 3, teardown := true, phase := .activating, items := [], hdr := none, regs := [], ready := 0, refuse := 0, before := none, acks := 0, since := 0 } : Commit)] } };
     commitOf s part = some c ∧ c.phase = .activating ∧ c.before = none ∧ c.at_ = 0 ∧ c.teardown = true ∧ c.items = [] ∧
     c.part = part ∧ part < 64 ∧ (c.acks ||| acks) &&& BitVec.ofNat 8 (dieMask s) ≠ BitVec.ofNat 8 (dieMask s)) ∧
  (let part := (5 : Nat); let acks := 0xFF#8;
     let c := ({ part := 5, at_ := 0, group := 0, ticket := some 3, teardown := true, phase := .activating, items := [], hdr := none, regs := [], ready := 0, refuse := 0, before := none, acks := 0, since := 0 } : Commit);
     let s := { boundW with alm := { boundW.alm with commits := [({ part := 5, at_ := 0, group := 0, ticket := some 3, teardown := true, phase := .activating, items := [], hdr := none, regs := [], ready := 0, refuse := 0, before := none, acks := 0, since := 0 } : Commit)] } };
     let k := (3 : Nat); part < 64 ∧ commitOf s part = some c ∧ c.ticket = some k ∧ c.phase = .activating ∧ c.before = none ∧
     c.at_ = 0 ∧ c.teardown = true ∧ c.items = [] ∧ c.part = part ∧
     (c.acks ||| acks) &&& BitVec.ofNat 8 (dieMask s) = BitVec.ofNat 8 (dieMask s)) ∧
  (let part := (5 : Nat); let acks := 0xFE#8; let b := ((z.cfg, []) : HwCfg × Table Word);
     let c := ({ part := 5, at_ := 0, group := 0, ticket := some 3, teardown := false, phase := .activating, items := [], hdr := none, regs := [], ready := 0, refuse := 0, before := some (z.cfg, []), acks := 1, since := 0 } : Commit);
     let s := { z with alm := { z.alm with commits := [({ part := 5, at_ := 0, group := 0, ticket := some 3, teardown := false, phase := .activating, items := [], hdr := none, regs := [], ready := 0, refuse := 0, before := some (z.cfg, []), acks := 1, since := 0 } : Commit)] } };
     let k := (3 : Nat); part < 128 ∧ commitOf s part = some c ∧ c.ticket = some k ∧ c.phase = .activating ∧ c.before = some b ∧
     (c.acks ||| acks) &&& BitVec.ofNat 8 (dieMask s) = BitVec.ofNat 8 (dieMask s)) ∧
  (let part := (5 : Nat); let acks := 0xFF#8;
     let c := ({ part := 5, at_ := 0, group := 0, ticket := some 3, teardown := false, phase := .activating, items := [.own 5 (.engine 5 2)], hdr := none, regs := [], ready := 0, refuse := 0, before := none, acks := 0, since := 0 } : Commit);
     let s := { z with alm := { z.alm with commits := [{ part := 5, at_ := 0, group := 0, ticket := some 3, teardown := false, phase := .activating, items := [.own 5 (.engine 5 2)], hdr := none, regs := [], ready := 0, refuse := 0, before := none, acks := 0, since := 0 }] } };
     let k := (3 : Nat); part < 128 ∧ commitOf s part = some c ∧ c.ticket = some k ∧ c.phase = .activating ∧ c.before = none ∧
     (c.at_ = 0 ∨ (partSeqs s part).all (fun q => (seqOf s q).state != .running) = true) ∧
     (c.acks ||| acks) &&& BitVec.ofNat 8 (dieMask s) = BitVec.ofNat 8 (dieMask s)) ∧
  (let part := (5 : Nat); let cfg0 := ({ owners := [(.engine 5 2, 5)] } : HwCfg); let keep := ([] : Table Word);
     let c := ({ part := 5, at_ := 0, group := 0, ticket := some 3, teardown := false, phase := .activating, items := [.residual], hdr := none, regs := [], ready := 0, refuse := 0, before := some ({ owners := [(.engine 5 2, 5)] }, []), acks := 0, since := 0 } : Commit);
     let s := modClk .keel (fun c => { c with pe := 125000 }) { z with alm := { z.alm with commits := [{ part := 5, at_ := 0, group := 0, ticket := some 3, teardown := false, phase := .activating, items := [.residual], hdr := none, regs := [], ready := 0, refuse := 0, before := some ({ owners := [(.engine 5 2, 5)] }, []), acks := 0, since := 0 }] } };
     let k := (3 : Nat); part < 128 ∧ c.ticket = some k ∧ commitOf s part = some c ∧ c.before = some (cfg0, keep) ∧
     c.since + usCyc 100 ≤ pe s .keel ∧ (opstat s k).state ≠ .ended) ∧
  (let part := (5 : Nat); let cfg0 := z.cfg; let a := (A.GATE_CFG 0 2 : Nat); let v := 0x80050001#32;
     let c := ({ part := 5, at_ := 0, group := 0, ticket := some 3, teardown := false, phase := .activating, items := [], hdr := none, regs := [], ready := 0, refuse := 0, before := some (z.cfg, [(A.GATE_CFG 0 2, 0x80050001#32)]), acks := 0, since := 0 } : Commit);
     let s := modClk .keel (fun c => { c with pe := 125000 }) { z with alm := { z.alm with commits := [({ part := 5, at_ := 0, group := 0, ticket := some 3, teardown := false, phase := .activating, items := [], hdr := none, regs := [], ready := 0, refuse := 0, before := some (z.cfg, [(A.GATE_CFG 0 2, 0x80050001#32)]), acks := 0, since := 0 } : Commit)] } };
     part < 128 ∧ commitOf s part = some c ∧ c.before = some (cfg0, [(a, v)]) ∧ rwcMask a ≠ 0 ∧ c.since + usCyc 100 ≤ pe s .keel) ∧
  (let v := 0x40000005#32;
     let c := ({ part := 5, at_ := 9, group := 0, ticket := some 3, teardown := false, phase := .waiting, items := [.residual], hdr := none, regs := [], ready := 0, refuse := 0, before := none, acks := 0, since := 0 } : Commit);
     let s := { z with alm := { z.alm with commits := [{ part := 5, at_ := 9, group := 0, ticket := some 3, teardown := false, phase := .waiting, items := [.residual], hdr := none, regs := [], ready := 0, refuse := 0, before := none, acks := 0, since := 0 }] } };
     let k := (3 : Nat); commitOf s (bits v 0 7) = some c ∧ bit v 30 = true ∧ c.ticket = some k ∧ c.phase = .waiting ∧
     (opstat s k).state ≠ .ended) ∧
  (let s := { wr A.ALM_KEY_HASH 7#32 z with host := { z.host with unlocked := [0x300000] } }; let v := 0x80000002#32;
     let i := bits v 0 2; s.host.unlocked.contains 0x300000 = true ∧ bit v 31 = true ∧ i ≠ 0 ∧ s.alm.keys.getD i none = none) ∧
  (let s := { z with host := { z.host with unlocked := [0x300000] } }; let v := 0x80000002#32;
     s.host.unlocked.contains 0x300000 = true ∧ bit v 31 = true ∧
     (List.range 4).any (fun j => j != bits v 0 2 && keyUsable s j) = true) ∧
  (let s := { z with host := { z.host with unlocked := [0x300000] } }; let v := 0x80000000#32;
     s.host.unlocked.contains 0x300000 = true ∧ bit v 31 = true ∧
     (List.range 4).any (fun j => j != bits v 0 2 && keyUsable s j) = false) ∧
  (let s := z; let v := 0x80000002#32; s.host.unlocked.contains 0x300000 = false) ∧
  (let s := z; let v := 0x80000002#32; s.host.unlocked.contains 0x300000 = false) := by
  and_intros <;> decide +kernel

theorem witness_Hellos :
  (let s := modPort .keel 8 (fun x => { x with linkUp := true }) z; let n := Node.keel; let p := (8 : Nat);
     nodeRuns s n = true ∧ portWorks s n p = true ∧ linkStands s n p = true ∧ (port s n p).linkUp = true ∧
     helloTime s n p = true) ∧
  (let s := modPort .keel 8 (fun x => { x with linkUp := true }) z; let n := Node.keel; let p := (8 : Nat);
     let m := mkMsg 8 0 0 (bodyOf [(12, toBE 4 9), (26, toBE 2 3)]); nodeRuns s n = true ∧ (port s n p).linkUp = true ∧
     portWorks s n p = true ∧ linkStands s n p = true ∧ mCrcOk m = true ∧ mType m = 8 ∧ expectOf s n p = none ∧
     (nbrOf s n p).heard = false) ∧
  (let s := modNbr .keel 8 (fun _ => nbrW) (modPort .keel 8 (fun x => { x with linkUp := true }) z); let p := (8 : Nat);
     let m := mkMsg 8 0 0 (bodyOf [(12, toBE 4 9), (26, toBE 2 3)]); let new := helloOf s .keel p m; nodeRuns s .keel = true ∧
     (port s .keel p).linkUp = true ∧ portWorks s .keel p = true ∧ linkStands s .keel p = true ∧ mCrcOk m = true ∧ mType m = 8 ∧
     expectOf s .keel p = none ∧ (nbrOf s .keel p).heard = true ∧ (nbrOf s .keel p).miswire = false ∧
     otherNbr (nbrOf s .keel p) new = true ∧ pe s .keel - (nbrOf s .keel p).lastRx ≤ helloPeriod s .keel p) ∧
  (let s := modClk .keel (fun c => { c with pe := 3750000 }) (modNbr .keel 8 (fun _ => nbrW) z); let n := Node.keel;
     let p := (8 : Nat); (nbrOf s n p).heard = true ∧ (nbrOf s n p).lastRx + 3 * helloPeriod s n p ≤ pe s n) := by
  and_intros <;> decide +kernel

theorem witness_Tcam :
  (let s := modRdie 1 (fun x => { x with live := [(5, fwdW)] }) z; let die := (2 : Nat); let v := 1#64; let g := (0 : Nat);
     1 ≤ die ∧ die ≤ 4 ∧ diePresent s die = true ∧ g < 64 ∧ v.getLsbD g = true ∧ segLocked s (die - 1) g = false) ∧
  (let s := modRdie 1 (fun x => { x with live := [(5, fwdW)], work := [(0, [(6, fwdW)])] }) z; let die := (2 : Nat);
     let v := 1#64; let g := (0 : Nat); let w := [((6 : Nat), fwdW)]; let x := rdie s (die - 1);
     let all := w.foldl (fun t e => tset 0 t e.1 e.2) (x.live.filter (fun e => e.1 / 1024 != g)); 1 ≤ die ∧ die ≤ 4 ∧
     diePresent s die = true ∧ (segNames v).filter (segLocked s (die - 1)) = [g] ∧ tfind g x.work = some w ∧
     segFault s (die - 1) g all = none) ∧
  (let s := modRdie 1 (fun x => { x with live := [(5, fwdW)], work := [(0, [(6, fwdW + 1#128)])] }) z; let die := (2 : Nat);
     let v := 1#64; let g := (0 : Nat); let w := [((6 : Nat), fwdW + 1#128)]; let c := (3 : Nat); let i := (6 : Nat);
     let x := rdie s (die - 1); let all := w.foldl (fun t e => tset 0 t e.1 e.2) (x.live.filter (fun e => e.1 / 1024 != g));
     1 ≤ die ∧ die ≤ 4 ∧ diePresent s die = true ∧ (segNames v).filter (segLocked s (die - 1)) = [g] ∧ tfind g x.work = some w ∧
     segFault s (die - 1) g all = some (c, i)) ∧
  (let s := modRdie 1 (fun x => { x with live := [(5, fwdW)], work := [(0, [(6, fwdW)])] }) z; let die := (2 : Nat);
     let v := 1#64; let g := (0 : Nat); 1 ≤ die ∧ die ≤ 4 ∧ diePresent s die = true ∧ g < 64 ∧ v.getLsbD g = true) ∧
  (let s := regsOf [(A.TCAM_IDX 1, 6#32), (A.TCAM_CNT 1, 2#32), (A.TCAM_SRC 1, 0x1000#32)] (modRdie 1 (fun x => { x with work := [(0, [])] }) z);
     let die := (2 : Nat); let v := 0x80000000#32; let k := (0 : Nat); let i := rf s (A.TCAM_IDX (die - 1)) 0 16;
     let c := rf s (A.TCAM_CNT (die - 1)) 0 17; let src := BitVec.ofNat 64 (rn64 s (A.TCAM_SRC (die - 1))); 1 ≤ die ∧ die ≤ 4 ∧
     diePresent s die = true ∧ bit v 31 = true ∧ (rdie s (die - 1)).req = none ∧ nextTicket s = some k ∧ i + c ≤ 65536 ∧
     (c = 0 ∨ (List.range 64).all (fun g => segLocked s (die - 1) g || decide (g < i / 1024) || decide ((i + c - 1) / 1024 < g)) = true)) ∧
  (let s := modRdie 1 (fun x => { x with work := [(0, [])], req := some ⟨4, 0, 6, 1⟩ }) z; let die := (2 : Nat);
     let r := (⟨4, 0, 6, 1⟩ : TcamReq); let w := ([] : Table TcamEntry); let e := fwdW; let x := rdie s (die - 1); 1 ≤ die ∧
     die ≤ 4 ∧ diePresent s die = true ∧ x.req = some r ∧ 1 ≤ r.cnt ∧ tfind (r.idx / 1024) x.work = some w ∧
     (opstat s r.ticket).state ≠ .ended) ∧
  (let w := ([] : Table TcamEntry); let e := fwdW;
     let s := modRdie 1 (fun x => { x with work := [(0, [])], req := some ⟨4, 0, 6, 1⟩ }) z; let die := (2 : Nat);
     let r := (⟨4, 0, 6, 1⟩ : TcamReq); let x := rdie s (die - 1); 1 ≤ die ∧ die ≤ 4 ∧ diePresent s die = true ∧
     x.req = some r ∧ 1 ≤ r.cnt ∧ tfind (r.idx / 1024) x.work = some w ∧ (opstat s r.ticket).state ≠ .ended) := by
  and_intros <;> decide +kernel

theorem witness_Frames :
  (let s := modRdie 0 (fun x => { x with live := [(5, fwdW)] }) z; let p := (8 : Nat); let nb := true; let e := fwdW;
     let m := frameW 1 8; let d := portDie p - 1; let f := frameOf m; let q := tcTarget e; let out := frameOut false m;
     portMoves s p = true ∧ (tget {} s.rt.nbrs p).miswire = false ∧ frameHeadOk m = true ∧ f.cls ≠ 0 ∧ frameStomped m = false ∧
     frameTrailOk m = true ∧ f.ttl ≠ 0 ∧ f.dst / 4096 ≠ nodeId s .keel ∧ tcLookup s d f.dst f.part f.cls = some e ∧
     tcAction e = 1 ∧ (tget {} s.rt.nbrs q).miswire = false ∧ portMoves s q = true ∧
     (isFenced f.cls = false ∨ (portOwned s f q = true ∧ s.hl.expelled = false ∧ portSplit s q = false ∧ (f.cls = 2 → nb = false)))) ∧
  (let s := z; let p := (8 : Nat); let nb := true; let m := frameW 1 8; let d := portDie p - 1; let f := frameOf m;
     portMoves s p = true ∧ (tget {} s.rt.nbrs p).miswire = false ∧ frameHeadOk m = true ∧ f.cls ≠ 0 ∧ frameStomped m = false ∧
     frameTrailOk m = true ∧ f.ttl ≠ 0 ∧ f.dst / 4096 ≠ nodeId s .keel ∧ tcLookup s d f.dst f.part f.cls = none) ∧
  (let s := z; let p := (8 : Nat); let nb := true; let m := frameW 1 0; let d := portDie p - 1; let f := frameOf m;
     portMoves s p = true ∧ (tget {} s.rt.nbrs p).miswire = false ∧ frameHeadOk m = true ∧ f.cls ≠ 0 ∧ frameStomped m = false ∧
     frameTrailOk m = true ∧ f.ttl = 0) ∧
  (let s := z; let p := (8 : Nat); let nb := true; let m := ([1, 2, 3] : Raw); portMoves s p = true ∧
     (tget {} s.rt.nbrs p).miswire = false ∧ frameHeadOk m = false) ∧
  (let s := modRdie 0 (fun x => { x with live := [(5, trapW)] }) z; let p := (8 : Nat); let nb := true; let e := trapW;
     let m := frameW 1 8; let d := portDie p - 1; let f := frameOf m; portMoves s p = true ∧
     (tget {} s.rt.nbrs p).miswire = false ∧ frameHeadOk m = true ∧ f.cls ≠ 0 ∧ frameStomped m = false ∧ frameTrailOk m = true ∧
     f.ttl ≠ 0 ∧ f.dst / 4096 ≠ nodeId s .keel ∧ tcLookup s d f.dst f.part f.cls = some e ∧ tcAction e = 4) ∧
  (let s := { z with clks := { z.clks with dies := [(1, { heldReset := true })] } }; let p := (8 : Nat); let nb := true;
     let m := frameW 1 8; portMoves s p = false) ∧
  (let s := modRdie 1 (fun x => { x with learn := [⟨.srcNew, 1, 0, 1, 0, 0, 0, 0⟩] }) z; let die := (2 : Nat); 1 ≤ die ∧
     die ≤ 4 ∧ diePresent s die = true ∧ snapView s = false ∧ latched s (A.LEARN_POP (die - 1)) = none) := by
  and_intros <;> decide +kernel

theorem witness_Bales :
  (let s := wsW; let p := (8 : Nat); let die := (6 : Nat); let m := ([1] : Raw); portMoves s p = true ∧
     (nbrOf s .keel p).miswire = false ∧ headOk m = false ∧ 5 ≤ die ∧ die < 7 ∧ reduceDie s (die - 5) = true) ∧
  (let s := wsW; let p := (8 : Nat); let m := baleBytes (baleW false); let dx := (0 : Nat); let w := (3 : Nat);
     let k := (⟨7, 1, [7]⟩ : Child); let b := baleOf m; let c := wsCfg s dx w; let x := wsOf s dx w; headOk m = true ∧
     wsOfTree s b.tree.toNat = [(dx, w)] ∧ portMoves s p = true ∧ (nbrOf s .keel p).miswire = false ∧ dx < 2 ∧ b.down = false ∧
     (c.op ≠ 3 ∧ c.op ≠ 4 ∧ c.op ≠ 5) ∧ b.format.toNat = c.format ∧ b.variant = c.variant ∧
     (b.step.toNat = wsStepNow s dx w ∨ b.step.toNat = wsStepNow s dx w + 1) ∧
     c.children.find? (fun k => k.node == b.source) = some k ∧ childOut x b.step.toNat k = false ∧
     x.seen.contains (b.bale.toNat, b.source, b.step.toNat) = false ∧
     (b.step.toNat ≠ x.step ∨ x.consumed.contains b.bale.toNat = false) ∧ bankAccess s dx c.bank c.engine = none ∧
     logMode s dx ≠ 2 ∧ s.tw.mode ≠ .shadow) ∧
  (let s := modWs 0 3 (fun x => { x with landed := [baleW false], seen := [(2, 7, 0)] }) wsW; let p := (8 : Nat);
     let m := baleBytes (baleW false); let dx := (0 : Nat); let w := (3 : Nat); let k := (⟨7, 1, [7]⟩ : Child);
     let b := baleOf m; let c := wsCfg s dx w; let x := wsOf s dx w; headOk m = true ∧ wsOfTree s b.tree.toNat = [(dx, w)] ∧
     portMoves s p = true ∧ (nbrOf s .keel p).miswire = false ∧ dx < 2 ∧ b.down = false ∧ (c.op ≠ 3 ∧ c.op ≠ 4 ∧ c.op ≠ 5) ∧
     b.format.toNat = c.format ∧ b.variant = c.variant ∧
     (b.step.toNat = wsStepNow s dx w ∨ b.step.toNat = wsStepNow s dx w + 1) ∧
     c.children.find? (fun k => k.node == b.source) = some k ∧ childOut x b.step.toNat k = false ∧
     x.seen.contains (b.bale.toNat, b.source, b.step.toNat) = true) ∧
  (let s := wsW; let p := (8 : Nat); let die := (5 : Nat); let m := baleBytes (baleW true); let dx := (0 : Nat);
     let w := (3 : Nat); let b := baleOf m; let c := wsCfg s dx w; let qs := downPorts c b.bale.toNat; portMoves s p = true ∧
     (nbrOf s .keel p).miswire = false ∧ headOk m = true ∧ treeStation s b.tree.toNat die = some (dx, w) ∧ b.down = true ∧
     serving s = true ∧ baleGoes s c dx qs m = true) ∧
  (let s := { wsW with cfg := { wsW.cfg with ws := [(3, { enable := true, tree := 5, format := 9, op := 3, uplink := some 16, engine := 3, bank := 1, dest := [8, 16], children := [⟨7, 1, [7]⟩] })] } };
     let p := (8 : Nat); let die := (5 : Nat); let m := baleBytes (baleW false); let dx := (0 : Nat); let w := (3 : Nat);
     let b := baleOf m; let c := wsCfg s dx w; portMoves s p = true ∧ (nbrOf s .keel p).miswire = false ∧ headOk m = true ∧
     treeStation s b.tree.toNat die = some (dx, w) ∧ b.down = false ∧ (c.op = 3 ∨ c.op = 4) ∧ c.top = false ∧ serving s = true ∧
     baleGoes s c dx c.uplink.toList m = true) ∧
  (let s := { wsW with cfg := { wsW.cfg with ws := [(3, { enable := true, tree := 5, format := 9, op := 4, top := true, engine := 3, bank := 1, dest := [8, 16], children := [⟨7, 1, [7]⟩] })] } };
     let p := (8 : Nat); let die := (5 : Nat); let m := baleBytes (baleW false); let dx := (0 : Nat); let w := (3 : Nat);
     let b := baleOf m; let c := wsCfg s dx w; let m1 := baleBytes { b with down := true }; portMoves s p = true ∧
     (nbrOf s .keel p).miswire = false ∧ headOk m = true ∧ treeStation s b.tree.toNat die = some (dx, w) ∧ b.down = false ∧
     (c.op = 3 ∨ c.op = 4) ∧ c.top = true ∧ serving s = true ∧ baleGoes s c dx c.dest m1 = true) ∧
  (let s := { wsW with cfg := { wsW.cfg with ws := [(3, { enable := true, tree := 5, format := 9, op := 5, owners := [(1, 8), (2, 16)], engine := 3, bank := 1, dest := [8, 16], children := [⟨7, 1, [7]⟩] })] } };
     let p := (8 : Nat); let die := (5 : Nat); let m := baleBytes (baleW false); let dx := (0 : Nat); let w := (3 : Nat);
     let b := baleOf m; let c := wsCfg s dx w; let qs := (c.owners.filter (fun o => o.1 == b.bale.toNat)).map (fun o => o.2);
     portMoves s p = true ∧ (nbrOf s .keel p).miswire = false ∧ headOk m = true ∧
     treeStation s b.tree.toNat die = some (dx, w) ∧ b.down = false ∧ c.op = 5 ∧ serving s = true ∧ baleGoes s c dx qs m = true) := by
  and_intros <;> decide +kernel

theorem witness_Circuits :
  (let s := modGrp .keel 2 (fun g => { g with step := 3 }) { z with cfg := { z.cfg with circuits := [⟨2, 5, 0, [(1, 17)]⟩] } };
     let k := (2 : Nat); let tr := (5 : Nat); let a := (1 : Nat); let b := (17 : Nat); s.straps.variant = 0 ∧
     (grp s .keel k).step ≠ 0 ∧ fullAtOrAfter (now s .keel) (grp s .keel k).lastAt = true ∧ groupCircuits s k = [(tr, a, b)] ∧
     a ≠ b ∧ (bypOf s a).owner ≠ some (k, tr)) ∧
  (let s := modByp 1 (fun _ => { state := .setting, peer := some 17 }) (modByp 17 (fun _ => { state := .setting, peer := some 1 }) z);
     let g := (1 : Nat); let h := (17 : Nat); (bypOf s g).state = .setting ∧ (bypOf s g).peer = some h) ∧
  (let s := modClk .keel (fun c => { c with pe := 25000 }) <| modByp 1 (fun _ => { state := .setting, peer := some 17 }) (modByp 17 (fun _ => { state := .setting, peer := some 1 }) z);
     let g := (1 : Nat); let h := (17 : Nat); (bypOf s g).state = .setting ∧ (bypOf s g).peer = some h ∧
     (bypOf s g).since + usCyc 20 ≤ pe s .keel) ∧
  (let ya := ({ state := .set, peer := some 17, owner := some (2, 5) } : Byp);
     let yb := ({ state := .set, peer := some 1, owner := some (2, 5) } : Byp);
     let s := modByp 1 (fun _ => ya) (modByp 17 (fun _ => yb) z); let k := (2 : Nat); let a := (1 : Nat); let b := (17 : Nat);
     (List.range 8).all (fun q => !flag s (A.SEQ_CFG q) 31 || rf s (A.SEQ_CFG q) 0 6 != k || (seqOf s q).state == .idle) = true ∧
     s.rt.byps.filter (fun e => e.2.owner.any (fun o => o.1 == k)) = [(a, ya), (b, yb)] ∧ a ≠ b ∧
     (bypOf s a).owner.isSome = true ∧ ya.peer = some b) ∧
  (let s := modClk .keel (fun c => { c with pe := 25000 }) (modByp 17 (fun _ => { state := .set, peer := some 33, spill := true }) { z with rt := { z.rt with egress := [(256, { held := [(heldKey 4 128, 0)] })] }, cfg := { z.cfg with spills := [(17, 33)], byps := [(17, [1]), (33, [1])], ports := [(128, { lanes := 8 }), (256, { lanes := 8 })] } });
     let p := (128 : Nat); let cls := (4 : Nat); let a := (17 : Nat); let b := (33 : Nat);
     let leaf := ((groupPorts s b).head?.map (fun q => (nbrOf s .keel q).node * 4096)).getD 0;
     let f := frameMake (ctrlFrame s p (toBE 2 ctrlSpill ++ toBE 1 1 ++ toBE 1 cls ++ toBE 2 a ++ toBE 4 leaf ++ toBE 8 0));
     3 ≤ cls ∧ cls ≤ 6 ∧ (tget {} s.rt.egress p).spillOn.length = 4 ∧ spilling s p cls = false ∧ s.straps.variant = 0 ∧
     spillAt s p = some (a, b) ∧ spillHeld s p cls b = true ∧ portMoves s p = true ∧ (nbrOf s .keel p).miswire = false) ∧
  (let s := modClk .keel (fun c => { c with pe := 25000 }) (modByp 17 (fun _ => { state := .set, peer := some 33, spill := true }) { z with rt := { z.rt with egress := [(128, { spillOn := [false, true, false, false] }), (256, { low := [none, some 0, none, none] })] }, cfg := { z.cfg with spills := [(17, 33)], byps := [(17, [1]), (33, [1])], ports := [(128, { lanes := 8 }), (256, { lanes := 8 })] } });
     let p := (128 : Nat); let cls := (4 : Nat); let a := (17 : Nat); let b := (33 : Nat);
     let leaf := ((groupPorts s b).head?.map (fun q => (nbrOf s .keel q).node * 4096)).getD 0;
     let f := frameMake (ctrlFrame s p (toBE 2 ctrlSpill ++ toBE 1 2 ++ toBE 1 cls ++ toBE 2 a ++ toBE 4 leaf ++ toBE 8 0));
     3 ≤ cls ∧ cls ≤ 6 ∧ (tget {} s.rt.egress p).spillOn.length = 4 ∧ spilling s p cls = true ∧ spillAt s p = some (a, b) ∧
     spillEased s cls b = true ∧ portMoves s p = true ∧ (nbrOf s .keel p).miswire = false) ∧
  (let s := wr (A.SPILL_BYTES 0 0) 0xFFFFFFFF#32 z; let p := (6 : Nat);
     let m := toBE 2 0x0101 ++ [3, 4, 0, 0, 0, 0, 0, 0] ++ toBE 8 5; let a := A.SPILL_BYTES (portDie p - 1) (portLevel s p);
     18 ≤ m.length ∧ getBE m 0 2 = ctrlSpill ∧ getBE m 2 1 = 3 ∧ s.straps.variant = 0) := by
  and_intros <;> decide +kernel

theorem witness_Arrivals :
  (let s := grpW; let n := Node.keel; let p := (8 : Nat); let b := (0 : Nat); let m := arrW 1; let k := getBE m 12 1 % 64;
     let q := arrivePlane s n p 0 m; let g := grp s n k; let ts := substStamp (countedOf m).latest (rxStamp s n p b);
     nodeRuns s n = true ∧ (port s n p).linkUp = true ∧ portWorks s n p = true ∧ linkStands s n p = true ∧ mCrcOk m = true ∧
     mType m = 5 ∧ aggregates s n = true ∧ getBE m 13 1 = 0 ∧ arriveOk s n k p m = true ∧
     frozenFor s n k (getBE m 16 8) = false ∧ g.planes.length = 2 ∧ getBE m 16 8 = g.step + 1 ∧
     (planeOf g q).counted.any (fun y => y.node == (countedOf m).node && y.aggregate == (countedOf m).aggregate) = false) ∧
  (let s := grpW; let n := Node.keel; let p := (8 : Nat); let b := (0 : Nat); let m := arrW 2; let k := getBE m 12 1 % 64;
     let q := arrivePlane s n p 0 m; let g := grp s n k; let ts := substStamp (countedOf m).latest (rxStamp s n p b);
     nodeRuns s n = true ∧ (port s n p).linkUp = true ∧ portWorks s n p = true ∧ linkStands s n p = true ∧ mCrcOk m = true ∧
     mType m = 5 ∧ aggregates s n = true ∧ getBE m 13 1 = 0 ∧ arriveOk s n k p m = true ∧
     frozenFor s n k (getBE m 16 8) = false ∧ g.planes.length = 2 ∧ getBE m 16 8 = g.step + 2 ∧
     (planeOf g q).held.any (fun y => y.node == (countedOf m).node && y.aggregate == (countedOf m).aggregate) = false) ∧
  (let s := modGrp .keel 2 (fun g => { g with planes := [{ counted := [inW 7] }, {}] }) grpW; let p := (8 : Nat);
     let b := (0 : Nat); let m := arrW 1; let k := getBE m 12 1 % 64; let g := grp s .keel k; nodeRuns s .keel = true ∧
     (port s .keel p).linkUp = true ∧ portWorks s .keel p = true ∧ linkStands s .keel p = true ∧ mCrcOk m = true ∧ mType m = 5 ∧
     getBE m 13 1 = 0 ∧ arriveOk s .keel k p m = true ∧ frozenFor s .keel k (getBE m 16 8) = false ∧ getBE m 16 8 = g.step + 1 ∧
     (planeOf g (arrivePlane s .keel p 0 m)).counted.any (fun y => y.node == (countedOf m).node && !y.aggregate) = true) ∧
  (let s := grpW; let p := (8 : Nat); let b := (0 : Nat); let m := arrW 3; let k := getBE m 12 1 % 64;
     nodeRuns s .keel = true ∧ (port s .keel p).linkUp = true ∧ portWorks s .keel p = true ∧ linkStands s .keel p = true ∧
     mCrcOk m = true ∧ mType m = 5 ∧ getBE m 13 1 = 0 ∧ arriveOk s .keel k p m = true ∧
     frozenFor s .keel k (getBE m 16 8) = false ∧ (grp s .keel k).step + 2 < getBE m 16 8) ∧
  (let s := grpW; let p := (8 : Nat); let b := (0 : Nat); let m := arrW 0; let k := getBE m 12 1 % 64;
     nodeRuns s .keel = true ∧ (port s .keel p).linkUp = true ∧ portWorks s .keel p = true ∧ linkStands s .keel p = true ∧
     mCrcOk m = true ∧ mType m = 5 ∧ getBE m 13 1 = 0 ∧ arriveOk s .keel k p m = true ∧
     frozenFor s .keel k (getBE m 16 8) = false ∧ getBE m 16 8 < (grp s .keel k).step + 1) ∧
  (let s := modPort .keel 8 (fun x => { x with linkUp := true }) z; let p := (8 : Nat); let b := (0 : Nat); let m := arrW 1;
     let k := getBE m 12 1 % 64; nodeRuns s .keel = true ∧ (port s .keel p).linkUp = true ∧ portWorks s .keel p = true ∧
     linkStands s .keel p = true ∧ mCrcOk m = true ∧ mType m = 5 ∧ arriveOk s .keel k p m = false) ∧
  (let s := modClk .keel (fun c => { c with pe := 12500000 }) (modGrp .keel 2 (fun g => { g with planes := [{ counted := [inW 7] }, {}] }) grpW);
     let k := (2 : Nat); let p := (16 : Nat); let q := ownPlane s; let g := grp s .keel k;
     let body := aggBody s .keel k q (g.step + 1) (planeOf g q).counted (planeArrived g q) (planeExpected s .keel k q) false;
     g.planes.length = 2 ∧ (planeOf g q).counted ≠ [] ∧ planeComplete s .keel k q = false ∧
     (planeOf g q).lastSent + usCyc (rn s A.AGG_PERIOD) ≤ pe s .keel ∧ uplinkOf s .keel k q = some p ∧
     (port s .keel p).linkUp = true ∧ linkStands s .keel p = true ∧ ((p = 512 ∧ s.tw.link = .linkLost) = False) ∧
     nodeServes s .keel = true) ∧
  (let s := modGrp .keel 2 (fun g => { g with cfg := { bindW with adjContrib := true } }) grpW; let k := (2 : Nat);
     let g := grp s .keel k; groupOn s .keel k = true ∧ g.cfg.adjContrib = true ∧ nodeServes s .keel = true ∧
     adjReady s k = true ∧ g.adjArrived ≠ g.step + 1 ∧ g.planes.length = 2 ∧
     (planeOf g (ownPlane s)).counted.any (fun y => y.node == BitVec.ofNat 20 (nodeId s .keel) && !y.aggregate) = false) := by
  and_intros <;> decide +kernel

theorem witness_LaunchDecisions :
  (let s := modPort .keel 512 (fun x => { x with linkUp := true }) { fullW with tw := { fullW.tw with mode := .split, link := .up } };
     let k := (2 : Nat); let x := launchFor s k none false; decides s k = true ∧ musterOn s .keel k = true ∧
     (List.range 2).any (planeComplete s .keel k) = true ∧ s.tw.mode = .split ∧ twinUp s = true ∧ s.tw.link ≠ .linkLost) ∧
  (let s := { fullW with tw := { fullW.tw with mode := .solo } }; let k := (2 : Nat); let x := launchFor s k none false;
     decides s k = true ∧ musterOn s .keel k = true ∧ (List.range 2).any (planeComplete s .keel k) = true ∧ s.tw.mode = .solo) ∧
  (let s := modClk .keel (fun c => { c with now := ⟨0, 9000000, 0⟩ }) (modGrp .keel 2 (fun g => { g with params := (1, 5000, 24000, 12000), planes := [{ counted := [inW 7] }, {}] }) { fullW with tw := { fullW.tw with mode := .split, link := .up } });
     let k := (2 : Nat); let e := (⟨0, 0, 5 * 65536⟩ : FabTime); let x := launchFor s k (some (now64 s .keel)) false;
     decides s k = true ∧ musterOn s .keel k = true ∧ musterEarliest s k = some e ∧
     (List.range 2).any (planeComplete s .keel k) = false ∧
     fullAtOrAfter (now s .keel) (fabAdd e (usU (grp s .keel k).params.2.1 * 65536 : Nat)) = true ∧
     (grp s .keel k).params.1 = 1 ∧ adjsIn s k = true ∧ s.tw.mode = .split) ∧
  (let s := modClk .keel (fun c => { c with now := ⟨0, 9000000, 0⟩ }) (modGrp .keel 2 (fun g => { g with planes := [{ counted := [inW 7] }, {}] }) fullW);
     let k := (2 : Nat); let e := (⟨0, 0, 5 * 65536⟩ : FabTime); decides s k = true ∧ musterOn s .keel k = true ∧
     musterEarliest s k = some e ∧ (List.range 2).any (planeComplete s .keel k) = false ∧
     fullAtOrAfter (now s .keel) (fabAdd e (usU (grp s .keel k).params.2.1 * 65536 : Nat)) = true ∧
     (grp s .keel k).params.1 ≠ 1 ∧ (grp s .keel k).straggled = false) ∧
  (let s := modClk .keel (fun c => { c with now := ⟨0, 9000000, 0⟩ }) (modGrp .keel 2 (fun g => { g with cfg := { bindW with adjs := [9] }, params := (1, 5000, 24000, 12000), planes := [{ counted := [inW 7] }, {}] }) fullW);
     let k := (2 : Nat); let e := (⟨0, 0, 5 * 65536⟩ : FabTime); decides s k = true ∧ musterOn s .keel k = true ∧
     musterEarliest s k = some e ∧ (List.range 2).any (planeComplete s .keel k) = false ∧
     fullAtOrAfter (now s .keel) (fabAdd e (usU (grp s .keel k).params.2.1 * 65536 : Nat)) = true ∧
     (grp s .keel k).params.1 = 1 ∧ adjsIn s k = false ∧ (grp s .keel k).blocked = false) ∧
  (let s := modGrp .keel 2 (fun g => { g with planes := [{ counted := [inW 7] }, {}] }) { fullW with tw := { fullW.tw with mode := .split, link := .up } };
     let k := (2 : Nat); let x := launchFor s k (some (now64 s .keel)) true; decides s k = true ∧ musterOn s .keel k = true ∧
     adjsIn s k = true ∧ s.tw.mode = .split) ∧
  (let s := modGrp .keel 2 (fun g => { g with cfg := { bindW with adjs := [9] }, planes := [{ counted := [inW 7] }, {}] }) fullW;
     let k := (2 : Nat); decides s k = true ∧ musterOn s .keel k = true ∧ adjsIn s k = false ∧ (grp s .keel k).blocked = false) ∧
  (let s := modGrp .keel 2 (fun g => { g with planes := [{ counted := [inW 7] }, {}] }) { fullW with tw := { fullW.tw with mode := .solo } };
     let k := (2 : Nat); let x := launchFor s k (some (now64 s .keel)) true; decides s k = true ∧ musterOn s .keel k = true ∧
     adjsIn s k = true ∧ s.tw.mode = .solo) ∧
  (let s := grpW; let k := (2 : Nat); s.tw.primary = true ∧ (groupOn s .keel k = false ∨ musterOn s .keel k = false)) := by
  and_intros <;> decide +kernel

theorem witness_LaunchPaths :
  (let s := modGrp .keel 2 (fun g => { g with toTwin := [(launchW, 0, true)] }) grpW; let k := (2 : Nat);
     let step := (1 : Nat); let x := launchW; let t0 := (0 : Nat);
     (grp s .keel k).toTwin.find? (fun y => y.1.step == step) = some (x, t0, true)) ∧
  (let s := modGrp .keel 2 (fun g => { g with toTwin := [(launchW, 0, false)] }) grpW; let k := (2 : Nat);
     let step := (1 : Nat); let x := launchW; let t0 := (0 : Nat);
     (grp s .keel k).toTwin.find? (fun y => y.1.step == step) = some (x, t0, false) ∧ x.group = k) ∧
  (let s := modClk .keel (fun c => { c with pe := 6250 }) (modGrp .keel 2 (fun g => { g with toTwin := [(launchW, 0, false)] }) { grpW with tw := { grpW.tw with mode := .split, link := .up } });
     let k := (2 : Nat); let x := launchW; let t0 := (0 : Nat); (grp s .keel k).toTwin = [(x, t0, false)] ∧ x.group = k ∧
     t0 + usCyc 5 ≤ pe s .keel ∧ s.tw.mode = .split ∧ s.tw.link ≠ .partnerLost) ∧
  (let s := modGrp .keel 2 (fun g => { g with toTwin := [(launchW, 0, false)] }) grpW; let k := (2 : Nat);
     let step := (1 : Nat); let x := launchW; let t0 := (0 : Nat);
     (grp s .keel k).toTwin.find? (fun y => y.1.step == step) = some (x, t0, false) ∧ x.group = k ∧ nodeServes s .keel = true ∧
     s.tw.drill = none ∧ s.tw.rehNow = none ∧ s.tw.rehDue = none) ∧
  (let s := modClk .keel (fun c => { c with pe := 6250 }) (modGrp .keel 2 (fun g => { g with toTwin := [(launchW, 0, false)] }) { grpW with tw := { grpW.tw with mode := .split, link := .up } });
     let k := (2 : Nat); let x := launchW; let t0 := (0 : Nat); (grp s .keel k).toTwin = [(x, t0, false)] ∧ x.group = k ∧
     t0 + usCyc 5 ≤ pe s .keel ∧ nodeServes s .keel = true ∧ s.tw.drill = none ∧ s.tw.rehNow = none ∧ s.tw.rehDue = none) ∧
  (let s := grpW; let n := Node.keel; let p := (16 : Nat); let m := mkMsg 4 0 0 (launchBody launchW false);
     let x := launchOf m; nodeRuns s n = true ∧ (port s n p).linkUp = true ∧ portWorks s n p = true ∧ linkStands s n p = true ∧
     mCrcOk m = true ∧ mType m = 4 ∧ aggregates s n = true ∧ launchPath s n x.group p = true ∧ (grp s n x.group).step < x.step ∧
     nodeServes s n = true ∧ s.tw.drill = none ∧ s.tw.rehNow = none ∧ s.tw.rehDue = none) ∧
  (let s := grpW; let n := Node.keel; let p := (16 : Nat); let m := mkMsg 4 0 0 (launchBody launchW false);
     let x := launchOf m; nodeRuns s n = true ∧ (port s n p).linkUp = true ∧ portWorks s n p = true ∧ linkStands s n p = true ∧
     mCrcOk m = true ∧ mType m = 4 ∧ aggregates s n = true ∧ launchPath s n x.group p = true ∧ (grp s n x.group).step < x.step) ∧
  (let s := modGrp .keel 2 (fun g => { g with step := 1, latest := some launchW }) grpW; let n := Node.keel;
     let p := (16 : Nat); let m := mkMsg 4 0 0 (launchBody launchW false); let x := launchOf m; nodeRuns s n = true ∧
     (port s n p).linkUp = true ∧ portWorks s n p = true ∧ linkStands s n p = true ∧ mCrcOk m = true ∧ mType m = 4 ∧
     aggregates s n = true ∧ launchPath s n x.group p = true ∧ (grp s n x.group).step = x.step ∧
     ((grp s n x.group).latest.map (fun y => y.t)) = some x.t) ∧
  (let s := grpW; let p := (8 : Nat); let m := mkMsg 4 0 0 (launchBody launchW false); let x := launchOf m;
     nodeRuns s .keel = true ∧ (port s .keel p).linkUp = true ∧ portWorks s .keel p = true ∧ linkStands s .keel p = true ∧
     mCrcOk m = true ∧ mType m = 4 ∧ launchPath s .keel x.group p = false) ∧
  (let s := modGrp .keel 2 (fun g => { g with step := 1, planes := [{ frozen := some bindW, frozenSingles := [inW 7] }, {}] }) grpW;
     let n := Node.keel; let k := (2 : Nat); let c := bindW; let q := frozenPlane s n; let x := planeOf (grp s n k) q;
     (grp s n k).planes.length = 2 ∧ x.frozen = some c ∧ x.finalSent = false ∧ fullAtOrAfter (now s n) (grp s n k).lastAt = true) ∧
  (let s := modGrp .keel 2 (fun g => { g with step := 1, planes := [{ frozen := some bindW, frozenSingles := [inW 7], excluded := [8] }, {}] }) grpW;
     let n := Node.keel; let k := (2 : Nat); let c := bindW; let u := (0 : Nat); let p := (16 : Nat); let q := frozenPlane s n;
     let g := grp s n k; let x := planeOf g q; let kids := planeKids s n c q;
     let outs := (x.excluded ++ (kids.filter (fun y => !x.finals.any (fun f => f.node == y.node))).flatMap (fun y => y.below)).eraseDups;
     let all := c.members.length + b2n c.adjContrib + kids.foldl (fun a y => a + y.below.length) 0;
     let i := (port s n p).seqs.getD 4 0; g.planes.length = 2 ∧ x.frozen = some c ∧ x.finalSent = false ∧
     fullAtOrAfter (now s n) g.lastAt = true ∧ u ∈ frozenUps s n ∧ uplinkOf s n k u = some p ∧
     (∀ v ∈ frozenUps s n, v ≠ u → uplinkOf s n k v ≠ some p) ∧ nodeServes s n = true ∧ (port s n p).linkUp = true ∧
     linkStands s n p = true ∧ (n = .evxus ∨ p ≠ 512 ∨ s.tw.link ≠ .linkLost) ∧ 4 < (port s n p).seqs.length) ∧
  (let s := modClk .keel (fun c => { c with pe := 1250000 }) (modGrp .keel 2 (fun g => { g with step := 1, latest := some launchW }) grpW);
     let n := Node.keel; let k := (2 : Nat); let p := (8 : Nat); let x := launchW; let g := grp s n k; g.latest = some x ∧
     g.lastRepeat + usCyc 1000 ≤ pe s n ∧ (launchPorts s n).filter (childOwes s n k) = [p] ∧ nodeServes s n = true) ∧
  (let s := modGrp .keel 2 (fun g => { g with state := .launching }) grpW; let n := Node.keel; let k := (2 : Nat);
     let g := grp s n k; g.state = .launching ∧ fullAtOrAfter (now s n) g.lastAt = true ∧ g.toTwin.all (fun x => x.2.2) = true) := by
  and_intros <;> decide +kernel

theorem witness_StragglerLists :
  (let s := fullW; let v := 0x80000002#32; let k := (0 : Nat); bit v 31 = true ∧ s.mus.strag = none ∧ nextTicket s = some k ∧
     musterOn s .keel (bits v 0 6) = true) ∧
  (let s := grpW; let v := 0x80000002#32; let k := (0 : Nat); bit v 31 = true ∧ s.mus.strag = none ∧ nextTicket s = some k ∧
     musterOn s .keel (bits v 0 6) = false) ∧
  (let s := { wr A.STRAG_MAX 4#32 grpW with mus := { grpW.mus with strag := some ⟨2, 5, 0, [(0, 7, 3, false)]⟩ } };
     let reports := ([] : List (Nat × BitVec 20 × Nat × Bool)); let k := (2 : Nat); let tk := (5 : Nat); let step := (0 : Nat);
     let own := ([(0, 7, 3, false)] : List (Nat × BitVec 20 × Nat × Bool)); let reps := own ++ reports;
     let nodes := (reps.map (fun r => r.2.1)).eraseDups; let n := rn s A.STRAG_MAX; let out := nodes.take n;
     s.mus.strag = some ⟨k, tk, step, own⟩ ∧ (opstat s tk).state ≠ .ended) ∧
  (let s := { grpW with mus := { grpW.mus with strag := some ⟨2, 5, 0, [(0, 7, 3, false)]⟩ } };
     let reports := ([] : List (Nat × BitVec 20 × Nat × Bool)); let k := (2 : Nat); let tk := (5 : Nat); let step := (0 : Nat);
     let own := ([(0, 7, 3, false)] : List (Nat × BitVec 20 × Nat × Bool)); s.mus.strag = some ⟨k, tk, step, own⟩ ∧
     (opstat s tk).state ≠ .ended) := by
  and_intros <;> decide +kernel

theorem witness_SlotPulses :
  (let s := modClk .keel (fun c => { c with now := ⟨0, 1024, 0⟩ }) (modClkDie 5 (fun c => { c with fstep := 5 }) (modSeq 0 (fun x => { x with state := .armed, step := 4, run := tabW }) { z with cfg := { z.cfg with owners := [(.seq 0, 1)] } }));
     let q := (0 : Nat); let x := seqOf s q; let past := (ftDiff (now64 s .keel) x.t).toNat / slotU; q < 8 ∧
     (clkDie s (5 + q / 4)).tripped = false ∧ (clkDie s (5 + q / 4)).heldReset = false ∧ x.state = .armed ∧
     armedHeld s q = false ∧ onGrid s x.t = true ∧ seqPart s q ≠ 0xFF) ∧
  (let s := modClk .keel (fun c => { c with now := ⟨0, 1024, 0⟩ }) (seqW (fun x => { x with issued := [0] }));
     let q := (0 : Nat); let x := seqOf s q; let es := slotEntries x.run.table; q < 8 ∧ (clkDie s (5 + q / 4)).tripped = false ∧
     (clkDie s (5 + q / 4)).heldReset = false ∧ x.state = .running ∧ x.guarding = false ∧ x.active = [] ∧
     (List.range es.length).all (fun i => (es[i]?.map (fun e => e.slot)) != some x.idx || x.issued.contains i) = true ∧
     onGrid s x.t = true ∧ seqPart s q ≠ 0xFF ∧ pulseDue s x (x.idx + x.g + 1) = true ∧ x.idx + 1 < x.run.table.count) ∧
  (let s := modClk .keel (fun c => { c with now := ⟨0, 1024, 0⟩ }) (seqW (fun x => { x with idx := 1, issued := [1] }));
     let q := (0 : Nat); let x := seqOf s q; let es := slotEntries x.run.table; q < 8 ∧ (clkDie s (5 + q / 4)).tripped = false ∧
     (clkDie s (5 + q / 4)).heldReset = false ∧ x.state = .running ∧ x.guarding = false ∧ x.active = [] ∧ x.next = none ∧
     (List.range es.length).all (fun i => (es[i]?.map (fun e => e.slot)) != some x.idx || x.issued.contains i) = true ∧
     onGrid s x.t = true ∧ seqPart s q ≠ 0xFF ∧ pulseDue s x (x.idx + x.g + 1) = true ∧ x.run.table.count ≤ x.idx + 1) := by
  and_intros <;> decide +kernel

theorem witness_Entries :
  (let s := seqW id; let q := (0 : Nat); let e := (0 : Nat); let ecc := ({ lines := [⟨3, true, 0, false⟩] } : IssueEcc);
     let en := slotEntryOf (rawW 0 9 63 0); let x := seqOf s q; (slotEntries x.run.table)[e]? = some en ∧ x.state = .running ∧
     x.started = true ∧ x.guarding = false ∧ en.slot = x.idx ∧ x.issued.contains e = false ∧ seqPart s q ≠ 0xFF ∧
     engPart s (q / 4) en.engine ≠ 0xFF ∧ entryWaits s q en = false ∧ x.limitHit = false ∧ coreOn s (q / 4) = true) ∧
  (let s := modSeq 0 (fun x => { x with run := { x.run with table := { x.run.table with raw := [rawW 0 9 2 1] } } }) (wr (A.SEQ_CFG 0) 0x30000#32 (seqW id));
     let q := (0 : Nat); let e := (0 : Nat); let ecc := ({} : IssueEcc); let en := slotEntryOf (rawW 0 9 2 1);
     let x := seqOf s q; (slotEntries x.run.table)[e]? = some en ∧ x.state = .running ∧ x.started = true ∧ x.guarding = false ∧
     en.slot = x.idx ∧ x.issued.contains e = false ∧ seqPart s q ≠ 0xFF ∧ engPart s (q / 4) en.engine ≠ 0xFF ∧
     entryWaits s q en = true ∧ x.g < guardLimit s q ∧ coreOn s (q / 4) = true) ∧
  (let s := modClkDie 5 (fun c => { c with heldReset := true }) (seqW id); let q := (0 : Nat); let e := (0 : Nat);
     let ecc := ({} : IssueEcc); coreOn s (q / 4) = false) ∧
  (let s := seqW (fun x => { x with issued := [0], active := [0], stalls := [(0, 3)] }); let q := (0 : Nat);
     let e := (0 : Nat); let en := slotEntryOf (rawW 0 9 63 0); let x := seqOf s q; (slotEntries x.run.table)[e]? = some en ∧
     leftWith x e = none ∧ x.active.contains e = true ∧ engDown (actAgain (q / 4) x.run en s) (q / 4) en.engine = false ∧
     (engOf s (q / 4) en.engine).gate = none ∧ coreOn s (q / 4) = true) ∧
  (let s := seqW id; let die := (5 : Nat); let sent := ([⟨4, 6, [(0, 0)]⟩] : List CrossUse);
     let received := ([⟨5, 1, []⟩] : List CrossUse); let both := ([⟨6, 2, []⟩] : List CrossUse); 1 ≤ die ∧ die ≤ 6 ∧
     diePresent s die = true) ∧
  (let s := modDie (fun d => { d with crossings := [(crossKey 5 6 4, { level := 0 })] }) (seqW (fun x => { x with issued := [0], active := [0] }));
     let die := (5 : Nat); let x := (⟨4, 6, [(0, 0)]⟩ : CrossUse); let q := (0 : Nat); let e := (0 : Nat);
     let k := crossKey die x.other x.id; 1 ≤ die ∧ die ≤ 6 ∧ diePresent s die = true ∧ crossThere s x = true ∧
     x.hits = [(q, e)] ∧ (seqOf s q).active.contains e = true ∧ (tget {} s.die.crossings k).level = 0) ∧
  (let s := modDie (fun d => { d with crossings := [(crossKey 5 6 4, { level := 3 })] }) (seqW (fun x => { x with issued := [0], active := [0] }));
     let die := (5 : Nat); let x := (⟨4, 6, [(0, 0)]⟩ : CrossUse); let k := crossKey die x.other x.id; 1 ≤ die ∧ die ≤ 6 ∧
     diePresent s die = true ∧ crossThere s x = true ∧ (tget {} s.die.crossings k).level ≠ 0) ∧
  (let s := modDie (fun d => { d with crossings := [(crossKey 6 5 4, { level := 7 })] }) (seqW (fun x => { x with issued := [0], active := [0] }));
     let die := (5 : Nat); let x := (⟨4, 6, [(0, 0)]⟩ : CrossUse); let k := crossKey x.other die x.id; 1 ≤ die ∧ die ≤ 6 ∧
     diePresent s die = true ∧ crossThere s x = true ∧ (tget {} s.die.crossings k).level < 8) ∧
  (let s := modDie (fun d => { d with crossings := [(crossKey 6 5 4, { level := 8 })] }) (seqW (fun x => { x with issued := [0], active := [0] }));
     let die := (5 : Nat); let x := (⟨4, 6, [(0, 0)]⟩ : CrossUse); let q := (0 : Nat); let e := (0 : Nat);
     let k := crossKey x.other die x.id; 1 ≤ die ∧ die ≤ 6 ∧ diePresent s die = true ∧ crossThere s x = true ∧
     x.hits = [(q, e)] ∧ (seqOf s q).active.contains e = true ∧ 8 ≤ (tget {} s.die.crossings k).level) ∧
  (let s := seqW id; let die := (5 : Nat); let d := (6 : Nat); let both := ([⟨4, 6, [(0, 0)]⟩] : List CrossUse); 1 ≤ die ∧
     die ≤ 6 ∧ diePresent s die = true ∧ 1 ≤ d ∧ d ≤ 6) := by
  and_intros <;> decide +kernel

theorem witness_Updates :
  (let s := updW false; let u := (0 : Nat); let bale := (0 : Nat); let dx := u / 32; let v := u % 32;
     let y := psetOf (passBegin dx v s) dx v; let a := baleArea s dx v (bale - (psetCfg s dx v).baleBase);
     let b := updBytes s dx v a (passOf (psetCfg s dx v).opt y.hyper y.b1t y.b2t); u < 64 ∧ updDue s dx v bale = true ∧
     (psetOf s dx v).grads.any (fun g => g.1 == bale && g.2.1) = false ∧ updReadFail s dx v a = none ∧
     burstFails s dx (psetCfg s dx v).segP (updEngine v) true a.p b.1.length = none ∧
     burstFails s dx (psetCfg s dx v).segM (updEngine v) true a.m b.2.1.length = none ∧
     ((psetCfg s dx v).opt ≠ 1 ∨ burstFails s dx (psetCfg s dx v).segV (updEngine v) true a.v b.2.2.1.length = none)) ∧
  (let s := updTornW; let u := (0 : Nat); let bale := (0 : Nat); let c := (3 : Nat); let z0 := (0x10000 : Nat);
     let dx := u / 32; let v := u % 32; let y := psetOf (passBegin dx v s) dx v;
     let a := baleArea s dx v (bale - (psetCfg s dx v).baleBase);
     let b := updBytes s dx v a (passOf (psetCfg s dx v).opt y.hyper y.b1t y.b2t); u < 64 ∧ updDue s dx v bale = true ∧
     (psetOf s dx v).grads.any (fun g => g.1 == bale && g.2.1) = false ∧ updReadFail s dx v a = none ∧
     burstFails s dx (psetCfg s dx v).segP (updEngine v) true a.p b.1.length = none ∧
     burstFails s dx (psetCfg s dx v).segM (updEngine v) true a.m b.2.1.length = some (c, z0)) ∧
  (let s := updW true; let u := (0 : Nat); let bale := (0 : Nat); let dx := u / 32; let v := u % 32; u < 64 ∧
     updDue s dx v bale = true ∧ (psetOf s dx v).grads.any (fun g => g.1 == bale && g.2.1) = true) ∧
  (let st := (1 : Nat); let s := updW false; let u := (0 : Nat); let bale := (0 : Nat); let dx := u / 32; let v := u % 32;
     u < 64 ∧ updDue s dx v bale = true ∧ (psetOf s dx v).grads.any (fun g => g.1 == bale && g.2.1) = false ∧
     updReadFail s dx v (baleArea s dx v (bale - (psetCfg s dx v).baleBase)) = none) ∧
  (let s := modPset 0 0 (fun x => { x with fault := 1 }) z; let u := (0 : Nat); u < 64 ∧ diePresent s (5 + u / 32) = true) := by
  and_intros <;> decide +kernel

theorem witness_TwinLinkCommands :
  (let s := twW id; twinTrained s = true ∧ s.hl.expelled = false ∧
     s.tw.lastTx.all (fun x => decide (usCyc 10 ≤ pe s .keel - x)) = true) ∧
  (let s := { z with hl := { z.hl with expelled := true } }; s.hl.expelled = true) ∧
  (let s := twW (fun t => { t with link := .linkLost }); let mode := (0 : Nat); let primary := true; let epoch := 4#32;
     let chip := 9#64; let is700 := false; let mark := (2 : Nat); twinTrained s = true ∧ chipExpected s chip = true) ∧
  (let s := modTw (fun t => { t with mode := .split, peerChip := some 8 }) (twW id); let mode := (0 : Nat);
     let primary := true; let epoch := 4#32; let chip := 9#64; let is700 := false; let mark := (0 : Nat); twinTrained s = true ∧
     chipExpected s chip = false) ∧
  (let s := twW (fun t => { t with primary := true }); let mode := (0 : Nat); let epoch := 4#32; let chip := 9#64;
     let is700 := false; let mark := (0 : Nat); twinTrained s = true ∧ chipExpected s chip = true ∧ s.tw.primary = true ∧
     s.tw.roleEpoch.toNat < epoch.toNat) ∧
  (let s := modTw (fun t => { t with mode := .split, peerChip := some 9 }) (twW id); let epoch := 4#32; let chip := 9#64;
     let is700 := false; twinTrained s = true ∧ chipExpected s chip = true ∧ s.tw.mode = .split ∧ s.hl.partnerExpelled = false) ∧
  (let s := twW id; let epoch := 4#32; let chip := 9#64; let is700 := true; twinTrained s = true ∧
     chipExpected s chip = true ∧ s.tw.mode = .solo) ∧
  (let s := { z with cfg := { z.cfg with hall := { z.cfg.hall with partner := some (4, 9), probeVia := [7, 8] } } };
     let p := ((4, 9#64) : Nat × BitVec 64); s.cfg.hall.partner = some p ∧ s.tw.probing = none ∧ s.tw.link ≠ .partnerLost ∧
     hbPresent s = false) ∧
  (let s := modClk .keel (fun c => { c with pe := 125000 }) { twW (fun t => { t with probing := some 0 }) with cfg := { z.cfg with hall := { z.cfg.hall with partner := some (4, 9), probeVia := [7, 8] } } };
     let p := ((4, 9#64) : Nat × BitVec 64); s.cfg.hall.partner = some p ∧ s.tw.probing.isSome = true ∧
     s.tw.lastProbe + usCyc 100 ≤ pe s .keel) ∧
  (let s := twW (fun t => { t with probing := some 0 }); let path := (1 : Nat); s.tw.probing.isSome = true) ∧
  (let s := modClk .keel (fun c => { c with pe := 1250000000 }) (twW (fun t => { t with mode := .split, probing := some 0 }));
     let x := (0 : Nat); s.tw.probing = some x ∧
     (match s.tw.lastAnswer with | some a => max a x | none => x) + usCyc (rn s A.PROBE_WAIT) ≤ pe s .keel ∧
     (s.tw.mode = .split ∨ s.tw.mode = .solo)) ∧
  (let s := z; let i := Mirror.launch 2 1 0 0 false false false 0;
     (match i with | .launch k _ _ _ _ _ _ _ => launchPath s .keel k 512 | .landing _ _ _ => true | .capture _ _ _ _ _ _ => true | _ => false) = false) ∧
  (let s := twW id; let die := (0 : Nat); let tree := (3 : Nat); let bale := (7 : Nat); let step := (4 : Nat);
     let src := 5#64; let l := ([1, 2] : List Byte); s.tw.link ≠ .linkLost ∧ twinUp s = true) ∧
  (let s := twW id; let dx := (0 : Nat); let v := (3 : Nat); let b := baleW false;
     (s.tw.mode ≠ .shadow ∨ s.tw.newcomer = false ∨ s.tw.adm ≠ .compare)) ∧
  (let s := { grpW with tw := { grpW.tw with primary := false }, cfg := { grpW.cfg with hall := { grpW.cfg.hall with rootPair := true } } };
     let k := (2 : Nat); let st := (1 : Nat); let x := 0x1000#64; let cut := 0#64; let d := false; let fl := false;
     let fo := false; let ep := 0#32; s.cfg.hall.rootPair = true ∧ s.tw.primary = false ∧ groupOn s .keel k = true ∧
     (grp s .keel k).step < st) ∧
  (let s := { z with tw := { z.tw with primary := false }, cfg := { z.cfg with hall := { z.cfg.hall with rootPair := true } } };
     let began := ((1, 9000, 20000, 70000) : Nat × Nat × Nat × Nat); let k := (2 : Nat); let st := (4 : Nat);
     let pol := (1 : Nat); let tmo := (9000 : Nat); let lead := (20000 : Nat); let bc := (70000 : Nat); let a := (0 : Nat);
     let b := (0 : Nat); let e := 0#64; let x := 0#64; k < 64 ∧ s.tw.primary = false ∧ s.cfg.hall.rootPair = true) ∧
  (let s := modRef .keel (fun r => { r with rootWarm := true }) { z with tw := { z.tw with primary := false }, cfg := { z.cfg with hall := { z.cfg.hall with rootPair := true, rootTable := [(1, 4)] } } };
     s.cfg.hall.rootPair = true ∧ s.tw.primary = false ∧ s.tw.mode = .solo ∧ s.keel.ref.rootWarm = true ∧ serving s = true) := by
  and_intros <;> decide +kernel

theorem witness_ConvoyCommands :
  (let s := memW; let pos := (1 : Nat); let total := (4096 : Nat);
     let again := s.cfg.hall.rebuild.filter (fun a => a.host == pos && s.tw.positions.getD a.lost .absent == .rebuilt);
     s.tw.member = true ∧ pos < 8 ∧ s.tw.positions.getD pos .absent ≠ .absent) ∧
  (let s := memW; let src := (1 : Nat); let set := (3 : Nat); let bale := (2 : Nat); let frame := (0 : Nat);
     let frames := (2 : Nat); let delta := ({ rows := [(4, [1, 2])] } : DeltaFrame); s.tw.member = true ∧
     s.tw.deltas.any (fun d => d.src == src && d.set == set && d.bale == bale) = false ∧
     s.tw.deltas.all (fun d => decide (d.frames.length < d.total) || !d.rows.all (fun r => coreOn s (r.1 / rowsPerStack / 2))) = true ∧
     (2 ≤ frames ∨ delta.rows.all (fun r => coreOn s (r.1 / rowsPerStack / 2)) = false)) ∧
  (let s := ersW memW; let src := (1 : Nat); let set := (3 : Nat); let bale := (2 : Nat); let frame := (0 : Nat);
     let row := (4 : Nat); let d := ([1, 2] : List Byte); let dx := row / rowsPerStack / 2; let a := parityAddr row;
     let k := segNamed s dx a d.length 0x54 4; s.tw.member = true ∧
     s.tw.deltas.any (fun d => d.src == src && d.set == set && d.bale == bale) = false ∧
     (holders row)[0]? = some s.cfg.hall.pos ∧
     s.tw.deltas.all (fun d => decide (d.frames.length < d.total) || !d.rows.all (fun r => coreOn s (r.1 / rowsPerStack / 2))) = true ∧
     coreOn s dx = true ∧ burstFails s dx k.1 k.2 false a d.length = none ∧ burstFails s dx k.1 k.2 true a d.length = none) ∧
  (let s := ersW { memW with cfg := { memW.cfg with hall := { memW.cfg.hall with pos := 1 } } }; let src := (6 : Nat);
     let set := (3 : Nat); let bale := (2 : Nat); let frame := (0 : Nat); let row := (4 : Nat); let d := ([1, 2] : List Byte);
     let dx := row / rowsPerStack / 2; let a := parityAddr row; let k := segNamed s dx a d.length 0x54 4; s.tw.member = true ∧
     s.tw.deltas.any (fun d => d.src == src && d.set == set && d.bale == bale) = false ∧
     (holders row)[0]? ≠ some s.cfg.hall.pos ∧ (holders row)[1]? = some s.cfg.hall.pos ∧
     s.tw.deltas.all (fun d => decide (d.frames.length < d.total) || !d.rows.all (fun r => coreOn s (r.1 / rowsPerStack / 2))) = true ∧
     coreOn s dx = true ∧ burstFails s dx k.1 k.2 false a d.length = none ∧ burstFails s dx k.1 k.2 true a d.length = none) ∧
  (let s := ersW memW; let bytes := (4096 : Nat); let data := [((0xEE6B28040 : Nat), ([1, 2] : List Byte))];
     s.tw.member = true ∧ s.tw.mode ≠ .shadow ∧
     data.all (fun e => (burstFails s (e.1 / 2 ^ 38) (segNamed s (e.1 / 2 ^ 38) e.1 e.2.length 0x54 4).1 (segNamed s (e.1 / 2 ^ 38) e.1 e.2.length 0x54 4).2 true e.1 e.2.length).isNone) = true) := by
  and_intros <;> decide +kernel

theorem witness_Admissions :
  (let s := modTw (fun t => { t with lastHb := some 0, partner700 := true }) (wr A.HB_TIMEOUT 100#32 (twW id));
     let key := detKey z; let c := (Instr.admitCompat (detKey z)); let compat := true; let k := (0 : Nat);
     (c, compat) ∈ [(Instr.admitStart key, false), (.admitCompat key, true)] ∧ s.tw.mode = .solo ∧
     (compat = false ∨ s.tw.partner700 = true) ∧ nextTicket s = some k ∧ admitRefusal key s = none) ∧
  (let s := z; let key := 7#128; let c := (Instr.admitStart 7#128); let f := (1 : Nat); let k := (0 : Nat);
     c ∈ [Instr.admitStart key, .admitCompat key] ∧ s.tw.mode = .solo ∧ (c = .admitStart key ∨ s.tw.partner700 = true) ∧
     nextTicket s = some k ∧ admitRefusal key s = some f) ∧
  (let s := z; let key := 7#128; let c := (Instr.admitCompat 7#128); c ∈ [Instr.admitStart key, .admitCompat key] ∧
     (s.tw.mode ≠ .solo ∨ (c = .admitCompat key ∧ s.tw.partner700 = false))) ∧
  (let s := twW (fun t => { t with mode := .split }); s.tw.mode = .split) ∧
  (let s := twW (fun t => { t with mode := .shadow, adm := .compare, admitTicket := some 3 }); let k := (3 : Nat);
     s.tw.mode = .shadow ∧ s.tw.newcomer = false ∧ s.tw.admitTicket = some k ∧ (opstat s k).state ≠ .ended) ∧
  (let s := twW (fun t => { t with mode := .shadow, adm := .almanac }); s.tw.mode = .shadow ∧ s.tw.adm = .almanac ∧
     (s.tw.newcomer = true → s.keel.svo.stage = .track) ∧ s.tw.drill = none) ∧
  (let s := ersW (twW (fun t => { t with mode := .shadow, newcomer := true, adm := .restore })); let bytes := (64 : Nat);
     let data := [((0xEE6B28040 : Nat), ([1, 2] : List Byte))]; s.tw.mode = .shadow ∧ s.tw.adm = .restore ∧
     s.tw.compat = false ∧
     (s.tw.newcomer = false ∨ data.all (fun e => (burstFails s (e.1 / 2 ^ 38) (segNamed s (e.1 / 2 ^ 38) e.1 e.2.length 0x54 4).1 (segNamed s (e.1 / 2 ^ 38) e.1 e.2.length 0x54 4).2 true e.1 e.2.length).isNone) = true)) ∧
  (let s := twW (fun t => { t with mode := .shadow, adm := .bist }); s.tw.mode = .shadow ∧ s.tw.adm = .bist) ∧
  (let s := twW (fun t => { t with mode := .shadow, adm := .bist, admitTicket := some 3 }); let k := (3 : Nat);
     s.tw.mode = .shadow ∧ s.tw.newcomer = false ∧ s.tw.adm = .bist ∧ s.tw.admitTicket = some k ∧ (opstat s k).state ≠ .ended) ∧
  (let s := twW (fun t => { t with mode := .shadow, compat := true, adm := .restore });
     let data := [((0xEE6B28040 : Nat), ([1, 2] : List Byte))]; s.tw.mode = .shadow ∧ s.tw.compat = true ∧ s.tw.adm = .restore ∧
     (s.tw.newcomer = false ∨ data.all (fun e => (burstFails s (e.1 / 2 ^ 38) (segNamed s (e.1 / 2 ^ 38) e.1 e.2.length 0x54 4).1 (segNamed s (e.1 / 2 ^ 38) e.1 e.2.length 0x54 4).2 true e.1 e.2.length).isNone) = true)) ∧
  (let s := z; let d := (4 : Nat); 1 ≤ d ∧ d ≤ 4 ∧ (d ≠ 3 ∨ s.cfg.hall.rootPair = true)) ∧
  (let s := { wr A.REH_CTRL 0x000A0002#32 z with cfg := { z.cfg with hallActive := true } }; rehInterval s ≠ 0 ∧
     s.cfg.hallActive = true ∧ fullAtOrAfter (now s .keel) s.tw.rehNext = true) ∧
  (let s := twW (fun t => { t with drill := some { code := 2, steps := 0, number := 9, here := true } });
     let d := ({ code := 2, steps := 0, number := 9, here := true } : Drill); let ok := ({ passed := false } : DrillResult);
     s.tw.drill = some d ∧ d.code ≠ 4 ∧ drillShown d s = true) ∧
  (let s := twW (fun t => { t with drill := some { code := 1, steps := 0, number := 9 } });
     let d := ({ code := 1, steps := 0, number := 9 } : Drill); let ok := ({ passed := true } : DrillResult);
     s.tw.drill = some d ∧ drillShown d s = false) ∧
  (let s := ersW (twW (fun t => { t with drill := some { code := 4, steps := 0, number := 9, here := true } }));
     let d := ({ code := 4, steps := 0, number := 9, here := true } : Drill);
     let r := ({ passed := true, rebuilt := [(64, [1, 2])] } : DrillResult);
     let u := copyIn (r.rebuilt.map (fun e => (verifyPlace e.1, e.2))) s;
     let same := r.rebuilt.all (fun e => getBytes u.die.stack (verifyPlace e.1) e.2.length == getBytes s.die.stack e.1 e.2.length);
     s.tw.drill = some d ∧ d.code = 4) ∧
  (let s := modClk .keel (fun c => { c with pe := BitVec.ofNat 64 (secC 86400) }) (twW (fun t => { t with deferSince := some 0 }));
     let x := (0 : Nat); s.tw.deferSince = some x ∧ x + secC 86400 ≤ pe s .keel) := by
  and_intros <;> decide +kernel

theorem witness_HealthCommands :
  (let die := (0 : Nat); let block := (2 : Nat); let inst := (0 : Nat); let cls := (12 : Nat); let data0 := (0 : Nat);
     let w := (⟨0, 2, 0, 12, 0, 1, 0, false⟩ : Window);
     let s := { z with hl := { z.hl with wins := [⟨0, 2, 0, 12, 0, 1, 0, false⟩] } };
     let e : Event := { die := die, block := block, inst := inst, cls := cls, sub := 0, data0 := BitVec.ofNat 32 data0 };
     s.hl.wins.find? (winMatch e) = some w ∧ w.until_ ≤ pe s .keel) ∧
  (let s := modClk .keel (fun c => { c with pe := BitVec.ofNat 64 (secC 600) }) { z with hl := { z.hl with score := 300 } };
     s.hl.lastDecay + secC 600 ≤ pe s .keel) ∧
  (let s := modClk .keel (fun c => { c with now := ⟨100000000, 0, 0⟩ }) { z with hl := { z.hl with records := [⟨99999999, 0, 0⟩, ⟨0, 0, 0⟩] } };
     s.hl.records.any (recordLapsed s) = true ∧ (s.hl.held = false ∨ s.hl.score < expelLevel s)) ∧
  (let s := modClk .keel (fun c => { c with now := ⟨100000000, 0, 0⟩ }) { z with hl := { z.hl with records := [⟨0, 0, 0⟩], held := true, score := 1023 }, tw := { z.tw with mode := .shadow, newcomer := true } };
     s.hl.records.any (recordLapsed s) = true ∧ s.hl.held = true ∧ expelLevel s ≤ s.hl.score) ∧
  (let s := seqW id; s.hl.expelled = false ∧ s.hl.partnerExpelled = false ∧ s.tw.partnerHeld = false) ∧
  (let s := { z with hl := { z.hl with partnerExpelled := true } };
     (s.hl.expelled = true ∨ s.hl.partnerExpelled = true ∨ s.tw.partnerHeld = true)) ∧
  (let v := 0x40000007#32; let s := z; bits v 28 4 < 14 ∧ diePresent s (bits v 25 3) = true) ∧
  (let k := (0 : Nat); let s := z; s.hl.exporting = none ∧ nextTicket s = some k) ∧
  (let k := (3 : Nat); let s := { z with hl := { z.hl with exporting := some 3 } }; let ds := dies s;
     s.hl.exporting = some k ∧ (opstat s k).state ≠ .ended) ∧
  (let n := (140000 : Nat); let k := (3 : Nat); let s := { z with hl := { z.hl with exporting := some 3 } };
     s.hl.exporting = some k ∧ (opstat s k).state ≠ .ended ∧ n < 131072 * (dies s).length) ∧
  (let d := (3 : Nat); let s := wr (A.LOG_FILL 3 + 8) 5#32 z; d < 8) := by
  and_intros <;> decide +kernel

theorem witness_DipCommands :
  (let die := (5 : Nat); let mv := (700 : Nat); let s := z; diePresent s die = true ∧ s.hl.dipWin.contains die = false ∧
     690 < mv ∧ mv < 720) ∧
  (let die := (5 : Nat);
     let s := { z with hl := { z.hl with dipWin := [5], dipBales := [⟨5, 3, 0, 1, 0, 7, none, some (0, 0), 0⟩] } };
     s.hl.dipWin.contains die = true) ∧
  (let die := (5 : Nat); let tree := (3 : Nat); let bale := (0 : Nat); let step := (1 : Nat); let d := 7#64;
     let x := (⟨5, 3, 0, 1, 0, 7, some 99, some (0, 0), 0⟩ : DipBale);
     let s := { z with hl := { z.hl with dipBales := [⟨5, 3, 0, 1, 0, 7, some 99, some (0, 0), 0⟩] } };
     s.hl.dipBales.find? (fun x => dipMatch die tree bale step x && x.limit.isSome) = some x ∧ x.digest = d) ∧
  (let die := (5 : Nat); let tree := (3 : Nat); let bale := (0 : Nat); let step := (1 : Nat); let d := 8#64;
     let x := (⟨5, 3, 0, 1, 0, 7, some 99, some (0, 0), 0⟩ : DipBale);
     let s := { z with hl := { z.hl with dipBales := [⟨5, 3, 0, 1, 0, 7, some 99, some (0, 0), 0⟩] } };
     s.hl.dipBales.find? (fun x => dipMatch die tree bale step x && x.limit.isSome) = some x ∧ x.digest ≠ d) ∧
  (let die := (5 : Nat); let tree := (3 : Nat); let bale := (0 : Nat); let step := (1 : Nat);
     let x := (⟨5, 3, 0, 1, 0, 7, some 99, some (0, 0), 0⟩ : DipBale); let n := (99 : Nat);
     let s := modClk .keel (fun c => { c with pe := 99 }) { z with hl := { z.hl with dipBales := [⟨5, 3, 0, 1, 0, 7, some 99, some (0, 0), 0⟩] } };
     s.hl.dipBales.find? (dipMatch die tree bale step) = some x ∧ x.limit = some n ∧ n ≤ pe s .keel) ∧
  (let n := Node.keel; let p := (8 : Nat);
     let s := modPort .keel 8 (fun x => { x with linkUp := true }) { z with cfg := { z.cfg with hallActive := true } };
     nodeRuns s n = true ∧ portWorks s n p = true ∧ linkStands s n p = true ∧ healthOn s n = true ∧ (port s n p).linkUp = true ∧
     healthTime s n p = true) ∧
  (let p := (8 : Nat); let s := modPort .keel 8 (fun x => { x with linkUp := true }) z; s.cfg.hallActive = false) ∧
  (let n := Node.keel; let p := (8 : Nat); let m := mkMsg 7 0 0 (bodyOf [(12, [1]), (14, [1, 2])]);
     let s := modPort .keel 8 (fun x => { x with linkUp := true }) z; nodeRuns s n = true ∧ (port s n p).linkUp = true ∧
     portWorks s n p = true ∧ linkStands s n p = true ∧ mCrcOk m = true ∧ mType m = 7) := by
  and_intros <;> decide +kernel

theorem witness_ClockCommands :
  (let die := (5 : Nat); let s := z; 1 ≤ die ∧ diePresent s die = true ∧ (clkDie s die).lor = false) ∧
  (let die := (5 : Nat); let s := modClkDie 5 (fun c => { c with lor := true }) z; (clkDie s die).lor = true) ∧
  (let s := modClk .keel (fun c => { c with valid := true }) z; s.keel.clk.oscOk = true) ∧
  (let s := modClk .keel (fun c => { c with oscOk := false }) z; s.keel.clk.oscOk = false) ∧
  (let v := 1#32; let s := { z with host := { z.host with unlocked := [0x400000] } }; s.host.unlocked.contains 0x400000 = true) ∧
  (let die := (5 : Nat); let idle := false; let s := modClkDie 5 (fun c => { c with fstep := 7 }) (wr A.PWR_CAP 3#32 z);
     let s1 := fstepInputs (die - 5) s; let n := stepWanted s1 (die - 5) idle; 5 ≤ die ∧ die < 7 ∧
     reduceDie s (die - 5) = true ∧ stepMay s1 (die - 5) n = true) ∧
  (let die := (5 : Nat); let s := modClkDie 5 (fun c => { c with changing := true, nextStep := 3 }) z; 5 ≤ die ∧ die < 7 ∧
     (clkDie s die).changing = true) ∧
  (let v := 3#32; let s := z; bits v 0 3 ≠ 0) ∧
  (let b := (4 : Nat); let v := 3#32; let s := z; b < 32) ∧
  (let x := (20000 : Nat); let s := z; packageBudget s.straps.variant (capStep s) * 10 < x) ∧
  (let die := (5 : Nat); let tj := (800 : Int); let mv := (750 : Nat); let dw := (100 : Nat); let pw := (900 : Nat);
     let ld := (30 : Nat); let s := z; s.clks.vauxLow = false ∧ diePresent s die = true ∧ tj < 1050) ∧
  (let die := (5 : Nat); let tj := (1160 : Int); let mv := (750 : Nat); let dw := (100 : Nat); let pw := (900 : Nat);
     let ld := (30 : Nat); let s := z; s.clks.vauxLow = false ∧ diePresent s die = true ∧ 1150 ≤ tj ∧
     (clkDie s die).tripped = false) := by
  and_intros <;> decide +kernel

theorem witness_Resets :
  (let v := 0x80000001#32; let c := (Instr.coldReset 0x80000001#32); let k := (2 : Nat);
     let s := { z with host := { z.host with unlocked := [0x400000] } };
     (c, k) ∈ [(Instr.pkgRstN, 1), (.coldReset v, 2), (.supplyResetExcursion 0, 3)] ∧ s.host.unlocked.contains 0x400000 = true ∧
     bit v 31 = true ∧ bit v 0 = true ∧ diePresent s 0 = true ∧ s.clks.busy ≠ some .cold) ∧
  (let a := (A.MUSTER_TIMEOUT 3 : Nat); let s := wr (A.MUSTER_TIMEOUT 3) 7#32 z; s.clks.busy ≠ some .cold ∧
     (a < evLo ∨ evHi ≤ a)) ∧
  (let v := 0x80000000#32; let s := { seqW id with host := { z.host with unlocked := [0x400000] } };
     s.host.unlocked.contains 0x400000 = true ∧ bit v 31 = true ∧ bit v 0 = false ∧ s.clks.busy ≠ some .cold ∧
     s.clks.busy ≠ some .warm) ∧
  (let part := (1 : Nat); let s := { seqW id with cfg := { (seqW id).cfg with owners := [(.seq 0, 1)] } };
     (s.clks.busy = none ∨ s.clks.busy = some .engine)) ∧
  (let die := (5 : Nat); let e := (3 : Nat); let s := modEng 0 3 (fun x => { x with state := .busy }) z; 5 ≤ die ∧ die < 7 ∧
     reduceDie s (die - 5) = true ∧ e ≤ 0x6B ∧ s.clks.busy = none) ∧
  (let v := 0x80000000#32; let c := Instr.partitionReset 3; let l := ResetLevel.partition; let b := ResetLevel.warm;
     let s := { z with host := { z.host with unlocked := [0x400000] }, clks := { z.clks with busy := some .warm } };
     (c, l) ∈ [(Instr.pkgRstN, ResetLevel.cold), (.coldReset v, .cold), (.warmReset v, .warm), (.partitionReset 3, .partition), (.engineReset 5 3, .engine)] ∧
     s.host.unlocked.contains 0x400000 = true ∧ bit v 31 = true ∧ bit v 0 = (l == .cold) ∧ reduceDie s 0 = true ∧
     s.clks.busy = some b ∧ levelRank b ≤ levelRank l) ∧
  (let s := { z with clks := { z.clks with busy := some .cold } }; s.clks.busy.isSome = true ∧ s.clks.vauxLow = false) := by
  and_intros <;> decide +kernel

theorem witness_SuppliesAndStartUp :
  (let die := (5 : Nat); let s := z; 1 ≤ die ∧ diePresent s die = true ∧ s.clks.busy ≠ some .cold ∧ s.clks.busy ≠ some .warm) ∧
  (let die := (5 : Nat); let s := modClkDie 5 (fun c => { c with heldReset := true }) z; (clkDie s die).heldReset = true) ∧
  (let s := z; s.clks.vauxLow = false) ∧
  (let s := { z with clks := { z.clks with vauxLow := true } }; s.clks.vauxLow = true) ∧
  (let s := { z with clks := { z.clks with vauxLow := true } }; let c := (Instr.expelNow); s.clks.vauxLow = true ∧
     c ≠ .vauxLow false) ∧
  (let s := { z with clks := { z.clks with powered := false } }; s.clks.powered = false ∧ s.clks.vauxLow = false ∧
     s.keel.clk.oscOk = true) ∧
  (let f := (0 : Nat); let bad := ({} : StageData); let s := { z with clks := { z.clks with stage := 2 } };
     s.clks.vauxLow = false ∧ s.clks.busy ≠ some .cold ∧ s.clks.stage = 2 ∧ s.clks.startFault = 0 ∧
     (dies s).any (fun d => (clkDie s d).heldReset) = false ∧ f ≠ 1 ∧ f ≠ 2) ∧
  (let n := (5 : Nat); let f := (0 : Nat); let bad := ({ untrained := 2 } : StageData);
     let s := { z with clks := { z.clks with stage := 5 } }; n ∈ [3, 4, 5, 6] ∧ s.clks.vauxLow = false ∧
     s.clks.busy ≠ some .cold ∧ s.clks.stage = n) ∧
  (let f := (0 : Nat); let bad := ({} : StageData);
     let s := { z with clks := { z.clks with stage := 7 }, cfg := { z.cfg with hallActive := true } }; s.clks.vauxLow = false ∧
     s.clks.busy ≠ some .cold ∧ s.clks.stage = 7 ∧ s.cfg.hallActive = true) ∧
  (let f := (0 : Nat); let bad := ({} : StageData);
     let s := modRef .keel (fun r => { r with state := .locked }) (modClk .keel (fun c => { c with valid := true }) { z with clks := { z.clks with stage := 8 }, tw := { z.tw with primary := false } });
     s.clks.vauxLow = false ∧ s.clks.busy ≠ some .cold ∧ s.clks.stage = 8 ∧ timeAcquired s = true) := by
  and_intros <;> decide +kernel


/-- The statements about the whole machine: a command waits, or none; the command is well formed, or is sent to a node. -/
theorem witness_StepRuns :
    (let s : State := { State.reset with pending := [.slewSpent .keel, .evtPop] }; s.pending = .slewSpent .keel :: [.evtPop]) ∧
    State.reset.pending = [] := ⟨by decide +kernel, by decide +kernel⟩

theorem witness_QueueKept : ∃ t, exec (.slewSpent .keel) State.reset = .next t := ⟨_, rfl⟩

theorem witness_CommandFrames : (Instr.slewSpent .keel).wf = true ∧ Part.svo ∉ touches (.slewSpent .keel) :=
  ⟨by decide +kernel, by decide +kernel⟩

theorem witness_SettlingBounds : quiet State.reset = true := by decide +kernel

theorem witness_NodesApart :
    (commandNode (.slewSpent .keel) = some .keel ∧ ∃ t, exec (.slewSpent .keel) State.reset = .next t) ∧
    (commandNode (.slewSpent .evxus) = some .evxus ∧ ∃ t, exec (.slewSpent .evxus) State.reset = .next t) :=
  ⟨⟨by decide +kernel, _, rfl⟩, ⟨by decide +kernel, _, rfl⟩⟩

/-- A state with a command in front: its step answers a next state. -/
abbrev oneW : State := { State.reset with pending := [.slewSpent .keel] }

theorem witness_TablesKept : TablesOk oneW ∧ ∃ t, step oneW = .next t :=
  ⟨⟨by decide +kernel, by decide +kernel, by decide +kernel⟩, _, rfl⟩

theorem witness_ShapesKept : ShapesOk oneW ∧ ∃ t, step oneW = .next t := ⟨by unfold ShapesOk; decide +kernel, _, rfl⟩

theorem witness_CapacitiesKept : CapacitiesOk oneW ∧ ∃ t, step oneW = .next t := ⟨by unfold CapacitiesOk; decide +kernel, _, rfl⟩

theorem witness_FusesKept :
    (∃ t, step oneW = .next t) ∧ oneW.alm.keys[0]? = some (some 0) ∧
    (let s := { oneW with alm := { oneW.alm with revoked := [true, false, false, false] } }; s.alm.revoked.getD 0 true = true) ∧
    (List.range 4).any (fun i => keyUsable oneW i) = true :=
  ⟨⟨_, rfl⟩, by decide +kernel, by decide +kernel, by decide +kernel⟩

theorem witness_PowerElapsed : ∃ t, exec .powerGood State.reset = .next t := ⟨_, rfl⟩

theorem witness_TimeDifference :
    let a : FabTime := ⟨0xFFFFFFFFFFFF, 999999999, 0⟩; let b : FabTime := ⟨0, 0, 0⟩
    a.ns.toNat < 1000000000 ∧ b.ns.toNat < 1000000000 := by decide +kernel

theorem witness_OrderVerdicts :
    let a : Stamp := ⟨0, 500, false, true⟩; let b : Stamp := ⟨65536, 500, false, true⟩
    (a.valid = true ∧ b.valid = true ∧ a.unsure = false ∧ b.unsure = false ∧ a.unc ≠ 0xFFFFFF#24 ∧ b.unc ≠ 0xFFFFFF#24) ∧
    125 * ftDiff b.ft a.ft = 8192 * ((a.unc.toNat : Int) + b.unc.toNat) := by decide +kernel

end

end Sys2Proof.Tests
end

section
/-! SUPPORT. Arrivals of a group (R20, R175 to R180): what the stamp of a message changes at the interval channels, which
parts of the state a send, a count and a mirrored record leave alone, and what counting, holding and sending do to a plane. -/

namespace Sys2Proof.Laws
open Sys2Proof.Machine

/-! ## Loops -/

/-- What every application to an element of the list leaves alone, the loop leaves alone. -/
theorem forAll_part_mem {α β : Type} (p : State → β) (l : List α) (f : α → State → State)
    (h : ∀ x ∈ l, ∀ s, p (f x s) = p s) (s : State) : p (forAll l f s) = p s := by
  unfold forAll
  induction l generalizing s with
  | nil => rfl
  | cons x r ih =>
    have hr := ih (fun y hy => h y (List.mem_cons_of_mem _ hy)) (f x s)
    exact hr.trans (h x List.mem_cons_self s)

/-! ## The interval channels (R123 to R135) -/

/-- The registers of the interval channels (R136). -/
abbrev ticBlock (a : Nat) : Prop := 0x140000 ≤ a ∧ a < 0x150000

/-- What an event of an interval channel leaves alone: the state but for its registers, channels and tickets, and every
register outside the block of the channels. -/
def unheard (s : State) : State × (Nat → Word) :=
  ({ s with regs := [], tics := [], host := {} }, fun a => if ticBlock a then 0 else rd s a)

@[simp] theorem unheard_modTic (c : Nat) (f : Tic → Tic) (s : State) : unheard (modTic c f s) = unheard s := rfl

theorem unheard_wr {a : Nat} (v : Word) (s : State) (ha : ticBlock a) : unheard (wr a v s) = unheard s := by
  refine Prod.ext rfl (funext fun b => ?_)
  show (if ticBlock b then 0 else rd (wr a v s) b) = if ticBlock b then 0 else rd s b
  by_cases hb : ticBlock b
  · rw [if_pos hb, if_pos hb]
  · rw [if_neg hb, if_neg hb, rd_wr_ne v s (fun e : b = a => hb (by rw [e]; exact ha))]

@[simp] theorem unheard_modOp (t : Nat) (f : Opstat → Opstat) (s : State) : unheard (modOp t f s) = unheard s := by
  unfold modOp; split <;> rfl

@[simp] theorem unheard_endTicket? (t : Option Nat) (fault : Nat) (s : State) :
    unheard (endTicket? t fault s) = unheard s := by
  cases t with
  | none => rfl
  | some t => exact unheard_modOp t _ s

@[simp] theorem unheard_ticLatch (c : Nat) (s : State) : unheard (ticLatch c s) = unheard s := by
  unfold ticLatch; dsimp only; split <;> rfl

@[simp] theorem unheard_ticEnd (c fault : Nat) (s : State) : unheard (ticEnd c fault s) = unheard s := by
  unfold ticEnd; dsimp only; split <;> simp

section
variable {c : Nat} (hc : c < 4)
include hc

theorem unheard_ticClose (s : State) : unheard (ticClose c s) = unheard s := by
  unfold ticClose; dsimp only
  split
  · exact whenDo_part unheard _ _ (fun s => unheard_wr _ s (by simp only [ticBlock, A.EMPTY_WIN]; omega)) _
  · rfl

theorem unheard_ticAccept (a b : TicEv) (s : State) : unheard (ticAccept c a b s) = unheard s := by
  have hstatus (s : State) : unheard (setFlag (A.TIC_STATUS c) 6 s) = unheard s :=
    unheard_wr _ s (by simp only [ticBlock, A.TIC_STATUS]; omega)
  unfold ticAccept; dsimp only
  repeat' split
  all_goals simp only [unheard_ticEnd, unheard_modTic, whenDo_part unheard _ _ hstatus, ticketPartial,
    ticketProgress, unheard_modOp]

theorem unheard_ticTakeStart (e : TicEv) (s : State) : unheard (ticTakeStart c e s) = unheard s := by
  unfold ticTakeStart ticOpen
  split
  · rfl
  · exact unheard_wr _ s (by simp only [ticBlock, A.START_IGN]; omega)

theorem unheard_ticTakeStop (e : TicEv) (s : State) : unheard (ticTakeStop c e s) = unheard s := by
  unfold ticTakeStop
  split
  · exact whenDo_part unheard _ _ (fun s => unheard_ticAccept hc _ e s) s
  · rfl

theorem unheard_ticArrive (src : Nat) (stop : Bool) (e : TicEv) (f : State → State)
    (hf : ∀ s, unheard (f s) = unheard s) (s : State) : unheard (ticArrive c src stop e f s) = unheard s := by
  have hlost (s : State) : unheard (bump (A.EVT_LOST c) s) = unheard s := 
    unheard_wr _ s (by simp only [ticBlock, A.EVT_LOST]; omega)
  unfold ticArrive; dsimp only
  split
  · rfl
  · split
    · rw [whenDo_part unheard _ _ hlost, unheard_modTic]
    · split
      · rw [hf, whenDo_part unheard _ _ (unheard_ticClose hc), unheard_modTic]
      · rw [hf, unheard_modTic]

theorem unheard_ticEvent (src : Nat) (e : TicEv) (s : State) : unheard (ticEvent c src e s) = unheard s := by
  unfold ticEvent
  rw [whenDo_part unheard _ _ (unheard_ticArrive hc _ _ _ _ (unheard_ticTakeStart hc e)),
    whenDo_part unheard _ _ (unheard_ticArrive hc _ _ _ _ (unheard_ticTakeStop hc e))]

end

/-- The stamp of a message on a keel port changes only the interval channels, their registers and tickets (R127). -/
theorem unheard_ticStamp (src p : Nat) (t : Stamp) (s : State) : unheard (ticStamp src p t s) = unheard s :=
  forAll_part_mem unheard _ _ (fun _ hc s =>
    whenDo_part unheard _ _ (unheard_ticEvent (List.mem_range.mp hc) _ _) s) s

theorem unheard_tapHeard (n : Node) (p b : Nat) (s : State) : unheard (tapHeard n p b s) = unheard s := by
  cases n with
  | keel => exact unheard_ticStamp 0x11 p _ s
  | evxus => rfl

/-- A part that a stamp cannot change is as before it. -/
theorem tapHeard_part {β : Type} (f : State → β) (h : ∀ s, f (unheard s).1 = f s) (n : Node) (p b : Nat) (s : State) :
    f (tapHeard n p b s) = f s := by
  rw [← h, unheard_tapHeard, h]

@[simp] theorem tapHeard_mus (n p b) (s : State) : (tapHeard n p b s).mus = s.mus :=
  tapHeard_part State.mus (fun _ => rfl) n p b s
@[simp] theorem tapHeard_evMus (n p b) (s : State) : (tapHeard n p b s).evMus = s.evMus :=
  tapHeard_part State.evMus (fun _ => rfl) n p b s
@[simp] theorem tapHeard_clks (n p b) (s : State) : (tapHeard n p b s).clks = s.clks :=
  tapHeard_part State.clks (fun _ => rfl) n p b s
@[simp] theorem tapHeard_keel (n p b) (s : State) : (tapHeard n p b s).keel = s.keel :=
  tapHeard_part State.keel (fun _ => rfl) n p b s
@[simp] theorem tapHeard_nd (n p b) (s : State) (i : Node) : nd (tapHeard n p b s) i = nd s i :=
  tapHeard_part (nd · i) (fun _ => by cases i <;> rfl) n p b s
@[simp] theorem tapHeard_muster (n p b) (s : State) (i : Node) : mus (tapHeard n p b s) i = mus s i := by
  cases i <;> simp [mus]
@[simp] theorem tapHeard_grp (n p b) (s : State) (i : Node) (k : Nat) : grp (tapHeard n p b s) i k = grp s i k := by
  simp [grp]

/-- A register outside the block of the channels reads as before a stamp. -/
theorem rd_tapHeard (n : Node) (p b : Nat) (s : State) {a : Nat} (ha : ¬ ticBlock a) :
    rd (tapHeard n p b s) a = rd s a := by
  have h : (unheard (tapHeard n p b s)).2 a = (unheard s).2 a := by rw [unheard_tapHeard]
  simpa [unheard, ha] using h

/-- The correction of a port's lane mode is read outside the block of the channels (R58, R88). -/
theorem pipeAt_not_ticBlock (s : State) (p : Nat) : ¬ ticBlock (pipeAt s p + 4) := by
  simp only [pipeAt, ticBlock, A.TX_PIPE]; split <;> omega

@[simp] theorem rxStamp_tapHeard (n : Node) (p b : Nat) (s : State) :
    rxStamp (tapHeard n p b s) n p b = rxStamp s n p b := by
  cases n with
  | keel =>
    have hpipe : pipeAt (tapHeard .keel p b s) p = pipeAt s p := 
      tapHeard_part (pipeAt · p) (fun _ => rfl) .keel p b s
    simp [rxStamp, withCopy, stampAt, timeUnc, unsure, now64, now, rn, hpipe, rd_tapHeard _ _ _ _ (pipeAt_not_ticBlock s p)]
  | evxus => rfl

@[simp] theorem arrivePlane_tapHeard (n : Node) (p b kind : Nat) (m : Raw) (s : State) :
    arrivePlane (tapHeard n p b s) n p kind m = arrivePlane s n p kind m :=
  tapHeard_part (arrivePlane · n p kind m) (fun _ => by cases n <;> rfl) n p b s

theorem groupOn_tapHeard (n : Node) (p b k : Nat) (s : State) : groupOn (tapHeard n p b s) n k = groupOn s n k := by
  cases n with
  | keel => simp only [groupOn, flag]; rw [rd_tapHeard _ _ _ _ (by simp only [ticBlock, A.GRP_CFG]; omega)]
  | evxus => rfl

@[simp] theorem arriveOk_tapHeard (n : Node) (p b k : Nat) (m : Raw) (s : State) :
    arriveOk (tapHeard n p b s) n k p m = arriveOk s n k p m := by
  simp only [arriveOk, tapHeard_grp, groupOn_tapHeard]

@[simp] theorem frozenFor_tapHeard (n : Node) (p b k step : Nat) (s : State) :
    frozenFor (tapHeard n p b s) n k step = frozenFor s n k step :=
  tapHeard_part (frozenFor · n k step) (fun _ => by cases n <;> rfl) n p b s

@[simp] theorem countedFull_tapHeard (n : Node) (p b k q : Nat) (c : Counted) (s : State) :
    countedFull n k q c (tapHeard n p b s) = countedFull n k q c s :=
  tapHeard_part (countedFull n k q c ·) (fun _ => by cases n <;> rfl) n p b s

/-! ## The records of the groups -/

/-- The muster side of both nodes, and the clocks, on which settling depends. -/
def records (s : State) : MusterSt × MusterSt × ClkSt := (s.mus, s.evMus, s.clks)

theorem grp_of_records {s t : State} (h : records t = records s) (n : Node) (k : Nat) : grp t n k = grp s n k := by
  simp only [records, Prod.mk.injEq] at h
  obtain ⟨hkeel, hevx, -⟩ := h
  cases n <;> simp [grp, mus, hkeel, hevx]

theorem mus_of_records {s t : State} (h : records t = records s) : t.mus = s.mus := congrArg Prod.fst h

theorem clks_of_records {s t : State} (h : records t = records s) : t.clks = s.clks := congrArg (fun r => r.2.2) h

@[simp] theorem records_emit (o : Out) (s : State) : records (emit o s) = records s := rfl
@[simp] theorem records_setNd (n : Node) (x : NodeSt) (s : State) : records (setNd n x s) = records s := by cases n <;> rfl
@[simp] theorem records_modPort (n : Node) (p : Nat) (f : Port → Port) (s : State) :
    records (modPort n p f s) = records s := records_setNd n _ s
@[simp] theorem records_raiseFlag (a i inst cls : Nat) (s : State) : records (raiseFlag a i inst cls s) = records s := by
  simp [records]
@[simp] theorem records_countEvent (a inst cls : Nat) (s : State) : records (countEvent a inst cls s) = records s := by
  simp [records]
@[simp] theorem records_tapHeard (n : Node) (p b : Nat) (s : State) : records (tapHeard n p b s) = records s := by
  simp [records]

@[simp] theorem records_sendMsg (n : Node) (p type : Nat) (body : List Byte) (s : State) :
    records (sendMsg n p type body s) = records s := records_modPort n p _ s
@[simp] theorem records_ctrlMsg (dst type : Nat) (body : List Byte) (s : State) :
    records (ctrlMsg dst type body s) = records s := by simp [ctrlMsg]

@[simp] theorem records_sendUp (n : Node) (k q : Nat) (body : List Byte) (s : State) :
    records (sendUp n k q body s) = records s := by
  unfold sendUp
  split
  · split
    · rfl
    · split
      · cases partnerNode s <;> simp
      · split <;> simp
  · rfl

@[simp] theorem records_mirrorOut (kind : Nat) (words : List Nat) (s : State) :
    records (mirrorOut kind words s) = records s := by
  unfold mirrorOut
  split
  · exact whenDo_part records _ _ (fun s => records_emit _ s) s
  · split <;> rfl

@[simp] theorem records_mirrorGroup (n : Node) (k : Nat) (s : State) : records (mirrorGroup n k s) = records s := by
  cases n with
  | keel => exact whenDo_part records _ _ (fun s => records_mirrorOut _ _ s) s
  | evxus => rfl

@[simp] theorem records_grpCount (n : Node) (a : Nat) (s : State) : records (grpCount n a s) = records s := by
  cases n <;> rfl

@[simp] theorem records_splitNote (n : Node) (k : Nat) (l : List Counted) (s : State) :
    records (splitNote n k l s) = records s :=
  whenDo_part records _ _ (fun s => by cases n <;> simp) s

/-- Settling leaves the groups alone while VAUX is there. -/
theorem grp_settle (n : Node) (k : Nat) {s : State} (h : s.clks.vauxLow = false) : grp (settle s) n k = grp s n k := by
  simp [grp, h]

/-! ## A group and its planes after a change -/

@[simp] theorem grp_modGrp_self (n : Node) (k : Nat) (f : Group → Group) (s : State) :
    grp (modGrp n k f s) n k = f (grp s n k) := by
  simp [grp, modGrp, tmod]

@[simp] theorem modGrp_clks (n : Node) (k : Nat) (f : Group → Group) (s : State) : (modGrp n k f s).clks = s.clks :=
  setMus_clks n _ s
@[simp] theorem modGrp_out (n : Node) (k : Nat) (f : Group → Group) (s : State) : (modGrp n k f s).out = s.out :=
  setMus_out n _ s
@[simp] theorem modPlane_clks (n : Node) (k q : Nat) (f : Plane → Plane) (s : State) :
    (modPlane n k q f s).clks = s.clks := modGrp_clks n k _ s
@[simp] theorem modPlane_out (n : Node) (k q : Nat) (f : Plane → Plane) (s : State) :
    (modPlane n k q f s).out = s.out := modGrp_out n k _ s

@[simp] theorem grp_modPlane_self (n : Node) (k q : Nat) (f : Plane → Plane) (s : State) :
    grp (modPlane n k q f s) n k =
      { grp s n k with planes := (grp s n k).planes.set q (f (planeOf (grp s n k) q)) } :=
  grp_modGrp_self n k _ s

/-- A plane that the group has reads as it was put. -/
theorem planeOf_set {g : Group} {l : List Plane} {q : Nat} (x : Plane) (hl : g.planes = l.set q x) (hq : q < l.length) :
    planeOf g q = x := by
  simp [planeOf, hl, hq]

theorem planeOf_modPlane_self {n : Node} {k q : Nat} {s : State} (f : Plane → Plane)
    (hq : q < (grp s n k).planes.length) :
    planeOf (grp (modPlane n k q f s) n k) q = f (planeOf (grp s n k) q) :=
  planeOf_set _ (by rw [grp_modPlane_self]) hq

theorem ownPlane_lt_two (s : State) : ownPlane s < 2 := by
  unfold ownPlane b2n; split <;> omega

/-- A single ARRIVE counts in one of the two planes (R175). -/
theorem arrivePlane_single_lt_two (s : State) (n : Node) (p : Nat) (m : Raw) : arrivePlane s n p 0 m < 2 := by
  cases n with
  | keel => simpa [arrivePlane] using ownPlane_lt_two s
  | evxus => simp only [arrivePlane, bitsN]; omega

/-! ## Sending, counting and holding (R178, R180) -/

/-- On an uplink that is up, and is not a lost twin link, the message goes out (R180, R378). -/
theorem sendUp_eq_sendMsg {n : Node} {k q p : Nat} {s : State} (body : List Byte) (hup : uplinkOf s n k q = some p)
    (hserve : nodeServes s n = true) (htwin : ¬ (n = .keel ∧ p = 512 ∧ s.tw.link = .linkLost))
    (hlink : (port s n p).linkUp = true) (hstand : linkStands s n p = true) :
    sendUp n k q body s = sendMsg n p tArrive body s := by
  simp only [sendUp, hup, hserve, hlink, hstand, htwin, not_true, if_false, if_true, and_self]

/-- Sending the aggregate changes of the groups only when the plane's last aggregate was sent. -/
theorem grp_sendAgg (n : Node) (k q : Nat) (s : State) :
    grp (sendAgg n k q s) n k = { grp s n k with
      planes := (grp s n k).planes.set q { planeOf (grp s n k) q with lastSent := pe s n } } := by
  simp only [sendAgg, grp_modPlane_self, grp_of_records (records_sendUp ..)]

@[simp] theorem sendAgg_clks (n : Node) (k q : Nat) (s : State) : (sendAgg n k q s).clks = s.clks := by
  simp only [sendAgg, modPlane_clks, clks_of_records (records_sendUp ..)]

/-- Has an arrival of a child been counted, or held, already (R178)? -/
def listed (l : List Counted) (c : Counted) : Bool := l.any (fun y => y.node == c.node && y.aggregate == c.aggregate)

/-- A repeated single changes nothing (R178). -/
theorem countIn_repeated {n : Node} {k q : Nat} {c : Counted} {s : State} (hc : c.aggregate = false)
    (h : listed (planeOf (grp s n k) q).counted c = true) : countIn n k q c s = s :=
  if_pos ⟨h, by rw [hc]; exact Bool.false_ne_true⟩

/-- Sending the aggregate, or not, leaves the arrivals of the plane and the rest of the group. -/
theorem grp_whenDo_sendAgg {n : Node} {k q : Nat} (send : Bool) {s : State} (hq : q < (grp s n k).planes.length) :
    ∃ sent, grp (whenDo send (sendAgg n k q) s) n k = { grp s n k with
      planes := (grp s n k).planes.set q { planeOf (grp s n k) q with lastSent := sent } } := by
  cases send with
  | true => exact ⟨_, grp_sendAgg n k q s⟩
  | false =>
    refine ⟨(planeOf (grp s n k) q).lastSent, ?_⟩
    show grp s n k = { grp s n k with planes := (grp s n k).planes.set q (planeOf (grp s n k) q) }
    simp [planeOf, hq]

/-- What counting a new arrival does to the groups at once, before counters, sends and the mirrored record. -/
def muster (n : Node) (k q : Nat) (c : Counted) (s : State) : State :=
  modGrp n k (fun g => { g with state := if g.state = .idle then .mustering else g.state })
    (modPlane n k q (fun x => { x with
      counted := x.counted ++ [c]
      lastCounted := if c.aggregate then x.lastCounted else tput c.node.toNat ((grp s n k).step + 1) x.lastCounted }) s)

theorem grp_muster (n : Node) (k q : Nat) (c : Counted) (s : State) :
    ∃ last, grp (muster n k q c s) n k = { grp s n k with
      planes := (grp s n k).planes.set q { planeOf (grp s n k) q with
        counted := (planeOf (grp s n k) q).counted ++ [c]
        lastCounted := last }
      state := if (grp s n k).state = .idle then .mustering else (grp s n k).state } :=
  ⟨_, by rw [muster, grp_modGrp_self, grp_modPlane_self]⟩

/-- Counting a new arrival is that change, then counters, the aggregate if it is due, and the mirrored record (R178, R180). -/
theorem countIn_eq_of_new {n : Node} {k q : Nat} {c : Counted} {s : State}
    (h : listed (planeOf (grp s n k) q).counted c = false) :
    ∃ (send : Bool) (t : State), records t = records (muster n k q c s) ∧
      countIn n k q c s = mirrorGroup n k (whenDo send (sendAgg n k q) t) := by
  unfold listed at h
  unfold countIn
  simp only [h, Bool.false_eq_true, false_and, if_false]
  refine ⟨_, _, ?_, rfl⟩
  rw [records_splitNote, whenDo_part records _ _ (fun s => records_grpCount n _ s)]
  rfl

/-- An arrival counted for the first time stands last in its plane and starts the muster; the rest of the group, but for what
the plane keeps of its sends and of its members' steps, is as before (R178). -/
theorem grp_countIn_new {n : Node} {k q : Nat} {c : Counted} {s : State}
    (h : listed (planeOf (grp s n k) q).counted c = false) (hq : q < (grp s n k).planes.length) :
    ∃ x : Plane, x.counted = (planeOf (grp s n k) q).counted ++ [c] ∧
      grp (countIn n k q c s) n k = { grp s n k with
        planes := (grp s n k).planes.set q x
        state := if (grp s n k).state = .idle then .mustering else (grp s n k).state } := by
  obtain ⟨send, t, ht, heq⟩ := countIn_eq_of_new h
  obtain ⟨last, hlast⟩ := grp_muster n k q c s
  rw [← grp_of_records ht] at hlast
  have hlen : q < (grp t n k).planes.length := by rw [hlast, List.length_set]; exact hq
  obtain ⟨sent, hsent⟩ := grp_whenDo_sendAgg send hlen
  refine ⟨{ planeOf (grp t n k) q with lastSent := sent }, ?_, ?_⟩
  · rw [planeOf_set _ (congrArg Group.planes hlast) hq]
  · rw [heq, grp_of_records (records_mirrorGroup ..), hsent, hlast, List.set_set]

theorem countIn_clks {n : Node} {k q : Nat} {c : Counted} {s : State}
    (h : listed (planeOf (grp s n k) q).counted c = false) : (countIn n k q c s).clks = s.clks := by
  obtain ⟨send, t, ht, heq⟩ := countIn_eq_of_new h
  rw [heq, clks_of_records (records_mirrorGroup ..), whenDo_part State.clks _ _ (fun s => sendAgg_clks n k q s),
    clks_of_records ht]
  simp [muster]

/-- An arrival held for the first time stands last among the held ones of its plane; the counted ones stay (R178). -/
theorem planeOf_holdIn_new {n : Node} {k q : Nat} {c : Counted} {s : State}
    (h : listed (planeOf (grp s n k) q).held c = false) (hq : q < (grp s n k).planes.length) :
    planeOf (grp (holdIn n k q c s) n k) q =
      { planeOf (grp s n k) q with held := (planeOf (grp s n k) q).held ++ [c] } := by
  unfold listed at h
  rw [holdIn, planeOf_modPlane_self _ hq, h]
  rfl

/-! ## ARRIVE_RECEIVE -/

/-- The group that an ARRIVE names (R176). -/
abbrev arriveGroup (m : Raw) : Nat := getBE m 12 1 % 64

/-- A whole ARRIVE comes at a port of a node that runs, over a link that is up (R52, R53). -/
structure Arriving (s : State) (n : Node) (p : Nat) (m : Raw) : Prop where
  runs : nodeRuns s n = true
  up : (port s n p).linkUp = true
  works : portWorks s n p = true
  stands : linkStands s n p = true
  crc : mCrcOk m = true
  type : mType m = 5

/-- It is a single ARRIVE of a member by its port, at an aggregator, for a step whose set is not frozen (R177, R179, R188). -/
structure SingleArriving (s : State) (n : Node) (p : Nat) (m : Raw) : Prop extends Arriving s n p m where
  aggregates : aggregates s n = true
  single : getBE m 13 1 = 0
  ok : arriveOk s n (arriveGroup m) p m = true
  open_ : frozenFor s n (arriveGroup m) (getBE m 16 8) = false

/-- A message that arrives reaches the channels with its stamp, and an aggregator takes it (R127, R178). -/
theorem exec_arriveReceive {s : State} {n : Node} {p : Nat} {m : Raw} (h : Arriving s n p m) (b : Nat) :
    exec (.arriveReceive n p b m) s =
      .next (settle (whenDo (aggregates s n) (arriveTake n p b m) (tapHeard n p b s))) := by
  obtain ⟨hruns, hup, hworks, hstands, hcrc, htype⟩ := h
  show execArriveReceive n p b m s = _
  simp [execArriveReceive, done, onMsg, hruns, hup, hworks, hstands, hcrc, htype]

/-- What a single ARRIVE counts as: with its own stamp, or the receive stamp where its own has no assured bound (R177). -/
def singleOf (n : Node) (p b : Nat) (m : Raw) (s : State) : Counted :=
  let ts := substStamp (countedOf m).latest (rxStamp s n p b)
  countedFull n (arriveGroup m) (arrivePlane s n p 0 m) { countedOf m with
    latest := ts.1
    earliest := if ts.2 then (rxStamp s n p b).ft else (countedOf m).earliest
    subst := ts.2 } s

/-- The state in which a single ARRIVE is held against the step: the channels have its stamp, and a substituted stamp is
counted (R127, R177). -/
def singleHeard (n : Node) (p b : Nat) (m : Raw) (s : State) : State :=
  whenDo (substStamp (countedOf m).latest (rxStamp s n p b)).2 (grpCount n (A.SUBST_CNT (arriveGroup m)))
    (tapHeard n p b s)

/-- A single ARRIVE goes by its step (R178). -/
theorem exec_single {s : State} {n : Node} {p : Nat} {m : Raw} (h : SingleArriving s n p m) (b : Nat) :
    exec (.arriveReceive n p b m) s = .next (settle (arriveStep n (arriveGroup m) (arrivePlane s n p 0 m)
      (getBE m 16 8) (singleOf n p b m s) (singleHeard n p b m s))) := by
  rw [exec_arriveReceive h.toArriving b, h.aggregates]
  simp [whenDo, arriveTake, singleTake, h.ok, h.single, h.open_, singleOf, singleHeard]

@[simp] theorem records_singleHeard (n : Node) (p b : Nat) (m : Raw) (s : State) :
    records (singleHeard n p b m s) = records s := by
  rw [singleHeard, whenDo_part records _ _ (fun s => records_grpCount n _ s), records_tapHeard]

@[simp] theorem grp_singleHeard (n : Node) (p b : Nat) (m : Raw) (s : State) (i : Node) (k : Nat) :
    grp (singleHeard n p b m s) i k = grp s i k :=
  grp_of_records (records_singleHeard n p b m s) i k

/-- Every register but those of the channels and the count of substituted stamps reads as before. -/
theorem rd_singleHeard (n : Node) (p b : Nat) (m : Raw) (s : State) {a : Nat} (ht : ¬ ticBlock a)
    (ha : a ≠ A.SUBST_CNT (arriveGroup m)) : rd (singleHeard n p b m s) a = rd s a := by
  have hcount (s : State) : rd (grpCount n (A.SUBST_CNT (arriveGroup m)) s) a = rd s a := by
    cases n with
    | keel => exact rd_wr_ne _ s ha
    | evxus => rfl
  rw [singleHeard, whenDo_part (rd · a) _ _ hcount, rd_tapHeard _ _ _ _ ht]

@[simp] theorem countedFull_node (n : Node) (k q : Nat) (c : Counted) (s : State) : (countedFull n k q c s).node = c.node := by
  unfold countedFull; dsimp only; split <;> rfl
@[simp] theorem countedFull_aggregate (n : Node) (k q : Nat) (c : Counted) (s : State) :
    (countedFull n k q c s).aggregate = c.aggregate := by
  unfold countedFull; dsimp only; split <;> rfl
@[simp] theorem singleOf_node (n : Node) (p b : Nat) (m : Raw) (s : State) :
    (singleOf n p b m s).node = (countedOf m).node := countedFull_node ..
@[simp] theorem singleOf_aggregate (n : Node) (p b : Nat) (m : Raw) (s : State) :
    (singleOf n p b m s).aggregate = (countedOf m).aggregate := countedFull_aggregate ..

/-! ## By its step (R178) -/

section
variable {n : Node} {k q step : Nat} {c : Counted} {s : State}

theorem arriveStep_inHand (h : step = (grp s n k).step + 1) : arriveStep n k q step c s = countIn n k q c s :=
  if_pos h

theorem arriveStep_next (h : step = (grp s n k).step + 2) : arriveStep n k q step c s = holdIn n k q c s := by
  unfold arriveStep; dsimp only
  rw [if_neg (by omega), if_pos h]

theorem arriveStep_earlier (h : step < (grp s n k).step + 1) :
    arriveStep n k q step c s = grpCount n (A.STALE_ARR k) s := by
  unfold arriveStep; dsimp only
  rw [if_neg (by omega), if_neg (by omega), if_pos h]

theorem arriveStep_ahead (h : (grp s n k).step + 2 < step) :
    arriveStep n k q step c s = grpCount n (A.AHEAD_ARR k) s := by
  unfold arriveStep; dsimp only
  rw [if_neg (by omega), if_neg (by omega), if_neg (by omega)]

end

/-! ## The package as a contributor (R20, R175) -/

/-- The package's own arrival for the next step (R20). -/
def ownArrival (k : Nat) (s : State) : Counted :=
  let t := stampAt s .keel (now64 s .keel) 800
  countedFull .keel k (ownPlane s) {
    node := BitVec.ofNat 20 (nodeId s .keel), aggregate := false, arrived := 1, expected := 1
    latest := (substStamp t t).1, earliest := t.ft, subst := (substStamp t t).2, conflict := false, late := false } s

@[simp] theorem ownArrival_node (k : Nat) (s : State) : (ownArrival k s).node = BitVec.ofNat 20 (nodeId s .keel) :=
  countedFull_node ..
@[simp] theorem ownArrival_aggregate (k : Nat) (s : State) : (ownArrival k s).aggregate = false :=
  countedFull_aggregate ..

/-- The state in which the package counts its own arrival: the step it arrives for is noted, and a stamp without an assured
bound is counted (R177). -/
def ownNoted (k : Nat) (s : State) : State :=
  let t := stampAt s .keel (now64 s .keel) 800
  whenDo (substStamp t t).2 (grpCount .keel (A.SUBST_CNT k))
    (modGrp .keel k (fun g => { g with adjArrived := (grp s .keel k).step + 1 }) s)

theorem records_ownNoted (k : Nat) (s : State) : records (ownNoted k s) =
    records (modGrp .keel k (fun g => { g with adjArrived := (grp s .keel k).step + 1 }) s) :=
  whenDo_part records _ _ (fun s => records_grpCount .keel _ s) _

@[simp] theorem grp_ownNoted (k : Nat) (s : State) :
    grp (ownNoted k s) .keel k = { grp s .keel k with adjArrived := (grp s .keel k).step + 1 } := by
  rw [grp_of_records (records_ownNoted k s), grp_modGrp_self]

@[simp] theorem ownNoted_clks (k : Nat) (s : State) : (ownNoted k s).clks = s.clks := by
  rw [clks_of_records (records_ownNoted k s), modGrp_clks]

/-- A package that serves, whose sets are done and which has not arrived for the step counts its own arrival; what it sends to
its twin then leaves the groups (R20, R175). -/
theorem records_adjArrive {k : Nat} {s : State} (hon : groupOn s .keel k = true)
    (hcontrib : (grp s .keel k).cfg.adjContrib = true) (hserve : nodeServes s .keel = true) (hready : adjReady s k = true)
    (hfirst : (grp s .keel k).adjArrived ≠ (grp s .keel k).step + 1) :
    records (adjArrive k s) = records (countIn .keel k (ownPlane s) (ownArrival k s) (ownNoted k s)) := by
  have hgo : ¬ (¬ (groupOn s .keel k ∧ (grp s .keel k).cfg.adjContrib ∧ nodeServes s .keel ∧ adjReady s k) ∨
      (grp s .keel k).adjArrived = (grp s .keel k).step + 1) := by
    simp [hon, hcontrib, hserve, hready, hfirst]
  unfold adjArrive
  dsimp only
  rw [if_neg hgo]
  split
  · cases partnerNode _ with
    | none => rfl
    | some d => exact records_ctrlMsg d tArrive _ _
  · split
    · exact records_sendMsg .keel 512 tArrive _ _
    · rfl

end Sys2Proof.Laws

namespace Sys2Proof.Proofs
open Sys2Proof.Machine Sys2Proof.Laws

/-! ## Single ARRIVEs, by their step -/

section
variable {s : State} {n : Node} {p : Nat} {m : Raw}

/-- R177, R178: a single for the step in hand is counted once, and starts the muster. -/
theorem single_inHand_counted (h : SingleArriving s n p m) (b : Nat)
    (hplanes : (grp s n (arriveGroup m)).planes.length = 2)
    (hstep : getBE m 16 8 = (grp s n (arriveGroup m)).step + 1)
    (hnew : listed (planeOf (grp s n (arriveGroup m)) (arrivePlane s n p 0 m)).counted (countedOf m) = false) :
    Completes (.arriveReceive n p b m) s (fun t =>
      (planeOf (grp t n (arriveGroup m)) (arrivePlane s n p 0 m)).counted =
        (planeOf (grp s n (arriveGroup m)) (arrivePlane s n p 0 m)).counted ++ [singleOf n p b m s] ∧
      (grp t n (arriveGroup m)).state =
        (if (grp s n (arriveGroup m)).state = .idle then .mustering else (grp s n (arriveGroup m)).state) ∧
      (grp t n (arriveGroup m)).step = (grp s n (arriveGroup m)).step) := by
  have hq : arrivePlane s n p 0 m < (grp s n (arriveGroup m)).planes.length := by
    rw [hplanes]; exact arrivePlane_single_lt_two s n p m
  have hnew' : listed (planeOf (grp (singleHeard n p b m s) n (arriveGroup m)) (arrivePlane s n p 0 m)).counted
      (singleOf n p b m s) = false := by
    simpa only [listed, grp_singleHeard, singleOf_node, singleOf_aggregate] using hnew
  have hclks := (countIn_clks hnew').trans (clks_of_records (records_singleHeard n p b m s))
  obtain ⟨x, hx, hg⟩ := grp_countIn_new hnew' (by rwa [grp_singleHeard])
  rw [grp_singleHeard] at hx hg
  refine ⟨_, exec_single h b, fun hv => ?_⟩
  dsimp only
  rw [arriveStep_inHand (by rw [grp_singleHeard]; exact hstep), grp_settle n _ (by rw [hclks]; exact hv), hg]
  exact ⟨by rw [planeOf_set x rfl hq, hx], rfl, rfl⟩

/-- R178: one for the step after it is held. -/
theorem single_next_held (h : SingleArriving s n p m) (b : Nat)
    (hplanes : (grp s n (arriveGroup m)).planes.length = 2)
    (hstep : getBE m 16 8 = (grp s n (arriveGroup m)).step + 2)
    (hnew : listed (planeOf (grp s n (arriveGroup m)) (arrivePlane s n p 0 m)).held (countedOf m) = false) :
    Completes (.arriveReceive n p b m) s (fun t =>
      (planeOf (grp t n (arriveGroup m)) (arrivePlane s n p 0 m)).held =
        (planeOf (grp s n (arriveGroup m)) (arrivePlane s n p 0 m)).held ++ [singleOf n p b m s] ∧
      (planeOf (grp t n (arriveGroup m)) (arrivePlane s n p 0 m)).counted =
        (planeOf (grp s n (arriveGroup m)) (arrivePlane s n p 0 m)).counted) := by
  have hq : arrivePlane s n p 0 m < (grp s n (arriveGroup m)).planes.length := by
    rw [hplanes]; exact arrivePlane_single_lt_two s n p m
  have hnew' : listed (planeOf (grp (singleHeard n p b m s) n (arriveGroup m)) (arrivePlane s n p 0 m)).held
      (singleOf n p b m s) = false := by
    simpa only [listed, grp_singleHeard, singleOf_node, singleOf_aggregate] using hnew
  have hclks : (holdIn n (arriveGroup m) (arrivePlane s n p 0 m) (singleOf n p b m s) (singleHeard n p b m s)).clks =
      s.clks := (modPlane_clks ..).trans (clks_of_records (records_singleHeard n p b m s))
  refine ⟨_, exec_single h b, fun hv => ?_⟩
  dsimp only
  rw [arriveStep_next (by rw [grp_singleHeard]; exact hstep), grp_settle n _ (by rw [hclks]; exact hv),
    planeOf_holdIn_new hnew' (by rwa [grp_singleHeard]), grp_singleHeard]
  exact ⟨rfl, rfl⟩

/-- R178: a copy of a counted single changes no muster. -/
theorem single_repeated_ignored (h : SingleArriving s .keel p m) (b : Nat)
    (hstep : getBE m 16 8 = (grp s .keel (arriveGroup m)).step + 1)
    (hold : listed (planeOf (grp s .keel (arriveGroup m)) (arrivePlane s .keel p 0 m)).counted (countedOf m) = true) :
    Gives (.arriveReceive .keel p b m) s (fun t => t.mus = s.mus) := by
  have hsingle : (singleOf .keel p b m s).aggregate = false := by simp [countedOf, h.single]
  have hold' : listed (planeOf (grp (singleHeard .keel p b m s) .keel (arriveGroup m)) (arrivePlane s .keel p 0 m)).counted
      (singleOf .keel p b m s) = true := by
    simpa only [listed, grp_singleHeard, singleOf_node, singleOf_aggregate] using hold
  refine ⟨_, exec_single h b, ?_⟩
  dsimp only
  rw [arriveStep_inHand (by rw [grp_singleHeard]; exact hstep), countIn_repeated hsingle hold']
  exact mus_of_records (records_singleHeard ..)

/-- A single that only counts in a counter of its group changes no muster. -/
theorem single_counter_only (h : SingleArriving s .keel p m) (b : Nat) {a : Nat} (ht : ¬ ticBlock a)
    (ha : a ≠ A.SUBST_CNT (arriveGroup m))
    (hstep : arriveStep .keel (arriveGroup m) (arrivePlane s .keel p 0 m) (getBE m 16 8) (singleOf .keel p b m s)
      (singleHeard .keel p b m s) = grpCount .keel a (singleHeard .keel p b m s)) :
    Gives (.arriveReceive .keel p b m) s (fun t => t.mus = s.mus ∧ rd t a = rd s a + 1) := by
  refine ⟨_, exec_single h b, ?_⟩
  dsimp only
  rw [hstep]
  refine ⟨mus_of_records ((records_grpCount ..).trans (records_singleHeard ..)), ?_⟩
  rw [grpCount, bump_wr, rd_wr_self, rd_singleHeard _ _ _ _ _ ht ha]

/-- R178: a single further ahead than the step after is counted as ahead. -/
theorem single_ahead_counted (h : SingleArriving s .keel p m) (b : Nat)
    (hstep : (grp s .keel (arriveGroup m)).step + 2 < getBE m 16 8) :
    Gives (.arriveReceive .keel p b m) s (fun t =>
      t.mus = s.mus ∧ rd t (A.AHEAD_ARR (arriveGroup m)) = rd s (A.AHEAD_ARR (arriveGroup m)) + 1) :=
  single_counter_only h b (by simp only [ticBlock, A.AHEAD_ARR]; omega) (by simp only [A.AHEAD_ARR, A.SUBST_CNT]; omega)
    (arriveStep_ahead (by rw [grp_singleHeard]; exact hstep))

/-- R178: a single of an earlier step is counted as stale. -/
theorem single_earlier_stale (h : SingleArriving s .keel p m) (b : Nat)
    (hstep : getBE m 16 8 < (grp s .keel (arriveGroup m)).step + 1) :
    Gives (.arriveReceive .keel p b m) s (fun t =>
      t.mus = s.mus ∧ rd t (A.STALE_ARR (arriveGroup m)) = rd s (A.STALE_ARR (arriveGroup m)) + 1) :=
  single_counter_only h b (by simp only [ticBlock, A.STALE_ARR]; omega) (by simp only [A.STALE_ARR, A.SUBST_CNT]; omega)
    (arriveStep_earlier (by rw [grp_singleHeard]; exact hstep))

/-- R179: an ARRIVE that is not a child's by its path is counted as foreign. -/
theorem foreign_counted (h : Arriving s .keel p m) (b : Nat) (hpath : arriveOk s .keel (arriveGroup m) p m = false) :
    Gives (.arriveReceive .keel p b m) s (fun t =>
      t.mus = s.mus ∧ rd t (A.FOREIGN_ARR (arriveGroup m)) = rd s (A.FOREIGN_ARR (arriveGroup m)) + 1) := by
  have htake : whenDo (aggregates s .keel) (arriveTake .keel p b m) (tapHeard .keel p b s) =
      countEvent (A.FOREIGN_ARR (arriveGroup m)) p 11 (tapHeard .keel p b s) := by
    simp [whenDo, aggregates, arriveTake, foreign, hpath]
  refine ⟨_, exec_arriveReceive h b, ?_⟩
  dsimp only
  rw [htake]
  refine ⟨mus_of_records ((records_countEvent ..).trans (records_tapHeard ..)), ?_⟩
  rw [rd_countEvent _ _ _ _ _ (by simp only [dieOf, A.FOREIGN_ARR, arriveGroup]; split <;> omega) (by decide)
      (.inr (by simp only [A.FOREIGN_ARR]; omega)), bump_wr, rd_wr_self,
    rd_tapHeard _ _ _ _ (by simp only [ticBlock, A.FOREIGN_ARR]; omega)]

end

/-! ## The aggregate, and the package itself -/

/-- R180: AGG_PERIOD after the last one, the aggregate of a plane that is not complete goes up again. -/
theorem aggPeriod_resends {k p : Nat} {s : State} (hplanes : (grp s .keel k).planes.length = 2)
    (hcounted : (planeOf (grp s .keel k) (ownPlane s)).counted ≠ [])
    (hopen : planeComplete s .keel k (ownPlane s) = false)
    (hdue : (planeOf (grp s .keel k) (ownPlane s)).lastSent + usCyc (rn s A.AGG_PERIOD) ≤ pe s .keel)
    (hup : uplinkOf s .keel k (ownPlane s) = some p) (hlink : (port s .keel p).linkUp = true)
    (hstand : linkStands s .keel p = true) (htwin : ¬ (p = 512 ∧ s.tw.link = .linkLost))
    (hserve : nodeServes s .keel = true) :
    Gives (.aggPeriod .keel k) s (fun t =>
      t.out = .msg .keel p (mkMsg tArrive ((port s .keel p).seqs.getD 4 0).toNat (senderOf s .keel p)
        (aggBody s .keel k (ownPlane s) ((grp s .keel k).step + 1) (planeOf (grp s .keel k) (ownPlane s)).counted
          (planeArrived (grp s .keel k) (ownPlane s)) (planeExpected s .keel k (ownPlane s)) false)) :: s.out ∧
      planeOf (grp t .keel k) (ownPlane s) =
        { planeOf (grp s .keel k) (ownPlane s) with lastSent := pe s .keel }) := by
  have hsend : aggPeriod .keel k s = sendAgg .keel k (ownPlane s) s := by
    have hnow : ¬ ((planeOf (grp s .keel k) (ownPlane s)).counted.isEmpty = true ∨
        planeComplete s .keel k (ownPlane s) = true ∨
        pe s .keel - (planeOf (grp s .keel k) (ownPlane s)).lastSent < usCyc (rn s A.AGG_PERIOD)) := by
      rw [List.isEmpty_iff, hopen]
      rintro (hempty | hcomplete | hearly)
      · exact hcounted hempty
      · exact Bool.false_ne_true hcomplete
      · omega
    exact if_neg hnow
  refine ⟨sendAgg .keel k (ownPlane s) s, congrArg (fun t => Host.Outcome.next (settle t)) hsend, ?_, ?_⟩
  · rw [sendAgg, modPlane_out, sendUp_eq_sendMsg _ hup hserve (fun h => htwin h.2) hlink hstand]
    rfl
  · exact planeOf_set _ (congrArg Group.planes (grp_sendAgg ..)) (by rw [hplanes]; exact ownPlane_lt_two s)

/-- R20, R175: the package arrives for the step in hand when its sets are done. -/
theorem adjArrive_counted {k : Nat} {s : State} (hon : groupOn s .keel k = true)
    (hcontrib : (grp s .keel k).cfg.adjContrib = true) (hserve : nodeServes s .keel = true) (hready : adjReady s k = true)
    (hfirst : (grp s .keel k).adjArrived ≠ (grp s .keel k).step + 1) (hplanes : (grp s .keel k).planes.length = 2)
    (hnew : listed (planeOf (grp s .keel k) (ownPlane s)).counted (ownArrival k s) = false) :
    Completes (.adjArrive k) s (fun t => (grp t .keel k).adjArrived = (grp s .keel k).step + 1 ∧
      (planeOf (grp t .keel k) (ownPlane s)).counted =
        (planeOf (grp s .keel k) (ownPlane s)).counted ++ [ownArrival k s]) := by
  have hq : ownPlane s < (grp s .keel k).planes.length := by rw [hplanes]; exact ownPlane_lt_two s
  have hrec := records_adjArrive hon hcontrib hserve hready hfirst
  have hnew' : listed (planeOf (grp (ownNoted k s) .keel k) (ownPlane s)).counted (ownArrival k s) = false := by
    rw [grp_ownNoted]; exact hnew
  have hclks := (clks_of_records hrec).trans ((countIn_clks hnew').trans (ownNoted_clks k s))
  obtain ⟨x, hx, hg⟩ := grp_countIn_new hnew' (by rw [grp_ownNoted]; exact hq)
  rw [grp_ownNoted] at hx hg
  refine ⟨settle (adjArrive k s), rfl, fun hv => ?_⟩
  dsimp only
  rw [grp_settle .keel k (by rw [hclks]; exact hv), grp_of_records hrec, hg]
  exact ⟨rfl, by rw [planeOf_set x rfl hq, hx]; rfl⟩

/-- Settles O33: a single ARRIVE of a member goes by its step (counted, held, stale or ahead), and one that is not a child's by
its path is foreign; the aggregate and the package's own arrival follow from what sending and counting do to a plane. -/
theorem arrivals : Obligations.Arrivals := by
  unfold Obligations.Arrivals
  refine ⟨?counted, ?held, ?repeated, ?ahead, ?stale, ?foreign, ?aggregate, ?own⟩
  case counted =>
    intro n p b m s k q g ts hruns hup hworks hstands hcrc htype hagg hsingle hok hopen hplanes hstep hnew
    exact single_inHand_counted ⟨⟨hruns, hup, hworks, hstands, hcrc, htype⟩, hagg, hsingle, hok, hopen⟩ b
      hplanes hstep hnew
  case held =>
    intro n p b m s k q g ts hruns hup hworks hstands hcrc htype hagg hsingle hok hopen hplanes hstep hnew
    exact single_next_held ⟨⟨hruns, hup, hworks, hstands, hcrc, htype⟩, hagg, hsingle, hok, hopen⟩ b
      hplanes hstep hnew
  case repeated =>
    intro p b m s k g hruns hup hworks hstands hcrc htype hsingle hok hopen hstep hold
    have hold' : listed (planeOf g (arrivePlane s .keel p 0 m)).counted (countedOf m) = true := by
      simpa [listed, countedOf, hsingle] using hold
    exact single_repeated_ignored ⟨⟨hruns, hup, hworks, hstands, hcrc, htype⟩, rfl, hsingle, hok, hopen⟩ b hstep hold'
  case ahead =>
    intro p b m s k hruns hup hworks hstands hcrc htype hsingle hok hopen hstep
    exact single_ahead_counted ⟨⟨hruns, hup, hworks, hstands, hcrc, htype⟩, rfl, hsingle, hok, hopen⟩ b hstep
  case stale =>
    intro p b m s k hruns hup hworks hstands hcrc htype hsingle hok hopen hstep
    exact single_earlier_stale ⟨⟨hruns, hup, hworks, hstands, hcrc, htype⟩, rfl, hsingle, hok, hopen⟩ b hstep
  case foreign =>
    intro p b m s k hruns hup hworks hstands hcrc htype hpath
    exact foreign_counted ⟨hruns, hup, hworks, hstands, hcrc, htype⟩ b hpath
  case aggregate =>
    intro k p s q g body hplanes hcounted hopen hdue hup hlink hstand htwin hserve
    exact aggPeriod_resends hplanes hcounted hopen hdue hup hlink hstand (fun h => htwin.mp h) hserve
  case own =>
    intro k s g hon hcontrib hserve hready hfirst hplanes hnew
    have hnew' : listed (planeOf g (ownPlane s)).counted (ownArrival k s) = false := by
      simpa [listed] using hnew
    obtain ⟨t, ht, hpost⟩ := adjArrive_counted hon hcontrib hserve hready hfirst hplanes hnew'
    exact ⟨t, ht, fun hv => ⟨(hpost hv).1, ownArrival k s, ownArrival_node k s, (hpost hv).2⟩⟩

end Sys2Proof.Proofs
end
